-- ==== Sys2Proof/Word.lean ====
section
/-!
DEFINITION. The words of the D18: bytes, secrets, nonces, check codes, the presentation epoch, and the
indices of its fixed families (16 ranges, 8 authorities).
-/

namespace Sys2Proof

/-- One byte of a message frame. -/
abbrev Byte := BitVec 8

/-- 256 bits: a media key, the device root key, a credential, a verifier, a pairing key, a digest
(R45, R46, R70, R73, R114).  As a field of a frame its first byte is the least significant one. -/
abbrev Secret := BitVec 256

/-- 16 random bytes: a salt (R70) or the nonce of a challenge (R115). -/
abbrev Nonce := BitVec 128

/-- A check code of a media key (R44). -/
abbrev Code := BitVec 16

/-- The presentation epoch (R21): 16 bits, wrapping. -/
abbrev Epoch := BitVec 16

/-- The generation of a key slot (R44): 32 bits, wrapping. -/
abbrev Generation := BitVec 32

/-- A range id, 0 to 15 (R1). -/
abbrev RangeId := Fin 16

/-- An authority index, 0 to 7 (R70). -/
abbrev AuthId := Fin 8

/-- A member-by-member map of a fixed family. -/
def mapVec {α β : Type} {n : Nat} (f : α → β) (v : Vector α n) : Vector β n :=
  ⟨(v.toList.map f).toArray, by simp⟩

@[simp] theorem getElem_mapVec {α β : Type} {n : Nat} (f : α → β) (v : Vector α n) (i : Nat)
    (h : i < n) : (mapVec f v)[i] = f v[i] := by
  simp [mapVec]

end Sys2Proof
end

