-- ==== Sys2Proof/Syntax.lean ====
section
/-!
DEFINITION. The commands of the D18: one constructor of `Instr` per row of spec/opcode_table.json.
A request carries the port its frame came on, the frame's tag and the bytes of its payload, which the
device reads at the fixed offsets of R186; an event carries what the world brings with it.
-/

namespace Sys2Proof

/-- The two message ports (R173). -/
inductive Port where
  | drive
  | platform
  deriving DecidableEq, Repr

/-- The request kinds of section 11.3. -/
inductive ReqKind where
  | resolve | unlock | lock | present | standby | geometry | enrol | setRange | dropRange
  | grant | revoke | retire | rekey | setAuthority | setPolicy | freezePolicy | wipe | revert
  | scrubTake | scrubDone | scrubPause | scrubResume | laneHold | laneRelease | restart
  | status | fetch | pair | challenge | checkIn | wipeOrder
  deriving DecidableEq, Repr

/-- The cipher engine's answer to a LOAD slot (R54). -/
inductive LoadAnswer where
  | accepted (code : Code)
  | rejected
  deriving DecidableEq, Repr

/-- The cipher engine's answer to a CLEAR or PROBE slot (R54). -/
inductive HeldAnswer where
  | empty
  | held (code : Code)
  deriving DecidableEq, Repr

/-- The commands. -/
inductive Instr where
  | resolve (port : Port) (tag : Byte) (payload : List Byte)
  | unlock (port : Port) (tag : Byte) (payload : List Byte)
  | lock (port : Port) (tag : Byte) (payload : List Byte)
  | present (port : Port) (tag : Byte) (payload : List Byte)
  | standby (port : Port) (tag : Byte) (payload : List Byte)
  | geometry (port : Port) (tag : Byte) (payload : List Byte)
  | enrol (port : Port) (tag : Byte) (payload : List Byte)
  | setRange (port : Port) (tag : Byte) (payload : List Byte)
  | dropRange (port : Port) (tag : Byte) (payload : List Byte)
  | grant (port : Port) (tag : Byte) (payload : List Byte)
  | revoke (port : Port) (tag : Byte) (payload : List Byte)
  | retire (port : Port) (tag : Byte) (payload : List Byte)
  | rekey (port : Port) (tag : Byte) (payload : List Byte)
  | setAuthorityCredential (port : Port) (tag : Byte) (payload : List Byte)
  | setAuthorityLimit (port : Port) (tag : Byte) (payload : List Byte)
  | setAuthorityEnable (port : Port) (tag : Byte) (payload : List Byte)
  | setAuthorityDisable (port : Port) (tag : Byte) (payload : List Byte)
  | setAuthorityReinstate (port : Port) (tag : Byte) (payload : List Byte)
  | setPolicy (port : Port) (tag : Byte) (payload : List Byte)
  | freezePolicy (port : Port) (tag : Byte) (payload : List Byte)
  | wipe (port : Port) (tag : Byte) (payload : List Byte)
  | revert (port : Port) (tag : Byte) (payload : List Byte)
  | scrubTake (port : Port) (tag : Byte) (payload : List Byte)
  | scrubDone (port : Port) (tag : Byte) (payload : List Byte)
  | scrubPause (port : Port) (tag : Byte) (payload : List Byte)
  | scrubResume (port : Port) (tag : Byte) (payload : List Byte)
  | laneHold (port : Port) (tag : Byte) (payload : List Byte)
  | laneRelease (port : Port) (tag : Byte) (payload : List Byte)
  | restart (port : Port) (tag : Byte) (payload : List Byte)
  | restartTakesEffect
  | status (port : Port) (tag : Byte) (payload : List Byte)
  | fetch (port : Port) (tag : Byte) (payload : List Byte)
  | pair (port : Port) (tag : Byte) (payload : List Byte)
  | challenge (port : Port) (tag : Byte) (payload : List Byte)
  | checkIn (port : Port) (tag : Byte) (payload : List Byte)
  | wipeOrder (port : Port) (tag : Byte) (payload : List Byte)
  | garbledFrame (port : Port) (bytes : List Byte)
  | unknownKind (port : Port) (kind : Byte) (tag : Byte) (payload : List Byte)
  | linkBreak (port : Port) (bytes : List Byte)
  | frameOverUnreadReply (port : Port) (bytes : List Byte)
  | readTransaction (port : Port) (count : Nat)
  | laneSlotStart
  | loadSlotEnd (answer : LoadAnswer)
  | clearSlotEnd (answer : HeldAnswer)
  | probeSlotEnd (answer : HeldAnswer)
  | turnSlotEnd (count : Nat)
  | slotAnswerWindowExpiry
  | commitComplete
  | supplyWarningAsserted
  | supplyWarningDeasserted
  | startInstant (markerKept : Bool)
  | powerLoss
  | backoffExpiry (authority : AuthId)
  | pairingWindowExpiry
  | checkinClockAdvance
  | checkinWarning
  | checkinExpired
  | escalationClockAdvance
  | escalation
  deriving DecidableEq, Repr

end Sys2Proof
end

