-- ==== Sys2Proof/Decode.lean ====
section
/-!
DEFINITION. Bytes and frames: little-endian fields (R186), the CRC-16 of a frame (R175), the codes of
the request kinds (section 11.3), and the reading of a whole transaction into its command (R173, R175,
R176, R185).  The rows of spec/opcode_table.json carry no bits, so no word spells a command by itself.
-/

namespace Sys2Proof

/-- The number a list of bytes stands for, least significant byte first (R186). -/
def leNat : List Byte → Nat
  | [] => 0
  | b :: bs => b.toNat + 256 * leNat bs

/-- The `n` low bytes of a number, least significant byte first (R186). -/
def leBytes : Nat → Nat → List Byte
  | 0, _ => []
  | n + 1, x => BitVec.ofNat 8 x :: leBytes n (x / 256)

/-- The byte at an offset of a payload; 0 past its end (the length is checked before, R176). -/
def byteAt (bs : List Byte) (offset : Nat) : Nat := (bs.getD offset 0).toNat

/-- The field of `size` bytes at an offset of a payload (R186). -/
def fieldAt (bs : List Byte) (offset size : Nat) : Nat := leNat ((bs.drop offset).take size)

/-- One bit of the CRC-16: polynomial x^16 + x^12 + x^5 + 1 (R175). -/
def crcShift (c : BitVec 16) : BitVec 16 :=
  if c.getLsbD 15 then (c <<< 1) ^^^ 0x1021#16 else c <<< 1

/-- One byte of the CRC-16, most significant bit first (R175). -/
def crcByte (c : BitVec 16) (b : Byte) : BitVec 16 :=
  crcShift (crcShift (crcShift (crcShift (crcShift (crcShift (crcShift (crcShift
    (c ^^^ (b.setWidth 16 <<< 8)))))))))

/-- The CRC-16 of a byte string: initial value 0xFFFF, result not inverted (R175). -/
def crc16 (bs : List Byte) : BitVec 16 := bs.foldl crcByte 0xFFFF#16

/-- The request kinds with their codes (section 11.3). -/
def kindTable : List (ReqKind × Nat) :=
  [(.resolve, 0x01), (.unlock, 0x02), (.lock, 0x03), (.present, 0x04), (.standby, 0x05),
   (.geometry, 0x06), (.enrol, 0x07), (.setRange, 0x08), (.dropRange, 0x09), (.grant, 0x0A),
   (.revoke, 0x0B), (.retire, 0x0C), (.rekey, 0x0D), (.setAuthority, 0x0E), (.setPolicy, 0x0F),
   (.freezePolicy, 0x10), (.wipe, 0x11), (.revert, 0x12), (.scrubTake, 0x13), (.scrubDone, 0x14)] ++
  [(.scrubPause, 0x15), (.scrubResume, 0x16), (.laneHold, 0x17), (.laneRelease, 0x18),
   (.restart, 0x19), (.status, 0x20), (.fetch, 0x21), (.pair, 0x30), (.challenge, 0x31),
   (.checkIn, 0x32), (.wipeOrder, 0x33)]

/-- The code of a request kind (section 11.3). -/
def ReqKind.code (k : ReqKind) : Byte :=
  BitVec.ofNat 8 ((kindTable.find? fun e => e.1 = k).elim 0 Prod.snd)

/-- The request kind of a code, if it is one (R176). -/
def ReqKind.ofCode (c : Byte) : Option ReqKind :=
  (kindTable.find? fun e => e.2 = c.toNat).map Prod.fst

/-- A whole frame: sync, kind, tag, length, payload, check (section 11.1). -/
def frameBytes (kind tag : Byte) (payload : List Byte) : List Byte :=
  let body := kind :: tag :: (leBytes 2 payload.length ++ payload)
  0x5E#8 :: (body ++ leBytes 2 (crc16 body).toNat)

/-- What a request transaction's bytes come to (R173, R175). -/
inductive FrameRead where
  | linkBreak
  | garbled
  | frame (kind tag : Byte) (payload : List Byte)
  deriving DecidableEq, Repr

/-- The frame of a request transaction.  It ends after its check bytes, at the count its length field
gives; later bytes are ignored; a transaction that ends sooner is a link break (R173).  A length over
256 is not waited for (R175). -/
def readFrame (bytes : List Byte) : FrameRead :=
  let len := fieldAt bytes 3 2
  if bytes.length < 5 ∨ (len ≤ 256 ∧ bytes.length < 7 + len) then .linkBreak
  else if byteAt bytes 0 ≠ 0x5E ∨ 256 < len
      ∨ (crc16 ((bytes.drop 1).take (4 + len))).toNat ≠ fieldAt bytes (5 + len) 2 then .garbled
  else .frame (bytes.getD 1 0) (bytes.getD 2 0) ((bytes.drop 5).take len)

/-- The read marker of the Drive Port (R185). -/
def readMarker : Byte := 0xA5

/-- The byte a port sends where it sends no byte of a reply: the filler of a request transaction and the
empty-slot answer (R185). -/
def fillerByte : Byte := 0x00

/-- The row of the table that an admitted request kind stands for.  SET_AUTHORITY is one kind and five
rows, told apart by the operation byte (R84); an operation byte that is none of the five goes to the
first row, whose meaning refuses it with BAD_VALUE (log entry 13). -/
def requestCommand (k : ReqKind) (p : Port) (tag : Byte) (pl : List Byte) : Instr :=
  match k with
  | .resolve => .resolve p tag pl
  | .unlock => .unlock p tag pl
  | .lock => .lock p tag pl
  | .present => .present p tag pl
  | .standby => .standby p tag pl
  | .geometry => .geometry p tag pl
  | .enrol => .enrol p tag pl
  | .setRange => .setRange p tag pl
  | .dropRange => .dropRange p tag pl
  | .grant => .grant p tag pl
  | .revoke => .revoke p tag pl
  | .retire => .retire p tag pl
  | .rekey => .rekey p tag pl
  | .setAuthority =>
    match byteAt pl 34 with
    | 2 => .setAuthorityLimit p tag pl
    | 3 => .setAuthorityEnable p tag pl
    | 4 => .setAuthorityDisable p tag pl
    | 5 => .setAuthorityReinstate p tag pl
    | _ => .setAuthorityCredential p tag pl
  | .setPolicy => .setPolicy p tag pl
  | .freezePolicy => .freezePolicy p tag pl
  | .wipe => .wipe p tag pl
  | .revert => .revert p tag pl
  | .scrubTake => .scrubTake p tag pl
  | .scrubDone => .scrubDone p tag pl
  | .scrubPause => .scrubPause p tag pl
  | .scrubResume => .scrubResume p tag pl
  | .laneHold => .laneHold p tag pl
  | .laneRelease => .laneRelease p tag pl
  | .restart => .restart p tag pl
  | .status => .status p tag pl
  | .fetch => .fetch p tag pl
  | .pair => .pair p tag pl
  | .challenge => .challenge p tag pl
  | .checkIn => .checkIn p tag pl
  | .wipeOrder => .wipeOrder p tag pl

/-- The command a request transaction brings, the reply slot being full or not (R173, R175, R176). -/
def commandOfRequestTransaction (slotFull : Bool) (p : Port) (bytes : List Byte) : Instr :=
  match readFrame bytes with
  | .linkBreak => .linkBreak p bytes
  | .garbled => if slotFull then .frameOverUnreadReply p bytes else .garbledFrame p bytes
  | .frame kind tag payload =>
    if slotFull then .frameOverUnreadReply p bytes
    else
      match ReqKind.ofCode kind with
      | none => .unknownKind p kind tag payload
      | some k => requestCommand k p tag payload

/-- The command a Drive Port transaction brings, from chip-select's assertion to its release: a first
byte 0xA5 makes it a read transaction, which takes out a byte of the reply for each byte behind the marker
(R173, R185; log entry 51). -/
def commandOfDriveTransaction (slotFull : Bool) (bytes : List Byte) : Instr :=
  match bytes with
  | b :: rest =>
    if b = readMarker then .readTransaction .drive rest.length
    else commandOfRequestTransaction slotFull .drive bytes
  | [] => .linkBreak .drive []

/-- The command a table word spells: the table's rows carry no bits, so there is none. -/
def decodeTableWord (_nbits _w : Nat) : Option Instr := none

end Sys2Proof
end

