-- ==== Sys2Proof/Config.lean ====
section
/-!
DEFINITION. What the spec fixes as a number of the device, and what it leaves open: the functions it
declines to define and the values of its random source.  The open ones have no body.
-/

namespace Sys2Proof

/-- The device's 256-bit one-way function of a byte string; its definition is not given (R73).
Log entry 2. -/
opaque Config.digest : List Byte → Secret

/-- The check function of a media key; its definition is not given (R44).  Log entry 2. -/
opaque Config.checkFunction : Secret → Code

/-- The cipher that wraps a media key under a device root key and unwraps it again (R44, R45, R48); it is
not given, but that unwrapping undoes wrapping.  Log entry 2. -/
opaque Config.keyCipher : Secret → Secret ≃ Secret

/-- A media key (second) wrapped under the device root key (first) (R44, R45). -/
def Config.wrapKey (root key : Secret) : Secret := Config.keyCipher root key

/-- A wrapped key (second) unwrapped under the device root key (first) (R45, R48). -/
def Config.unwrapKey (root wrapped : Secret) : Secret := (Config.keyCipher root).symm wrapped

/-- The n-th 256-bit value drawn from the device's random source (R45, R46).  Log entry 1. -/
opaque Config.randomSecret : Nat → Secret

/-- The n-th 16-byte value drawn from the device's random source (R73, R115).  Log entry 1. -/
opaque Config.randomNonce : Nat → Nonce

/-- Sectors of a granule (00_scope.md, Terms). -/
def Config.granule : Nat := 8

/-- Sectors of a scrub chunk (R139). -/
def Config.chunk : Nat := 2048

/-- Chunks between two cursor checkpoints (R141). -/
def Config.checkpointChunks : Nat := 64

/-- Entries of the commit queue, the final checkpoint apart (R151). -/
def Config.queueCapacity : Nat := 4

/-- Notices of one port's queue (R180). -/
def Config.noticeCapacity : Nat := 8

/-- Notices one FETCH removes at most (R182). -/
def Config.fetchCount : Nat := 4

/-- Orders outstanding at most (R138). -/
def Config.orderWindow : Nat := 4

/-- Fragments of one RESOLVE reply at most (R39). -/
def Config.fragmentLimit : Nat := 8

/-- Seconds of the pairing window (R117). -/
def Config.pairingWindow : Nat := 120

/-- Seconds of a powered minute (section 6.4). -/
def Config.minute : Nat := 60

/-- Minutes between periodic checkpoints of a clock, and the rounding of an inexact one (R118, R119). -/
def Config.checkpointMinutes : Nat := 15

/-- Engine lanes before the engine has announced a count (R51). -/
def Config.initialLanes : Nat := 4

/-- Consecutive silent frames that take the link DOWN (R62). -/
def Config.silentFrames : Nat := 3

end Sys2Proof
end

