-- ==== Sys2Proof/Machine/State.lean ====
section
/-!
DEFINITION. Everything the spec gives the D18 to hold, as plain data: the state of its eleven blocks,
the 46 non-volatile records, the commit queue, the ports with their replies and notices, and the queue
of commands that wait.
-/

namespace Sys2Proof.Machine

open Sys2Proof

/-! ## Enumerations -/

/-- Why the device stops with a fault: the spec gives it no fault, so there is no reason. -/
inductive Fault where
  deriving DecidableEq, Repr

/-- Why a command has no meaning in this model. -/
inductive Refusal where
  /-- Raised by an arm of `exec` whose command has no meaning yet; safe.  No arm of this model does. -/
  | notModelled (mnemonic : String)
  deriving DecidableEq, Repr

/-- Whether a range is concealed while its read right is off (R1). -/
inductive Visibility where
  | shown
  | hiddenWhileLocked
  deriving DecidableEq, Repr

/-- What STANDBY does to a range (R6). -/
inductive SleepPolicy where
  | lockOnStandby
  | keep
  deriving DecidableEq, Repr

/-- The state of a range (R3). -/
inductive RangeState where
  | active
  | void
  | blank
  deriving DecidableEq, Repr

/-- The presentation mode (R18). -/
inductive Mode where
  | overlay
  | normal
  | blank
  deriving DecidableEq, Repr

/-- The rights a request names (R89, R98). -/
inductive Rights where
  | read
  | write
  | both
  deriving DecidableEq, Repr

/-- The custody state (R107); `opened` is the manual's OPEN. -/
inductive Custody where
  | opened
  | guarded
  | warned
  | concealed
  | erased
  | scrubbing
  | spent
  deriving DecidableEq, Repr

/-- The level of a response (R109, R122). -/
inductive Level where
  | conceal
  | erase
  | scrub
  deriving DecidableEq, Repr

/-- The causes of a custody response (R121). -/
inductive Trigger where
  | tryExhaustion
  | checkinExpired
  | foreignStart
  | remoteOrder
  | adminOrder
  deriving DecidableEq, Repr

/-- The pairing verdict of the power span (R117). -/
inductive Verdict where
  | pending
  | paired
  | foreign
  | absent
  deriving DecidableEq, Repr

/-- The start cause (R161). -/
inductive StartCause where
  | none
  | powerOn
  | supplyDip
  | restart
  deriving DecidableEq, Repr

/-- The stored state of an authority (R70). -/
inductive StoredAuthority where
  | unset
  | active
  | disabled
  deriving DecidableEq, Repr

/-- The state of an authority as every check and reply sees it (R71). -/
inductive AuthorityState where
  | unset
  | active
  | disabled
  | lockedOut
  deriving DecidableEq, Repr

/-- The role of an authority (R70). -/
inductive Role where
  | admin
  | user
  | recovery
  deriving DecidableEq, Repr

/-- The operations of SET_AUTHORITY (R84). -/
inductive AuthorityOp where
  | credential
  | limit
  | enable
  | disable
  | reinstate
  deriving DecidableEq, Repr

/-- The wipe secret action of SET_POLICY (R110). -/
inductive SecretAction where
  | keep
  | set
  | remove
  deriving DecidableEq, Repr

/-- The state of a lane (R51). -/
inductive LaneState where
  | free
  | loading
  | loaded
  | clearing
  | fault
  deriving DecidableEq, Repr

/-- What a lane's next slot will do (R51). -/
inductive Plan where
  | load
  | clear
  | probe
  deriving DecidableEq, Repr

/-- The result of a lane's last slot (R51). -/
inductive SlotOutcome where
  | ok
  | mismatch
  | silent
  | rejected
  deriving DecidableEq, Repr

/-- The result of one probe of a LOADED lane (R51, R58). -/
inductive Vote where
  | ok
  | mismatch
  deriving DecidableEq, Repr

/-- The link state (R51). -/
inductive LinkState where
  | down
  | up
  | held
  deriving DecidableEq, Repr

/-- A place in the lane frame (R54): one slot a lane, then the turn slot. -/
inductive SlotPos where
  | lane (n : Nat)
  | turn
  deriving DecidableEq, Repr

/-- The kind of a scrub job (R138). -/
inductive JobKind where
  | retire
  | custody
  deriving DecidableEq, Repr

/-- The operation of a media command (R24). -/
inductive MediaOp where
  | read
  | write
  deriving DecidableEq, Repr

/-- The dispositions of a fragment (R28). -/
inductive Disposition where
  | pass
  | image
  | zero
  | wait
  | refuseLocked
  | refuseErased
  | beyond
  deriving DecidableEq, Repr

/-- The outcomes of a range in an UNLOCK (R91). -/
inductive UnlockOutcome where
  | unlocked
  | notDefined
  | notGranted
  | erased
  | noLane
  deriving DecidableEq, Repr

/-- The reasons of SCRUB_TAKE's NONE (R139). -/
inductive NoneReason where
  | noJob
  | paused
  | supply
  | windowFull
  | allIssued
  deriving DecidableEq, Repr

/-- The result codes of section 11.7. -/
inductive Result where
  | ok | busy | garbled | unknownKind | wrongPort | badLength | badValue | denied | tooSoon
  | lockedOut | state | overlap | stale | frozen | deferred | none
  deriving DecidableEq, Repr

/-- The notice kinds (R180). -/
inductive NoticeKind where
  | presentationChanged | rangeRelocked | laneFault | laneLinkDown | laneLinkUp | scrubJobDone
  | tryLockout | supplyRecovered | custodyChanged | checkinDue
  deriving DecidableEq, Repr

/-! ## Records of the store -/

/-- The pair M and I, in sectors (R8). -/
structure Geometry where
  capacity : Nat
  image : Nat
  deriving DecidableEq, Repr

/-- The Identity record (R8, R45, R148). -/
structure IdentityRec where
  geometry : Option Geometry
  rootKey : Secret
  deriving DecidableEq, Repr

/-- An Authority record (R70).  The role is fixed by the index. -/
structure AuthorityRec where
  stored : StoredAuthority
  salt : Option Nonce
  verifier : Option Secret
  tryLimit : Nat
  deriving DecidableEq, Repr

/-- What a present range's Range record holds (R1); start and length in granules, 0 for range 0, which
has none (R2).  An absent range's record is `none`. -/
structure RangeRec where
  start : Nat
  length : Nat
  visibility : Visibility
  state : RangeState
  access : Vector Bool 8
  sleep : SleepPolicy
  deriving DecidableEq, Repr

/-- A Key record, the slot of one range id (R44): wrapped key and check code together, or absent. -/
structure KeyRec where
  generation : Generation
  key : Option (Secret × Code)
  deriving DecidableEq, Repr

/-- The Policy record (R109). -/
structure PolicyRec where
  tryExhaustion : Level
  checkinExpired : Level
  foreignStart : Level
  remoteOrder : Level
  adminOrder : Level
  checkinPeriod : Nat
  warningMargin : Nat
  concealHold : Nat
  deviceTryLimit : Nat
  foreignLimit : Nat
  wipeDigest : Option Secret
  frozen : Bool
  deriving DecidableEq, Repr

/-- The Tries record (R72). -/
structure TriesRec where
  failures : Vector Nat 8
  lockout : Vector Bool 8
  device : Nat
  deriving DecidableEq, Repr

/-- The Custody record (R108). -/
structure CustodyRec where
  state : Custody
  foreignCount : Nat
  checkin : Nat
  checkinExact : Bool
  escalation : Nat
  escalationExact : Bool
  target : Level
  deriving DecidableEq, Repr

/-- What of a scrub job the Scrub journal keeps (R138); media addresses in sectors. -/
structure JournalJob where
  kind : JobKind
  range : Option RangeId
  start : Nat
  stop : Nat
  cursor : Nat
  paused : Bool
  deriving DecidableEq, Repr

/-- The Scrub journal (R138, R148). -/
structure JournalRec where
  job : Option JournalJob
  waiting : List RangeId
  deriving DecidableEq, Repr

/-- The 46 records of the Record Store (R148). -/
structure Records where
  identity : IdentityRec
  authorities : Vector AuthorityRec 8
  ranges : Vector (Option RangeRec) 16
  keys : Vector KeyRec 16
  policy : PolicyRec
  pairing : Option Secret
  tries : TriesRec
  custody : CustodyRec
  journal : JournalRec
  deriving DecidableEq, Repr

/-! ## Blocks -/

/-- A range entry of the Range Table (R1): the Range record's fields, and the volatile ones. -/
structure RangeEntry where
  stored : Option RangeRec
  read : Bool
  write : Bool
  holder : Option AuthId
  lane : Option Nat
  deriving DecidableEq, Repr

/-- A lane record (R51). -/
structure LaneRec where
  state : LaneState
  range : Option RangeId
  expected : Option Code
  plan : Plan
  last : Option SlotOutcome
  votes : List Vote
  attempts : Nat
  deriving DecidableEq, Repr

/-- What the device sent in the lane slot in progress (R54).  A LOAD slot holds the plaintext key, and
nothing else in the device does (R48); a PROBE slot remembers the code the lane was believed to hold
when the query was sent, `none` for a FREE lane (log entry 22). -/
inductive Sent where
  | load (key : Option Secret)
  | clear
  | probe (believed : Option Code)
  deriving DecidableEq, Repr

/-- The Lane Controller (R51).  E is the length of `lanes`.  `position` is the slot in progress while
the link is UP and the resume position otherwise (log entry 6); `sent` is the exchange of a lane slot
that has begun. -/
structure LaneCtl where
  lanes : List LaneRec
  link : LinkState
  silence : Nat
  position : SlotPos
  sent : Option Sent
  deriving DecidableEq, Repr

/-- The Custody Controller's own state (R107, R108, R117, R118, R120), the policy and pairing records
apart.  Clocks in minutes, with the seconds counted towards the next one. -/
structure CustodyCtl where
  state : Custody
  foreignCount : Nat
  checkin : Nat
  checkinSecs : Nat
  escalation : Nat
  escalationSecs : Nat
  target : Level
  verdict : Verdict
  window : Nat
  deriving DecidableEq, Repr

/-- An outstanding order (R138). -/
structure Order where
  id : Nat
  start : Nat
  length : Nat
  done : Bool
  deriving DecidableEq, Repr

/-- A scrub job (R138): what the journal keeps, and the volatile rest. -/
structure Job where
  journal : JournalJob
  issue : Nat
  orders : List Order
  chunks : Nat
  deriving DecidableEq, Repr

/-- The Scrub Controller (R138). -/
structure ScrubCtl where
  job : Option Job
  waiting : List RangeId
  nextId : Nat
  deriving DecidableEq, Repr

/-! ## Replies and notices -/

/-- A fragment of a resolution (R27); its presented address is not stored (R26). -/
structure Fragment where
  count : Nat
  disposition : Disposition
  range : Option RangeId
  lane : Option Nat
  media : Option Nat
  deriving DecidableEq, Repr

/-- One entry of an UNLOCK reply (R94). -/
structure UnlockEntry where
  range : RangeId
  outcome : UnlockOutcome
  read : Bool
  write : Bool
  lane : Option Nat
  loaded : Bool
  deriving DecidableEq, Repr

/-- One entry of a LOCK reply (R99); `defined` false is the outcome NOT_DEFINED. -/
structure LockEntry where
  range : RangeId
  defined : Bool
  read : Bool
  write : Bool
  clearPending : Bool
  deriving DecidableEq, Repr

/-- A notice (R180). -/
structure Notice where
  kind : NoticeKind
  range : Option RangeId
  lane : Option Nat
  epoch : Epoch
  custody : Custody
  deriving DecidableEq, Repr

/-- The fields of a STATUS reply (R184). -/
structure StatusReport where
  custody : Custody
  mode : Mode
  epoch : Epoch
  link : LinkState
  lanes : Nat
  job : Option JobKind
  cursor : Option Nat
  stop : Option Nat
  waiting : Nat
  depth : Nat
  supplyWarning : Bool
  verdict : Verdict
  cause : StartCause
  deriving DecidableEq, Repr

/-- What a reply carries, its result code with it (section 11.4). -/
inductive ReplyBody where
  | code (r : Result)
  | tooSoon (seconds : Nat)
  | deniedCheck (backoff : Nat) (lockedOut : Bool)
  | epoch (r : Result) (epoch : Epoch)
  | resolved (epoch : Epoch) (fragments : List Fragment) (covered : Nat) (resume : Option Nat)
  | unlocked (epoch : Epoch) (entries : List UnlockEntry)
  | locked (epoch : Epoch) (entries : List LockEntry)
  | standby (epoch : Epoch) (entries : List (RangeId × Bool))
  | revoked (epoch : Epoch) (clearPending : Bool)
  | retired (range : RangeId) (current : Bool) (waiting : Nat)
  | rekeyed (generation : Generation) (check : Code)
  | authority (state : AuthorityState) (failures tryLimit : Nat)
  | custody (state : Custody)
  | restarted (epoch : Epoch) (state : Custody)
  | order (id : Nat) (kind : JobKind) (range : Option RangeId) (start length : Nat)
  | noOrder (reason : NoneReason)
  | scrubbed (cursor : Nat) (completed : Bool)
  | nonce (n : Nonce)
  | status (report : StatusReport)
  | notices (list : List Notice) (left : Nat) (overflow : Bool)
  deriving DecidableEq, Repr

/-- A reply frame (R176): its kind byte, the tag it echoes, what it carries. -/
structure Reply where
  kind : Byte
  tag : Byte
  body : ReplyBody
  deriving DecidableEq, Repr

/-! ## Requests in flight -/

/-- The values a SET_POLICY carries, clamped (R110). -/
structure PolicyValues where
  tryExhaustion : Level
  checkinExpired : Level
  foreignStart : Level
  remoteOrder : Level
  adminOrder : Level
  checkinPeriod : Nat
  warningMargin : Nat
  concealHold : Nat
  deviceTryLimit : Nat
  foreignLimit : Nat
  action : SecretAction
  secret : Secret
  deriving DecidableEq, Repr

/-- A credentialed request past its first checks, waiting on its credential check (R74).  `hidden` says
that a WIPE's check began in CONCEALED (R80; log entry 44). -/
inductive CredReq where
  | unlock (list : List RangeId) (rights : Rights)
  | setRange (id : RangeId) (start length : Nat) (visibility : Visibility) (sleep : SleepPolicy)
  | dropRange (id : RangeId)
  | grant (id : RangeId) (target : AuthId)
  | revoke (id : RangeId) (target : AuthId)
  | retire (id : RangeId)
  | rekey (id : RangeId)
  | setAuthority (target : AuthId) (op : AuthorityOp) (credential : Secret) (limit : Nat)
  | setPolicy (values : PolicyValues)
  | freezePolicy
  | wipe (level : Level) (hidden : Bool)
  deriving DecidableEq, Repr

/-- What a request in flight waits for: its charge (R76), its refund (R77), the commits it or its
response entered, the end of the slot in progress (R67; withdrawn by a custody response, R65), or only the
reading of an earlier reply (R178). -/
inductive Work where
  | charging (a : AuthId) (credential : Secret) (req : CredReq)
  | refunding (a : AuthId) (req : CredReq)
  | committing
  | holding (withdrawn : Bool)
  | answered
  deriving DecidableEq, Repr

/-- The in-flight marker (R172, R177), with the work it stands for. -/
structure InFlight where
  kind : ReqKind
  tag : Byte
  work : Work
  deriving DecidableEq, Repr

/-- A message port with its notice queue (R172, R180). `dataOut` is the model's own: the bytes of a reply
that the device sent in the last transaction; every further byte was filler (R173, R174, R185; log entry
12). -/
structure PortState where
  rxBuffer : List Byte
  replySlot : Option Reply
  inFlight : Option InFlight
  deferred : Option Reply
  notices : List Notice
  overflow : Bool
  dataOut : List Byte
  deriving DecidableEq, Repr

/-! ## The commit queue -/

/-- The name of a record (R148). -/
inductive RecordId where
  | identity
  | authority (i : AuthId)
  | range (r : RangeId)
  | key (r : RangeId)
  | policy
  | pairing
  | tries
  | custody
  | journal
  deriving DecidableEq, Repr

/-- What an entry of the queue is: one record, one group (R149) or the final checkpoint (R157). -/
inductive EntryKey where
  | single (r : RecordId)
  | eraseGroup
  | retireGroup (r : RangeId)
  | final
  deriving DecidableEq, Repr

/-- Why a Scrub journal write was made, which decides how a checkpoint merges into it (R152). -/
inductive JournalWrite where
  | plain
  | checkpoint
  | appends (r : RangeId)
  | setsJob
  | mark (paused : Bool)
  deriving DecidableEq, Repr

/-- One record's new contents.  The members of a group that change a part of a record and keep the
rest (R131, R135, R142) are written as that change, on the record as the commits ahead of the group
leave it (R14; log entry 14). -/
inductive RecordWrite where
  | identity (c : IdentityRec)
  | rootKey (k : Secret)
  | authority (i : AuthId) (c : AuthorityRec)
  | unsetAuthority (i : AuthId)
  | range (r : RangeId) (c : Option RangeRec)
  | rangeState (r : RangeId) (st : RangeState)
  | key (r : RangeId) (c : KeyRec)
  | eraseKey (r : RangeId)
  | policy (c : PolicyRec)
  | pairing (c : Option Secret)
  | tries (c : TriesRec)
  | custody (c : CustodyRec)
  | journal (c : JournalRec) (how : JournalWrite)
  | finalClocks (checkin escalation : Nat) (checkinExact escalationExact : Bool)
  | finalCursor (kind : JobKind) (range : Option RangeId) (cursor : Nat)
  deriving DecidableEq, Repr

/-- The steps of REVERT's commits (R128). -/
inductive RevertStep where
  | policy
  | pairing
  | absent (r : RangeId)
  | key
  | range
  | custody
  deriving DecidableEq, Repr

/-- The commits of a completed CUSTODY job, each entered when the one before it has completed (R143,
R154). -/
inductive SpendStep where
  | journal
  | custody
  | range (r : RangeId)
  deriving DecidableEq, Repr

/-- What a request is answered with when its last commit completes. -/
inductive Answer where
  | ok
  | epoch
  | revoked (clearPending : Bool)
  | rekeyed (r : RangeId)
  | authority (i : AuthId)
  | custody
  deriving DecidableEq, Repr

/-- What a block or a request does in the event in which an entry completes (R155). -/
inductive Act where
  | charged
  | refunded
  | geometryStored
  | authorityStored (i : AuthId)
  | triesStored
  | limitStored (i : AuthId)
  | backoffCleared (i : AuthId)
  | enrolled
  | rangeDefined (r : RangeId)
  | rangeEdited (r : RangeId)
  | rangeDropped (r : RangeId)
  | accessStored (r : RangeId)
  | rangeRekeyed (r : RangeId)
  | rangeRetired (r : RangeId)
  | policyStored
  | foreignTest
  | keysErased
  | custodyJobStored
  | pauseStored (r : RangeId) (paused : Bool)
  | reverted (step : RevertStep)
  | spending (step : SpendStep)
  | answer (p : Port) (a : Answer)
  deriving DecidableEq, Repr

/-- An entry of the commit queue (R151): its name, its contents, and what waits on it. -/
structure Entry where
  key : EntryKey
  writes : List RecordWrite
  acts : List Act
  deriving DecidableEq, Repr

/-! ## The state -/

/-- The state of the device.  `restartPending` is the reply of a RESTART that is taken and not yet in
effect (R168; log entry 11). -/
structure State where
  powered : Bool
  startMarker : Bool
  startCause : StartCause
  restartPending : Option Reply
  supplyWarning : Bool
  drive : PortState
  platform : PortState
  challenge : Option Nonce
  ranges : Vector RangeEntry 16
  geometry : Option Geometry
  mode : Mode
  epoch : Epoch
  authorities : Vector AuthorityRec 8
  backoff : Vector Nat 8
  tries : TriesRec
  keys : Vector KeyRec 16
  rootKey : Secret
  lane : LaneCtl
  custody : CustodyCtl
  policy : PolicyRec
  pairing : Option Secret
  scrub : ScrubCtl
  store : Records
  queue : List Entry
  held : List Entry
  draws : Nat
  pending : List Instr
  deriving DecidableEq, Repr

/-! ## Values at delivery and after reset -/

/-- The access list {0} (R5). -/
def adminOnly : Vector Bool 8 := #v[true, false, false, false, false, false, false, false]

/-- The default policy (R109). -/
def PolicyRec.default : PolicyRec where
  tryExhaustion := .conceal
  checkinExpired := .conceal
  foreignStart := .conceal
  remoteOrder := .conceal
  adminOrder := .conceal
  checkinPeriod := 0
  warningMargin := 24
  concealHold := 168
  deviceTryLimit := 30
  foreignLimit := 3
  wipeDigest := none
  frozen := false

/-- Range 0's record at delivery and after REVERT (R23, R128). -/
def RangeRec.global : RangeRec where
  start := 0
  length := 0
  visibility := .shown
  state := .active
  access := adminOnly
  sleep := .lockOnStandby

/-- An authority at delivery (R70). -/
def AuthorityRec.delivered : AuthorityRec := ⟨.unset, none, none, 10⟩

/-- A Tries record with every count 0 and every mark clear (R72, R87). -/
def TriesRec.clear : TriesRec := ⟨Vector.replicate 8 0, Vector.replicate 8 false, 0⟩

/-- A key slot that has never held a key (R44). -/
def KeyRec.never : KeyRec := ⟨0, none⟩

/-- The device root key drawn at manufacture (R45): the first value of the random source. -/
def rootKeyAtDelivery : Secret := Config.randomSecret 0

/-- Range 0's key record, drawn at manufacture (R44): the second value of the random source. -/
def key0AtDelivery : KeyRec :=
  ⟨1, some (Config.wrapKey rootKeyAtDelivery (Config.randomSecret 1),
    Config.checkFunction (Config.randomSecret 1))⟩

/-- The Custody record at delivery (R108). -/
def CustodyRec.delivered : CustodyRec := ⟨.opened, 0, 0, true, 0, true, .erase⟩

/-- The Record Store at delivery (R8, R23, R44, R70, R72, R108, R109, R138, R148). -/
def Records.delivered : Records where
  identity := ⟨none, rootKeyAtDelivery⟩
  authorities := Vector.replicate 8 .delivered
  ranges := (Vector.replicate 16 none).set 0 (some .global)
  keys := (Vector.replicate 16 .never).set 0 key0AtDelivery
  policy := .default
  pairing := none
  tries := .clear
  custody := .delivered
  journal := ⟨none, []⟩

/-- A port with nothing in it (R172, R181). -/
def PortState.empty : PortState := ⟨[], none, none, none, [], false, []⟩

/-- An absent range entry (R1). -/
def RangeEntry.absent : RangeEntry := ⟨none, false, false, none, none⟩

/-- A lane record after power-on, and an added or lost one (R51, R61). -/
def LaneRec.initial : LaneRec := ⟨.free, none, none, .clear, none, [], 0⟩

/-- The Lane Controller after power-on (R51). -/
def LaneCtl.initial : LaneCtl :=
  ⟨List.replicate Config.initialLanes .initial, .down, 0, .lane 0, none⟩

/-- The device right after the first start instant of its life, a power-on: the records as delivered,
custody OPEN, range 0 with both rights and bound to lane 0, the link DOWN (R7, R51, R160 to R163; log
entry 3). -/
def State.reset : State where
  powered := true
  startMarker := true
  startCause := .powerOn
  restartPending := none
  supplyWarning := false
  drive := .empty
  platform := .empty
  challenge := none
  ranges := (Vector.replicate 16 .absent).set 0 ⟨some .global, true, true, none, some 0⟩
  geometry := none
  mode := .normal
  epoch := 0
  authorities := Vector.replicate 8 .delivered
  backoff := Vector.replicate 8 0
  tries := .clear
  keys := (Vector.replicate 16 .never).set 0 key0AtDelivery
  rootKey := rootKeyAtDelivery
  lane :=
    { LaneCtl.initial with
      lanes :=
        [⟨.loading, some 0, some (Config.checkFunction (Config.randomSecret 1)), .load, none, [], 0⟩,
          .initial, .initial, .initial] }
  custody := ⟨.opened, 0, 0, 0, 0, 0, .erase, .absent, 0⟩
  policy := .default
  pairing := none
  scrub := ⟨none, [], 1⟩
  store := .delivered
  queue := []
  held := []
  draws := 2
  pending := []

end Sys2Proof.Machine
end

