-- ==== Sys2Proof/Machine/Operands.lean ====
section
/-!
DEFINITION. The operands of the requests: the payload lengths a kind admits (R176, section 11.3), the
codes of enumerated fields (section 11.7), and each payload read at its fixed offsets (R186).  A field
with no legal reading makes its reader answer `none`.
-/

namespace Sys2Proof.Machine

open Sys2Proof

/-! ## Ports and lengths -/

/-- The ports a kind is served on (section 11.3). -/
def servedOn (k : ReqKind) (p : Port) : Bool :=
  match k with
  | .status => true
  | .fetch => true
  | .pair => p = .platform
  | .challenge => p = .platform
  | .checkIn => p = .platform
  | .wipeOrder => p = .platform
  | _ => p = .drive

/-- The payload lengths a kind admits (R176, section 11.3).  UNLOCK and LOCK admit the length their
range count calls for. -/
def admitsLength (k : ReqKind) (pl : List Byte) : Bool :=
  match k with
  | .resolve => pl.length = 9
  | .unlock => 35 ≤ pl.length && pl.length = 35 + byteAt pl 34
  | .lock => 2 ≤ pl.length && pl.length = 2 + byteAt pl 1
  | .geometry => pl.length = 10
  | .enrol => pl.length = 32
  | .setRange => pl.length = 46
  | .dropRange => pl.length = 34
  | .grant => pl.length = 35
  | .revoke => pl.length = 35
  | .retire => pl.length = 34
  | .rekey => pl.length = 34
  | .setAuthority => pl.length = 67
  | .setPolicy => pl.length = 80
  | .freezePolicy => pl.length = 33
  | .wipe => pl.length = 34
  | .scrubDone => pl.length = 2
  | .status => pl.length = 1
  | .pair => pl.length = 32
  | .checkIn => pl.length = 32
  | .wipeOrder => pl.length = 33
  | _ => pl.length = 0

/-- Kinds answered while a request is in flight on their port (R177). -/
def exemptFromBusy (k : ReqKind) : Bool := k = .resolve || k = .status

/-! ## Codes -/

def MediaOp.ofCode : Nat → Option MediaOp
  | 0 => some .read
  | 1 => some .write
  | _ => none

def Rights.ofCode : Nat → Option Rights
  | 1 => some .read
  | 2 => some .write
  | 3 => some .both
  | _ => none

def Visibility.ofCode : Nat → Option Visibility
  | 0 => some .shown
  | 1 => some .hiddenWhileLocked
  | _ => none

def SleepPolicy.ofCode : Nat → Option SleepPolicy
  | 0 => some .lockOnStandby
  | 1 => some .keep
  | _ => none

def Level.ofCode : Nat → Option Level
  | 1 => some .conceal
  | 2 => some .erase
  | 3 => some .scrub
  | _ => none

def SecretAction.ofCode : Nat → Option SecretAction
  | 0 => some .keep
  | 1 => some .set
  | 2 => some .remove
  | _ => none

def AuthorityOp.ofCode : Nat → Option AuthorityOp
  | 1 => some .credential
  | 2 => some .limit
  | 3 => some .enable
  | 4 => some .disable
  | 5 => some .reinstate
  | _ => none

/-- A one-byte flag of a request (R186). -/
def flagOfCode : Nat → Option Bool
  | 0 => some false
  | 1 => some true
  | _ => none

def rangeIdOf (n : Nat) : Option RangeId := if h : n < 16 then some ⟨n, h⟩ else none

def authIdOf (n : Nat) : Option AuthId := if h : n < 8 then some ⟨n, h⟩ else none

/-- A 32-byte secret at an offset. -/
def secretAt (pl : List Byte) (offset : Nat) : Secret := BitVec.ofNat 256 (fieldAt pl offset 32)

/-- The 32 bytes of a secret, and the 16 of a nonce, as they stand in a frame. -/
def secretBytes (x : Secret) : List Byte := leBytes 32 x.toNat

def nonceBytes (x : Nonce) : List Byte := leBytes 16 x.toNat

/-! ## Payloads -/

/-- The authority index and credential that open a credentialed payload ("auth", section 11.3). -/
def authAt (pl : List Byte) : Nat × Secret := (byteAt pl 0, secretAt pl 1)

/-- The ids of a range list, each once, at its first place (R89, R98). -/
def distinct (ids : List RangeId) : List RangeId :=
  ids.foldl (fun acc r => if acc.contains r then acc else acc ++ [r]) []

/-- A range list of 1 to 16 legal ids, as its working list (R89, R98). -/
def workingList (ids : List Byte) : Option (List RangeId) :=
  if ids.length = 0 ∨ 16 < ids.length then none
  else (ids.mapM fun b => rangeIdOf b.toNat).map distinct

/-- RESOLVE: operation, presented start, count (section 11.5). -/
def parseResolve (pl : List Byte) : Option (MediaOp × Nat × Nat) :=
  (MediaOp.ofCode (byteAt pl 0)).map fun op => (op, fieldAt pl 1 6, fieldAt pl 7 2 + 1)

/-- LOCK: rights, working list (R98). -/
def parseLock (pl : List Byte) : Option (Rights × List RangeId) := do
  let rights ← Rights.ofCode (byteAt pl 0)
  let list ← workingList (pl.drop 2)
  pure (rights, list)

/-- UNLOCK: authority, credential, rights, working list (R89, section 11.6). -/
def parseUnlock (pl : List Byte) : Option (AuthId × Secret × Rights × List RangeId) := do
  let a ← authIdOf (byteAt pl 0)
  let rights ← Rights.ofCode (byteAt pl 33)
  let list ← workingList (pl.drop 35)
  pure (a, secretAt pl 1, rights, list)

/-- GEOMETRY: M, I (section 11.3), within the bounds of R8. -/
def parseGeometry (pl : List Byte) : Option Geometry :=
  let m := fieldAt pl 0 6
  let i := fieldAt pl 6 4
  if 65536 ≤ m ∧ m ≤ 2 ^ 40 ∧ m % 8 = 0 ∧ i ≤ 262144 ∧ i % 8 = 0 ∧ i * 2 < m then some ⟨m, i⟩ else none

/-- SET_RANGE after its authority: range id, start, length, visibility, sleep policy (R11 step 2). -/
def parseSetRange (pl : List Byte) : Option (RangeId × Nat × Nat × Visibility × SleepPolicy) := do
  let r ← rangeIdOf (byteAt pl 33)
  let v ← Visibility.ofCode (byteAt pl 44)
  let p ← SleepPolicy.ofCode (byteAt pl 45)
  let start := fieldAt pl 34 5
  let length := fieldAt pl 39 5
  if r.val = 0 ∧ ¬(start = 0 ∧ length = 0 ∧ v = .shown) then none else pure (r, start, length, v, p)

/-- An explicit range id at byte 33 (R15, R134). -/
def parseExplicit (pl : List Byte) : Option RangeId :=
  (rangeIdOf (byteAt pl 33)).bind fun r => if r.val = 0 then none else some r

/-- Any range id at byte 33 (R49). -/
def parseRange (pl : List Byte) : Option RangeId := rangeIdOf (byteAt pl 33)

/-- GRANT: range id and target (R16). -/
def parseGrant (pl : List Byte) : Option (RangeId × AuthId) := do
  let r ← rangeIdOf (byteAt pl 33)
  let t ← authIdOf (byteAt pl 34)
  pure (r, t)

/-- REVOKE: as GRANT, with no target 0 (R17). -/
def parseRevoke (pl : List Byte) : Option (RangeId × AuthId) :=
  (parseGrant pl).bind fun x => if x.2.val = 0 then none else some x

/-- SET_AUTHORITY (R84 step 1): caller, credential, target, parameter as a credential and as a limit.
The operation byte must be one of the five; `op` is the row's. -/
def parseSetAuthority (op : AuthorityOp) (pl : List Byte) :
    Option (AuthId × Secret × AuthId × Secret × Nat) := do
  let caller ← authIdOf (byteAt pl 0)
  let target ← authIdOf (byteAt pl 33)
  let _ ← AuthorityOp.ofCode (byteAt pl 34)
  let limit := byteAt pl 35
  if op = .limit ∧ limit = 0 then none
  else if op = .disable ∧ target.val = 0 then none
  else pure (caller, secretAt pl 1, target, secretAt pl 35, min limit 31)

/-- SET_POLICY after its authority (R110 step 2): values clamped to their maxima first. -/
def parsePolicy (pl : List Byte) : Option PolicyValues := do
  let l1 ← Level.ofCode (byteAt pl 33)
  let l2 ← Level.ofCode (byteAt pl 34)
  let l3 ← Level.ofCode (byteAt pl 35)
  let l4 ← Level.ofCode (byteAt pl 36)
  let l5 ← Level.ofCode (byteAt pl 37)
  let action ← SecretAction.ofCode (byteAt pl 47)
  let tries := min (fieldAt pl 44 2) 255
  let foreign := min (byteAt pl 46) 15
  if tries = 0 ∨ foreign = 0 then none
  else pure ⟨l1, l2, l3, l4, l5, min (fieldAt pl 38 2) 720, min (fieldAt pl 40 2) 720,
    min (fieldAt pl 42 2) 720, tries, foreign, action, secretAt pl 48⟩

/-- WIPE's level (section 11.3). -/
def parseWipe (pl : List Byte) : Option Level := Level.ofCode (byteAt pl 33)

/-- WIPE_ORDER: level and answer (section 11.3). -/
def parseWipeOrder (pl : List Byte) : Option (Level × Secret) :=
  (Level.ofCode (byteAt pl 0)).map fun l => (l, secretAt pl 1)

end Sys2Proof.Machine
end

