-- ==== Sys2Proof/Machine/Replies.lean ====
section
/-!
DEFINITION. The bytes of a reply: the codes of section 11.7, the payloads of sections 11.4 to 11.8 with
their absent markers (R187), and the whole frame a read transaction shifts out (R174, R185).
-/

namespace Sys2Proof.Machine

open Sys2Proof

/-! ## Codes (section 11.7) -/

def Result.code : Result → Nat
  | .ok => 0x00
  | .busy => 0x01
  | .garbled => 0x02
  | .unknownKind => 0x03
  | .wrongPort => 0x04
  | .badLength => 0x05
  | .badValue => 0x06
  | .denied => 0x07
  | .tooSoon => 0x08
  | .lockedOut => 0x09
  | .state => 0x0A
  | .overlap => 0x0C
  | .stale => 0x0D
  | .frozen => 0x0E
  | .deferred => 0x0F
  | .none => 0x10

def Disposition.code : Disposition → Nat
  | .pass => 0
  | .image => 1
  | .zero => 2
  | .wait => 3
  | .refuseLocked => 4
  | .refuseErased => 5
  | .beyond => 6

def NoticeKind.code : NoticeKind → Nat
  | .presentationChanged => 0x01
  | .rangeRelocked => 0x02
  | .laneFault => 0x03
  | .laneLinkDown => 0x04
  | .laneLinkUp => 0x05
  | .scrubJobDone => 0x06
  | .tryLockout => 0x07
  | .supplyRecovered => 0x08
  | .custodyChanged => 0x09
  | .checkinDue => 0x0A

def Custody.code : Custody → Nat
  | .opened => 0
  | .guarded => 1
  | .warned => 2
  | .concealed => 3
  | .erased => 4
  | .scrubbing => 5
  | .spent => 6

def Mode.code : Mode → Nat
  | .overlay => 0
  | .normal => 1
  | .blank => 2

def LinkState.code : LinkState → Nat
  | .down => 0
  | .up => 1
  | .held => 2

def AuthorityState.code : AuthorityState → Nat
  | .unset => 0
  | .active => 1
  | .disabled => 2
  | .lockedOut => 3

def UnlockOutcome.code : UnlockOutcome → Nat
  | .unlocked => 0
  | .notDefined => 1
  | .notGranted => 2
  | .erased => 3
  | .noLane => 4

def jobKindCode : Option JobKind → Nat
  | none => 0
  | some .retire => 1
  | some .custody => 2

def NoneReason.code : NoneReason → Nat
  | .noJob => 1
  | .paused => 2
  | .supply => 3
  | .windowFull => 4
  | .allIssued => 5

def Verdict.code : Verdict → Nat
  | .pending => 0
  | .paired => 1
  | .foreign => 2
  | .absent => 3

def StartCause.code : StartCause → Nat
  | .none => 0
  | .powerOn => 1
  | .supplyDip => 2
  | .restart => 3

/-- Rights in a reply (R187). -/
def rightsCode (read write : Bool) : Nat := read.toNat + 2 * write.toNat

/-! ## Fields (R187) -/

def one (n : Nat) : List Byte := [BitVec.ofNat 8 n]

def flagByte (b : Bool) : List Byte := one b.toNat

/-- An optional one-byte id: 0xFF when absent. -/
def optId : Option Nat → List Byte
  | some n => one n
  | none => [0xFF]

/-- An optional six-byte media address: all 0xFF when absent. -/
def optAddr : Option Nat → List Byte
  | some n => leBytes 6 n
  | none => List.replicate 6 0xFF

def epochBytes (e : Epoch) : List Byte := leBytes 2 e.toNat

def optRange (r : Option RangeId) : List Byte := optId (r.map (·.val))

/-! ## Payloads (section 11.4) -/

/-- A fragment record (section 11.5). -/
def Fragment.bytes (f : Fragment) : List Byte :=
  leBytes 2 (f.count - 1) ++ one f.disposition.code ++ optRange f.range ++ optId f.lane ++
    optAddr f.media

/-- An UNLOCK entry (section 11.6). -/
def UnlockEntry.bytes (e : UnlockEntry) : List Byte :=
  one e.range.val ++ one e.outcome.code ++ one (rightsCode e.read e.write) ++ optId e.lane ++
    flagByte e.loaded

/-- A LOCK entry (section 11.4). -/
def LockEntry.bytes (e : LockEntry) : List Byte :=
  one e.range.val ++ one (if e.defined then 0 else 1) ++ one (rightsCode e.read e.write) ++
    flagByte e.clearPending

/-- A notice record (section 11.8): the id byte carries whichever id the kind has. -/
def Notice.bytes (n : Notice) : List Byte :=
  one n.kind.code ++ (match n.range with | some r => one r.val | none => optId n.lane) ++
    epochBytes n.epoch ++ one n.custody.code

/-- A STATUS reply's fields (section 11.8). -/
def StatusReport.bytes (r : StatusReport) : List Byte :=
  one r.custody.code ++ one r.mode.code ++ epochBytes r.epoch ++ one r.link.code ++ one r.lanes ++
    one (jobKindCode r.job) ++ optAddr r.cursor ++ optAddr r.stop ++ one r.waiting ++
    one r.depth ++ flagByte r.supplyWarning ++ one r.verdict.code ++ one r.cause.code

/-- A reply's payload, its result code first. -/
def ReplyBody.bytes : ReplyBody → List Byte
  | .code r => one r.code
  | .tooSoon n => one Result.tooSoon.code ++ leBytes 2 n
  | .deniedCheck n l => one Result.denied.code ++ leBytes 2 n ++ flagByte l
  | .epoch r e => one r.code ++ epochBytes e
  | .resolved e fs k res =>
    one Result.ok.code ++ epochBytes e ++ one fs.length ++ leBytes 4 k ++ optAddr res ++
      fs.flatMap Fragment.bytes
  | .unlocked e es =>
    one Result.ok.code ++ epochBytes e ++ one es.length ++ es.flatMap UnlockEntry.bytes
  | .locked e es => one Result.ok.code ++ epochBytes e ++ one es.length ++ es.flatMap LockEntry.bytes
  | .standby e es =>
    one Result.ok.code ++ epochBytes e ++ one es.length ++
      es.flatMap fun x => one x.1.val ++ flagByte x.2
  | .revoked e c => one Result.ok.code ++ epochBytes e ++ flagByte c
  | .retired r c w => one Result.ok.code ++ one r.val ++ flagByte c ++ one w
  | .rekeyed g c => one Result.ok.code ++ leBytes 4 g.toNat ++ leBytes 2 c.toNat
  | .authority st f t => one Result.ok.code ++ one st.code ++ one f ++ one t
  | .custody c => one Result.ok.code ++ one c.code
  | .restarted e c => one Result.ok.code ++ epochBytes e ++ one c.code
  | .order i k r a n =>
    one Result.ok.code ++ leBytes 2 i ++ one (jobKindCode (some k)) ++ optRange r ++ leBytes 6 a ++
      leBytes 2 n
  | .noOrder reason => one Result.none.code ++ one reason.code
  | .scrubbed c d => one Result.ok.code ++ leBytes 6 c ++ flagByte d
  | .nonce n => one Result.ok.code ++ leBytes 16 n.toNat
  | .status r => one Result.ok.code ++ r.bytes
  | .notices ns left o =>
    one Result.ok.code ++ one ns.length ++ one left ++ flagByte o ++ ns.flatMap Notice.bytes

/-- A reply's frame. -/
def Reply.bytes (r : Reply) : List Byte := frameBytes r.kind r.tag r.body.bytes

/-- The kind byte of a request's reply: the request kind plus 0x80 (R176). -/
def replyKind (k : ReqKind) : Byte := k.code + 0x80

/-- The kind byte of an UNKNOWN_KIND reply (R176, R185). -/
def unknownReplyKind (kind : Byte) : Byte := if 0x80 ≤ kind.toNat then kind else kind + 0x80

end Sys2Proof.Machine
end

