-- ==== Sys2Proof/Machine/Flags.lean ====
section
/-!
DEFINITION. The flags and marks other blocks and the partners read: notices with the overflow mark and
the attention lines (R180 to R183), the concealed set (R4), the presentation epoch (R21), the order of
the custody states (R107), the points of the custody clocks (R109, R118, R120), the state of an
authority (R71).
-/

namespace Sys2Proof.Machine

open Sys2Proof

/-- All range ids in ascending order. -/
def allRanges : List RangeId := [0, 1, 2, 3, 4, 5, 6, 7, 8, 9, 10, 11, 12, 13, 14, 15]

/-- The explicit ranges in ascending order (R1). -/
def explicitRanges : List RangeId := allRanges.tail

/-- All authority indices in ascending order. -/
def allAuthorities : List AuthId := [0, 1, 2, 3, 4, 5, 6, 7]

/-! ## Ports and range entries -/

/-- The state of a port. -/
def State.port (s : State) : Port → PortState
  | .drive => s.drive
  | .platform => s.platform

/-- The state with one port's state replaced. -/
def State.setPort (s : State) (p : Port) (q : PortState) : State :=
  match p with
  | .drive => { s with drive := q }
  | .platform => { s with platform := q }

/-- A range entry of the Range Table. -/
def State.range (s : State) (r : RangeId) : RangeEntry := s.ranges[r.val]

/-- The state with one range entry replaced. -/
def State.setRange (s : State) (r : RangeId) (e : RangeEntry) : State :=
  { s with ranges := s.ranges.set r.val e r.isLt }

/-- The state with one backoff timer replaced. -/
def State.setBackoff (s : State) (a : AuthId) (secs : Nat) : State :=
  { s with backoff := s.backoff.set a.val secs a.isLt }

/-- The state with one key slot replaced. -/
def State.setKey (s : State) (r : RangeId) (k : KeyRec) : State :=
  { s with keys := s.keys.set r.val k r.isLt }

/-- The state with one authority record replaced. -/
def State.setAuthority (s : State) (a : AuthId) (c : AuthorityRec) : State :=
  { s with authorities := s.authorities.set a.val c a.isLt }

/-- The state with the lane records replaced. -/
def State.setLanes (s : State) (l : List LaneRec) : State :=
  { s with lane := { s.lane with lanes := l } }

/-! ## Custody -/

/-- The order of strength of R107; OPEN stands outside it. -/
def Custody.strength : Custody → Nat
  | .opened => 0
  | .guarded => 0
  | .warned => 0
  | .concealed => 1
  | .erased => 2
  | .scrubbing => 3
  | .spent => 4

/-- GUARDED or WARNED: the two enrolled states in which the drive is in ordinary use. -/
def Custody.inUse (c : Custody) : Bool := c = .guarded || c = .warned

/-- ERASED or beyond: the keys are destroyed (R107). -/
def Custody.erasedOrBeyond (c : Custody) : Bool := 2 ≤ c.strength

/-- The target of a response level (R122). -/
def Level.target : Level → Custody
  | .conceal => .concealed
  | .erase => .erased
  | .scrub => .scrubbing

/-- CONCEAL < ERASE < SCRUB (R112). -/
def Level.rank : Level → Nat
  | .conceal => 1
  | .erase => 2
  | .scrub => 3

/-- The higher of two levels (R121). -/
def Level.higher (a b : Level) : Level := if a.rank ≤ b.rank then b else a

/-- The response level of a trigger in a policy (R109, R121). -/
def PolicyRec.level (p : PolicyRec) : Trigger → Level
  | .tryExhaustion => p.tryExhaustion
  | .checkinExpired => p.checkinExpired
  | .foreignStart => p.foreignStart
  | .remoteOrder => p.remoteOrder
  | .adminOrder => p.adminOrder

/-- The presentation mode that a start gives a custody state (R163). -/
def Mode.ofCustody : Custody → Mode
  | .opened => .normal
  | .guarded => .overlay
  | .warned => .overlay
  | .concealed => .blank
  | .erased => .blank
  | .scrubbing => .blank
  | .spent => .blank

/-- The expiry point of the check-in clock, in minutes (R109). -/
def PolicyRec.expiryPoint (p : PolicyRec) : Nat := p.checkinPeriod * 60

/-- The warning point of the check-in clock, with the margin in force (R109). -/
def PolicyRec.warningPoint (p : PolicyRec) : Nat :=
  (p.checkinPeriod - min p.warningMargin p.checkinPeriod) * 60

/-- The limit of the escalation clock, in minutes (R120). -/
def PolicyRec.escalationLimit (p : PolicyRec) : Nat := p.concealHold * 60

/-- The check-in clock counts (R118). -/
def State.checkinCounting (s : State) : Bool :=
  s.custody.state.inUse && s.policy.checkinPeriod != 0 && s.pairing.isSome

/-- The escalation clock counts (R120). -/
def State.escalationCounting (s : State) : Bool :=
  s.custody.state = .concealed && s.policy.concealHold != 0

/-! ## Authorities -/

/-- The role an index fixes (R70). -/
def roleOf (a : AuthId) : Role :=
  if a.val = 0 then .admin else if a.val = 7 then .recovery else .user

/-- The state of an authority (R71). -/
def State.authorityState (s : State) (a : AuthId) : AuthorityState :=
  match s.authorities[a.val].stored with
  | .unset => .unset
  | .disabled => .disabled
  | .active => if s.tries.lockout[a.val] then .lockedOut else .active

/-- The backoff, in seconds, that a failure count sets (R81). -/
def backoffOf (k : Nat) : Nat := if k < 3 then 0 else min (2 ^ (k - 3)) 256

/-! ## Presentation -/

/-- A concealed range (R4). -/
def State.isConcealed (s : State) (r : RangeId) : Bool :=
  match (s.range r).stored with
  | none => false
  | some c => c.visibility = .hiddenWhileLocked && !(s.range r).read && s.mode != .blank

/-- The concealed set, in ascending range id (R4). -/
def State.concealedSet (s : State) : List RangeId := allRanges.filter s.isConcealed

/-- The concealed set is another than it was. -/
def State.moved (before s : State) : Bool := s.concealedSet ≠ before.concealedSet

/-! ## Notices -/

/-- A notice queued on a port: appended, or dropped with the overflow mark set (R181). -/
def PortState.push (q : PortState) (n : Notice) : PortState :=
  if q.notices.length < Config.noticeCapacity then { q with notices := q.notices ++ [n] }
  else { q with overflow := true }

/-- A notice of the event in progress, with the epoch of this instant; `sealEvent` gives it the custody state of
R180. -/
def State.notify (s : State) (p : Port) (k : NoticeKind) (r : Option RangeId := none)
    (l : Option Nat := none) : State :=
  s.setPort p ((s.port p).push ⟨k, r, l, s.epoch, s.custody.state⟩)

/-- A notice that goes to both ports, the Drive Port first (R123, R180). -/
def State.notifyBoth (s : State) (k : NoticeKind) : State :=
  (s.notify .drive k).notify .platform k

/-- One increment of the presentation epoch, wrapping at 65,535, with its PRESENTATION_CHANGED (R21, R22).  It
stands behind the notices that the event queues ahead of it, which so carry the epoch before (R180). -/
def State.raiseEpoch (s : State) : State :=
  { s with epoch := s.epoch + 1 }.notify .drive .presentationChanged

/-- The increment of an event, where it has one. -/
def State.raiseIf (b : Bool) (s : State) : State := if b then s.raiseEpoch else s

/-- The increment of an event that changed the concealed set, if it did (R21, R103). -/
def State.raiseIfMoved (before s : State) : State := State.raiseIf (State.moved before s) s

/-- The notices of a queue past its first `old`, with a custody state. -/
def stampNotices (old : Nat) (c : Custody) (q : PortState) : PortState :=
  { q with notices := q.notices.take old ++ (q.notices.drop old).map fun n => { n with custody := c } }

/-- The end of an event: each notice it queued carries the custody state it leaves (R180); `before` is the state
the event met. -/
def State.sealEvent (before s : State) : State :=
  { s with
    drive := stampNotices before.drive.notices.length s.custody.state s.drive
    platform := stampNotices before.platform.notices.length s.custody.state s.platform }

/-- A port's attention line (R183): deasserted before the start instant (R160). -/
def State.attention (s : State) (p : Port) : Bool := s.powered && !(s.port p).notices.isEmpty

end Sys2Proof.Machine
end

