-- ==== Sys2Proof/Machine/Store.lean ====
section
/-!
DEFINITION. The Record Store (chapter 8): what a completed entry writes, how a write meets the commit
queue (R151 to R154), and the contents the owners hand it.
-/

namespace Sys2Proof.Machine

open Sys2Proof

/-! ## Writing records -/

/-- The record a write is for; the two fields of the final checkpoint are no whole record (R157). -/
def RecordWrite.record : RecordWrite → Option RecordId
  | .identity _ => some .identity
  | .rootKey _ => some .identity
  | .authority i _ => some (.authority i)
  | .unsetAuthority i => some (.authority i)
  | .range r _ => some (.range r)
  | .rangeState r _ => some (.range r)
  | .key r _ => some (.key r)
  | .eraseKey r => some (.key r)
  | .policy _ => some .policy
  | .pairing _ => some .pairing
  | .tries _ => some .tries
  | .custody _ => some .custody
  | .journal _ _ => some .journal
  | .finalClocks _ _ _ _ => none
  | .finalCursor _ _ _ => none

/-- The key record with its key and check code erased and its generation kept (R47). -/
def KeyRec.erased (k : KeyRec) : KeyRec := { k with key := none }

/-- The authority record as the Key-erase group writes it (R131). -/
def AuthorityRec.erased (a : AuthorityRec) : AuthorityRec :=
  { a with stored := .unset, salt := none, verifier := none }

/-- A present range's record with another state (R131, R135, R142). -/
def withState (st : RangeState) (c : Option RangeRec) : Option RangeRec :=
  c.map fun x => { x with state := st }

/-- The journal with the final checkpoint's cursor, where its job is the one the checkpoint names
(R157). -/
def JournalRec.withCursor (j : JournalRec) (kind : JobKind) (range : Option RangeId) (cursor : Nat) :
    JournalRec :=
  match j.job with
  | some b => if b.kind = kind ∧ b.range = range then { j with job := some { b with cursor } } else j
  | none => j

/-- The store after one write (R150). -/
def Records.write (st : Records) : RecordWrite → Records
  | .identity c => { st with identity := c }
  | .rootKey k => { st with identity := { st.identity with rootKey := k } }
  | .authority i c => { st with authorities := st.authorities.set i.val c i.isLt }
  | .unsetAuthority i =>
    { st with authorities := st.authorities.set i.val st.authorities[i.val].erased i.isLt }
  | .range r c => { st with ranges := st.ranges.set r.val c r.isLt }
  | .rangeState r x => { st with ranges := st.ranges.set r.val (withState x st.ranges[r.val]) r.isLt }
  | .key r c => { st with keys := st.keys.set r.val c r.isLt }
  | .eraseKey r => { st with keys := st.keys.set r.val st.keys[r.val].erased r.isLt }
  | .policy c => { st with policy := c }
  | .pairing c => { st with pairing := c }
  | .tries c => { st with tries := c }
  | .custody c => { st with custody := c }
  | .journal c _ => { st with journal := c }
  | .finalClocks ci es cx ex =>
    { st with custody :=
        { st.custody with
          checkin := ci, checkinExact := cx, escalation := es, escalationExact := ex } }
  | .finalCursor k r c => { st with journal := st.journal.withCursor k r c }

/-- The store after an entry: every write at one instant (R149, R150). -/
def Records.commit (st : Records) (ws : List RecordWrite) : Records := ws.foldl Records.write st

/-! ## Merging (R152) -/

/-- The entry contains the record, the final checkpoint apart. -/
def Entry.contains (e : Entry) (r : RecordId) : Bool :=
  e.key != .final && e.writes.any fun w => w.record = some r

/-- A write named `k` finds its record or group in the entry. -/
def Entry.holds (e : Entry) : EntryKey → Bool
  | .single r => e.contains r
  | .eraseGroup => e.key = .eraseGroup
  | .retireGroup r => e.key = .retireGroup r
  | .final => false

/-- A record's queued contents with a later write's in their place.  A cursor checkpoint keeps a
queued RETIRE group's own change, and the paused mark of a waiting SCRUB_PAUSE or SCRUB_RESUME. -/
def mergeWrite (old new : RecordWrite) : RecordWrite :=
  match new, old with
  | .journal n .checkpoint, .journal _ (.appends r) =>
    .journal { n with waiting := if n.waiting.contains r then n.waiting else n.waiting ++ [r] }
      (.appends r)
  | .journal n .checkpoint, .journal o .setsJob => .journal { n with job := o.job } .setsJob
  | .journal n .checkpoint, .journal _ (.mark b) =>
    .journal { n with job := n.job.map fun j => { j with paused := b } } (.mark b)
  | n, _ => n

/-- A queued entry with a later write merged into it: its contents in place, and all that waited on
either waiting on it (R152). -/
def Entry.merge (old new : Entry) : Entry :=
  match new.key with
  | .single r =>
    { old with
      writes := old.writes.map fun w =>
        if w.record = some r then new.writes.foldl mergeWrite w else w
      acts := old.acts ++ new.acts }
  | _ => { old with writes := new.writes, acts := old.acts ++ new.acts }

/-- The last entry of a list that meets a test, with what stands before and behind it. -/
def splitLast (m : Entry → Bool) : List Entry → Option (List Entry × Entry × List Entry)
  | [] => none
  | e :: es =>
    match splitLast m es with
    | some (b, x, a) => some (e :: b, x, a)
    | none => if m e then some ([], e, es) else none

/-! ## The queue -/

/-- The entries of the queue, the final checkpoint not counted (R151, R153). -/
def nonFinal (q : List Entry) : Nat := (q.filter fun e => e.key != .final).length

/-- The free entries: none while a write is held (R153, R154). -/
def State.freeEntries (s : State) : Nat :=
  if s.held.isEmpty then Config.queueCapacity - nonFinal s.queue else 0

/-- A write named `k` will merge into a queued entry that is not under way (R152). -/
def State.willMerge (s : State) (k : EntryKey) : Bool := s.queue.tail.any (·.holds k)

/-- The held writes take the entries that are free, oldest first; one that finds its own record or
group queued and not under way merges there (R154). `n` bounds the writes moved. -/
def State.promoteHeld : Nat → State → State
  | 0, s => s
  | n + 1, s =>
    match s.held with
    | [] => s
    | h :: rest =>
      if nonFinal s.queue < Config.queueCapacity then
        match splitLast (·.holds h.key) s.queue.tail with
        | some (b, x, a) =>
          State.promoteHeld n
            { s with queue := s.queue.take 1 ++ b ++ x.merge h :: a, held := rest }
        | none => State.promoteHeld n { s with queue := s.queue ++ [h], held := rest }
      else s

/-- One write of a request or a block, given the writes the same request or sequence entered before
it: merged where R152 lets it, moved to the tail where an earlier write of the sequence would
otherwise follow it (R152), entered where an entry is free, and held otherwise (R154).  A record or group
that stands both in a held write and in a waiting entry is merged in the held write, the later of the two
(R156; log entry 49). -/
def State.enter (earlier : List EntryKey) (w : Entry) (s : State) : State :=
  let follows (l : List Entry) : Bool := l.any fun e => earlier.any e.holds
  match splitLast (·.holds w.key) s.held with
  | some (b, x, a) =>
    if follows a then { s with held := b ++ a ++ [x.merge w] }
    else { s with held := b ++ x.merge w :: a }
  | none =>
    match splitLast (·.holds w.key) s.queue.tail with
    | some (b, x, a) =>
      let front := s.queue.take 1 ++ b
      if follows (a ++ s.held) then
        if s.held.isEmpty then { s with queue := front ++ a ++ [x.merge w] }
        else
          State.promoteHeld (s.held.length + 1)
            { s with queue := front ++ a, held := s.held ++ [x.merge w] }
      else { s with queue := front ++ x.merge w :: a }
    | none =>
      if 0 < s.freeEntries then { s with queue := s.queue ++ [w] }
      else { s with held := s.held ++ [w] }

/-- Several writes of one request or sequence, in order. -/
def State.enterAll (ws : List Entry) (s : State) : State :=
  (ws.foldl (fun (acc : List EntryKey × State) w => (w.key :: acc.1, acc.2.enter acc.1 w))
    ([], s)).2

/-- How a request's writes meet the queue (R153): refused with DEFERRED or BUSY, or admitted. -/
def State.refusesWrites (s : State) (keys : List EntryKey) : Option Result :=
  if s.supplyWarning then some .deferred
  else if s.freeEntries < (keys.filter fun k => !s.willMerge k).length then some .busy
  else none

/-! ## Entries -/

/-- A single record's entry. -/
def singleEntry (r : RecordId) (w : RecordWrite) (acts : List Act) : Entry := ⟨.single r, [w], acts⟩

def identityEntry (c : IdentityRec) (acts : List Act) : Entry :=
  singleEntry .identity (.identity c) acts

def authorityEntry (i : AuthId) (c : AuthorityRec) (acts : List Act) : Entry :=
  singleEntry (.authority i) (.authority i c) acts

def rangeEntry (r : RangeId) (c : Option RangeRec) (acts : List Act) : Entry :=
  singleEntry (.range r) (.range r c) acts

def keyEntry (r : RangeId) (c : KeyRec) (acts : List Act) : Entry :=
  singleEntry (.key r) (.key r c) acts

/-- The erasure of one key record, its generation kept (R47). -/
def keyEraseEntry (r : RangeId) (acts : List Act) : Entry :=
  singleEntry (.key r) (.eraseKey r) acts

def policyEntry (c : PolicyRec) (acts : List Act) : Entry := singleEntry .policy (.policy c) acts

def pairingEntry (c : Option Secret) (acts : List Act) : Entry :=
  singleEntry .pairing (.pairing c) acts

def triesEntry (c : TriesRec) (acts : List Act) : Entry := singleEntry .tries (.tries c) acts

def custodyEntry (c : CustodyRec) (acts : List Act) : Entry :=
  singleEntry .custody (.custody c) acts

def journalEntry (c : JournalRec) (how : JournalWrite) (acts : List Act) : Entry :=
  singleEntry .journal (.journal c how) acts

/-- The Custody record as the Custody Controller holds it (R108).  A clock is written exact when it is
not counting, or when its value was set in the event (R119). -/
def State.custodyRec (s : State) (checkinSet escalationSet : Bool) : CustodyRec where
  state := s.custody.state
  foreignCount := s.custody.foreignCount
  checkin := s.custody.checkin
  checkinExact := checkinSet || !s.checkinCounting
  escalation := s.custody.escalation
  escalationExact := escalationSet || !s.escalationCounting
  target := s.custody.target

/-- The Scrub journal as the Scrub Controller holds it (R138). -/
def State.journalRec (s : State) : JournalRec := ⟨s.scrub.job.map (·.journal), s.scrub.waiting⟩

/-- An internal Custody record commit (R108, R154). -/
def State.storeCustody (s : State) (checkinSet escalationSet : Bool) (acts : List Act) : State :=
  s.enter [] (custodyEntry (s.custodyRec checkinSet escalationSet) acts)

/-- The custody scrub job over the whole medium (R133). -/
def State.custodyJob (s : State) : JournalJob :=
  ⟨.custody, none, 0, (s.geometry.map (·.capacity)).getD 0, 0, false⟩

/-- The Key-erase group (R131), with the root key drawn for it. -/
def eraseGroupEntry (root : Secret) (c : CustodyRec) (j : JournalRec) (acts : List Act) : Entry where
  key := .eraseGroup
  writes :=
    allRanges.map .eraseKey ++ [.rootKey root] ++ allRanges.map (.rangeState · .void) ++
      allAuthorities.map .unsetAuthority ++ [.custody c, .journal j .plain]
  acts := acts

/-- The RETIRE group of a RETIRE request or of a RETIRE job's completion (R135, R142). -/
def retireGroupEntry (r : RangeId) (st : RangeState) (j : JournalRec) (how : JournalWrite)
    (acts : List Act) : Entry :=
  ⟨.retireGroup r, [.eraseKey r, .rangeState r st, .journal j how], acts⟩

/-! ## The final checkpoint (R157, R158) -/

/-- What the final checkpoint writes of the scrub: the live cursor, for the current job (R157; log entry
15). -/
def State.finalCursor (s : State) : List RecordWrite :=
  match s.scrub.job with
  | some j => [.finalCursor j.journal.kind j.journal.range j.journal.cursor]
  | none => []

/-- What the final checkpoint writes: both clocks exact, and the live cursor of the current job. -/
def State.finalWrites (s : State) : List RecordWrite :=
  .finalClocks s.custody.checkin s.custody.escalation true true :: s.finalCursor

/-- A final checkpoint waits and is not under way. -/
def State.finalWaiting (s : State) : Bool := s.queue.tail.any fun e => e.key = .final

/-- The waiting final checkpoint with its contents changed. -/
def mapFinal (f : List RecordWrite → List RecordWrite) (q : List Entry) : List Entry :=
  q.take 1 ++ q.tail.map fun e => if e.key = .final then { e with writes := f e.writes } else e

/-- An advance of a clock updates the waiting final checkpoint in place (R157). -/
def State.updateFinalClocks (s : State) : State :=
  { s with queue := mapFinal (fun ws => ws.map fun w =>
      match w with
      | .finalClocks _ _ cx ex => .finalClocks s.custody.checkin s.custody.escalation cx ex
      | w => w) s.queue }

/-- A write of the scrub cursor by the final checkpoint. -/
def RecordWrite.isFinalCursor : RecordWrite → Bool
  | .finalCursor _ _ _ => true
  | _ => false

/-- An advance of the live cursor, and the end or the discard of the job, update the waiting final
checkpoint in place: it carries the live cursor of the current job, and none where there is no job (R146,
R157; log entry 15). -/
def State.updateFinalCursor (s : State) : State :=
  { s with queue :=
      mapFinal (fun ws => ws.filter (fun w => !w.isFinalCursor) ++ s.finalCursor) s.queue }

/-- A deassertion clears the exact marks of the counting clocks in the waiting final checkpoint
(R158). -/
def State.clearFinalExact (s : State) : State :=
  { s with queue := mapFinal (fun ws => ws.map fun w =>
      match w with
      | .finalClocks ci es cx ex =>
        .finalClocks ci es (cx && !s.checkinCounting) (ex && !s.escalationCounting)
      | w => w) s.queue }

/-- The final checkpoint of an assertion: behind the entry under way, or at the head of an empty queue;
none where one still waits, which keeps the exact marks as they stand (R157; log entry 50). -/
def State.placeFinal (s : State) : State :=
  if s.finalWaiting then s
  else { s with queue := s.queue.take 1 ++ ⟨.final, s.finalWrites, []⟩ :: s.queue.tail }

end Sys2Proof.Machine
end

