-- ==== Sys2Proof/Machine/Ops.lean ====
section
/-!
DEFINITION. The operations the commands share: replies and requests in flight (R174, R176 to R178),
rights and holders (R103), binding and releasing lanes (R52, R53), the random source, the custody
responses (R122, R123, R129 to R133) and the custody clocks (R118, R120).
-/

namespace Sys2Proof.Machine

open Sys2Proof

/-! ## Replies -/

/-- A reply enters a port's reply slot (R174). -/
def State.reply (s : State) (p : Port) (kind tag : Byte) (b : ReplyBody) : State :=
  s.setPort p { s.port p with replySlot := some ⟨kind, tag, b⟩ }

/-- The reply of a request answered at once (R174). -/
def State.replyTo (s : State) (k : ReqKind) (p : Port) (tag : Byte) (b : ReplyBody) : State :=
  s.reply p (replyKind k) tag b

/-- A request goes in flight on its port (R177). -/
def State.startWork (s : State) (k : ReqKind) (p : Port) (tag : Byte) (w : Work) : State :=
  s.setPort p { s.port p with inFlight := some ⟨k, tag, w⟩ }

/-- The work of a port's request in flight goes on as other work. -/
def State.setWork (s : State) (p : Port) (w : Work) : State :=
  s.setPort p { s.port p with inFlight := (s.port p).inFlight.map fun f => { f with work := w } }

/-- The end of the work of a port's request in flight: its reply enters the empty slot and the marker
becomes none, or it is the deferred reply while the slot is full (R178). -/
def State.answer (s : State) (p : Port) (b : ReplyBody) : State :=
  match (s.port p).inFlight with
  | none => s
  | some f =>
    if (s.port p).replySlot.isNone then
      s.setPort p
        { s.port p with replySlot := some ⟨replyKind f.kind, f.tag, b⟩, inFlight := none }
    else
      s.setPort p
        { s.port p with
          deferred := some ⟨replyKind f.kind, f.tag, b⟩
          inFlight := some { f with work := .answered } }

/-- The end of a request transaction: the receive buffer is empty again, and no byte that was sent is a
reply's, so each is the filler (R173, R185; log entry 12). -/
def State.endTransaction (s : State) (p : Port) : State :=
  s.setPort p { s.port p with rxBuffer := [], dataOut := [] }

/-- The checks of R176 after the kind's: port, length, the in-flight rule (R177). -/
def frameRefusal (s : State) (k : ReqKind) (p : Port) (pl : List Byte) : Option Result :=
  if !servedOn k p then some .wrongPort
  else if !admitsLength k pl then some .badLength
  else if (s.port p).inFlight.isSome && !exemptFromBusy k then some .busy
  else none

/-! ## The random source (R45, R46, R73, R115) -/

def State.drawSecret (s : State) : Secret × State :=
  (Config.randomSecret s.draws, { s with draws := s.draws + 1 })

def State.drawNonce (s : State) : Nonce × State :=
  (Config.randomNonce s.draws, { s with draws := s.draws + 1 })

/-- A new key record for a range: a fresh key, its check code, wrapped under the current root key, the
slot's generation plus one (R46). -/
def State.drawKey (s : State) (r : RangeId) : KeyRec × State :=
  let d := s.drawSecret
  (⟨s.keys[r.val].generation + 1, some (Config.wrapKey s.rootKey d.1, Config.checkFunction d.1)⟩, d.2)

/-! ## Rights (R103) -/

def Rights.hasRead (w : Rights) : Bool := w != .write

def Rights.hasWrite (w : Rights) : Bool := w != .read

/-- The range entry with the named rights off; the holder goes with the last right (R103). -/
def RangeEntry.without (e : RangeEntry) (w : Rights) : RangeEntry :=
  let read := e.read && !w.hasRead
  let write := e.write && !w.hasWrite
  { e with read, write, holder := if read || write then e.holder else none }

/-- The range entry with both rights off and no holder. -/
def RangeEntry.locked (e : RangeEntry) : RangeEntry :=
  { e with read := false, write := false, holder := none }

/-- A range has a right on. -/
def RangeEntry.hasRight (e : RangeEntry) : Bool := e.read || e.write

/-- Every range without its rights and holder. -/
def State.lockAll (s : State) : State := { s with ranges := mapVec RangeEntry.locked s.ranges }

/-! ## Lanes -/

/-- The record of a lane, if there is such a lane. -/
def State.laneAt (s : State) (n : Nat) : Option LaneRec := s.lane.lanes[n]?

/-- One lane record changed. -/
def State.updLane (s : State) (n : Nat) (f : LaneRec → LaneRec) : State :=
  s.setLanes (s.lane.lanes.modify n f)

/-- Releasing a lane (R53). -/
def LaneRec.release (l : LaneRec) : LaneRec :=
  match l.state with
  | .loading => { l with state := .clearing, plan := .clear }
  | .loaded => { l with state := .clearing, plan := .clear }
  | .clearing => { l with plan := .clear }
  | .fault => { l with plan := .clear }
  | .free => { l with plan := .clear }

/-- The lane of a range, if any, is released (R53). -/
def State.releaseOf (s : State) (r : RangeId) : State :=
  match (s.range r).lane with
  | some n => s.updLane n LaneRec.release
  | none => s

/-- Every lane is released (R65, R69). -/
def State.releaseAll (s : State) : State := s.setLanes (s.lane.lanes.map LaneRec.release)

/-- A lane made LOADING for a range, with that range's check code (R52). -/
def LaneRec.bind (l : LaneRec) (r : RangeId) (code : Option Code) : LaneRec :=
  { l with state := .loading, range := some r, expected := code, plan := .load, votes := [], attempts := 0 }

/-- The check code of a range's key record (R51). -/
def State.checkCode (s : State) (r : RangeId) : Option Code := s.keys[r.val].key.map (·.2)

/-- The lowest-numbered FREE lane (R52). -/
def State.lowestFree (s : State) : Option Nat := s.lane.lanes.findIdx? fun l => l.state = .free

/-- Binding a lane to a range; `true` hands back "bound", `false` "no lane" (R52). -/
def State.bind (s : State) (r : RangeId) : State × Bool :=
  match (s.range r).lane with
  | none =>
    match s.lowestFree with
    | none => (s, false)
    | some n =>
      ((s.updLane n fun l => l.bind r (s.checkCode r)).setRange r { s.range r with lane := some n }, true)
  | some n =>
    match (s.laneAt n).map LaneRec.state with
    | some .loading => (s, true)
    | some .loaded => (s, true)
    | some .clearing => (s.updLane n fun l => l.bind r (s.checkCode r), true)
    | some .fault => (s, false)
    | some .free => (s, false)
    | none => (s, false)

/-- The binding of a lane removed in both records (R52). -/
def State.unbind (s : State) (n : Nat) : State :=
  match (s.laneAt n).bind LaneRec.range with
  | some r => (s.updLane n fun l => { l with range := none }).setRange r { s.range r with lane := none }
  | none => s

/-- The lane field of a range and the range field of its lane, both removed; the lane keeps its state
and plan (R132, R135). -/
def State.unbindRange (s : State) (r : RangeId) : State :=
  match (s.range r).lane with
  | some n => (s.updLane n fun l => { l with range := none }).setRange r { s.range r with lane := none }
  | none => s

/-- Range 0 is bound and, when bound, given both rights with no holder (R7, R66). -/
def State.restoreGlobal (s : State) : State :=
  let b := s.bind 0
  if b.2 then b.1.setRange 0 { b.1.range 0 with read := true, write := true, holder := none } else b.1

/-- In custody OPEN, range 0 gets its rights and a lane back once it has no lane (R66, R102). -/
def State.restoreIfUnbound (s : State) : State :=
  if s.custody.state = .opened && (s.range 0).lane.isNone then s.restoreGlobal else s

/-- The named rights of a range are turned off, and its lane is released once both are (R98, R103). -/
def State.lockRange (s : State) (w : Rights) (r : RangeId) : State :=
  let s1 := s.setRange r ((s.range r).without w)
  if (s1.range r).hasRight then s1 else s1.releaseOf r

/-- Both rights are off and a lane is still bound: the clear is pending (R99). -/
def State.clearPending (s : State) (r : RangeId) : Bool :=
  !(s.range r).hasRight && (s.range r).lane.isSome

/-! ## Custody responses -/

/-- The Scrub Controller without job and list (R130); a waiting final checkpoint loses the job's cursor
(R157). -/
def State.discardScrub (s : State) : State :=
  { s with scrub := { s.scrub with job := none, waiting := [] } }.updateFinalCursor

/-- The escalation target fixed on entry to CONCEALED (R120). -/
def PolicyRec.escalationTarget (p : PolicyRec) : Level :=
  if [p.tryExhaustion, p.checkinExpired, p.foreignStart, p.remoteOrder, p.adminOrder].contains .scrub
  then .scrub else .erase

/-- A LANE_HOLD in flight will not take effect (R65). -/
def State.withdrawHold (s : State) : State :=
  match s.drive.inFlight with
  | some ⟨_, _, .holding _⟩ => s.setWork .drive (.holding true)
  | _ => s

/-- The effects of entering CONCEALED on the other blocks and on the escalation clock (R65, R123,
R129): no rights, BLANK, every lane released, a hold ended; the epoch's increment follows the notices. -/
def State.conceal (s : State) : State :=
  let s1 := (s.lockAll.releaseAll).withdrawHold
  let link := if s1.lane.link = .held then LinkState.up else s1.lane.link
  { s1 with
    mode := .blank
    lane := { s1.lane with link := link }
    custody := { s1.custody with
      escalation := 0, escalationSecs := 0, target := s1.policy.escalationTarget } }

/-- The Key-erase group of an entry to ERASED or SCRUBBING (R131, R133). -/
def State.enterEraseGroup (s : State) (j : JournalRec) (acts : List Act) : State :=
  let d := s.drawSecret
  d.2.enter [] (eraseGroupEntry d.1 (s.custodyRec false true) j acts)

/-- A queued or held Key-erase group takes the SCRUBBING Custody record and the custody job in place
(R133). -/
def addCustodyJob (c : CustodyRec) (j : JournalRec) (acts : List Act) (e : Entry) : Entry :=
  if e.key = .eraseGroup then
    { e with
      writes := e.writes.map fun w =>
        match w with
        | .custody _ => .custody c
        | .journal _ _ => .journal j .plain
        | w => w
      acts := e.acts ++ acts }
  else e

/-- How the entry to SCRUBBING from ERASED is stored (R133). -/
def State.storeScrubbing (s : State) (acts : List Act) : State :=
  let c := s.custodyRec false false
  let j : JournalRec := ⟨some s.custodyJob, []⟩
  let add := addCustodyJob c j (.custodyJobStored :: acts)
  if s.queue.tail.any (fun e => e.key = .eraseGroup) || s.held.any (fun e => e.key = .eraseGroup) then
    { s with queue := s.queue.take 1 ++ s.queue.tail.map add, held := s.held.map add }
  else s.enterAll [journalEntry j .plain [], custodyEntry c (.custodyJobStored :: acts)]

/-- The storing commit of the state a response entered (R123, R130, R133); `acts` wait on it. -/
def State.storeResponse (s : State) (old : Custody) (acts : List Act) : State :=
  match s.custody.state with
  | .concealed => s.storeCustody false true acts
  | .erased => s.discardScrub.enterEraseGroup ⟨none, []⟩ (.keysErased :: acts)
  | .scrubbing =>
    if old = .erased then s.storeScrubbing acts
    else
      s.discardScrub.enterEraseGroup ⟨some s.custodyJob, []⟩ (.keysErased :: .custodyJobStored :: acts)
  | _ => s

/-- A response of a level changes the custody state (R122). -/
def State.responds (s : State) (l : Level) : Bool :=
  s.custody.state != .opened && s.custody.state.strength < l.target.strength

/-- A response of a level (R122, R123): nothing in OPEN or at or above its target, else the move with
the effects of every state passed over, CUSTODY_CHANGED on both ports, LANE_LINK_UP for a hold ended,
PRESENTATION_CHANGED for the entry to CONCEALED (R129), and the storing commit, on which `acts` wait.  A second
response of one event so queues its CUSTODY_CHANGED behind the first's PRESENTATION_CHANGED (R180; log entry
21). -/
def State.respond (s : State) (l : Level) (acts : List Act) : State :=
  if s.responds l then
    let old := s.custody.state
    let s1 := if old.inUse then s.conceal else s
    let s2 := { s1 with custody := { s1.custody with state := l.target } }
    let s3 := s2.notifyBoth .custodyChanged
    let s4 := if old.inUse && s.lane.link = .held then s3.notify .drive .laneLinkUp else s3
    (State.raiseIf old.inUse s4).storeResponse old acts
  else s

/-- A trigger, at its policy level (R121). -/
def State.take (s : State) (t : Trigger) : State := s.respond (s.policy.level t) []

/-! ## The custody clocks -/

/-- Custody becomes WARNED: CHECKIN_DUE on both ports and an internal Custody write (R118). -/
def State.warn (s : State) : State :=
  (({ s with custody := { s.custody with state := .warned } }).notifyBoth .checkinDue).storeCustody
    false false []

/-- One advance of the counting check-in clock (R118).  A CONCEALED drive was made so by this advance, which
set its escalation clock (R119). -/
def State.advanceCheckin (s : State) : State :=
  let v := min (s.custody.checkin + 1) s.policy.expiryPoint
  let s1 := { s with custody := { s.custody with checkin := v, checkinSecs := 0 } }.updateFinalClocks
  let s2 :=
    if s.policy.expiryPoint ≤ v then s1.take .checkinExpired
    else if s1.custody.state = .guarded && s.policy.warningPoint ≤ v then s1.warn
    else s1
  if v % Config.checkpointMinutes = 0 then s2.storeCustody false (s2.custody.state = .concealed) []
  else s2

/-- One advance of the counting escalation clock (R120).  A hold that a SET_POLICY still in flight lowered to the
clock or below it has its limit taken here, at the next advance: the model's choice, log entry 54. -/
def State.advanceEscalation (s : State) : State :=
  let v := min (s.custody.escalation + 1) s.policy.escalationLimit
  let s1 :=
    { s with custody := { s.custody with escalation := v, escalationSecs := 0 } }.updateFinalClocks
  let s2 := if s.policy.escalationLimit ≤ v then s1.respond s1.custody.target [] else s1
  if v % Config.checkpointMinutes = 0 then s2.storeCustody false false [] else s2

/-- A PENDING verdict becomes FOREIGN: in GUARDED or WARNED the count rises, and its commit is followed
by the test for FOREIGN_START (R117). -/
def State.becomeForeign (s : State) : State :=
  let s1 := { s with custody := { s.custody with verdict := .foreign } }
  if s.custody.state.inUse then
    { s1 with custody := { s1.custody with foreignCount := min (s.custody.foreignCount + 1) 15 } }.storeCustody
      false false [.foreignTest]
  else s1

/-- The pairing window expires (R117). -/
def State.expireWindow (s : State) : State :=
  let s1 := { s with custody := { s.custody with window := Config.pairingWindow } }
  if s.custody.verdict = .pending then s1.becomeForeign else s1

/-! ## The effect of RESTART (R69, R169) -/

/-- The mode, and range 0's rights in OPEN, from the custody state as corrected (R162, R163). -/
def State.choosePresentation (s : State) : State :=
  let s1 := { s with mode := .ofCustody s.custody.state }
  if s1.custody.state = .opened then s1.restoreGlobal else s1

/-- A port's notice queue emptied and its mark cleared (R181). -/
def PortState.withoutNotices (q : PortState) : PortState := { q with notices := [], overflow := false }

/-- A job without its orders, the issue point at the live cursor (R138). -/
def Job.forgetOrders (j : Job) : Job := { j with orders := [], issue := j.journal.cursor }

/-- A LOAD slot in progress goes on without the plaintext key (R48, R59; log entry 42). -/
def Sent.withoutKey : Sent → Sent
  | .load _ => .load none
  | x => x

/-- RESTART releases every lane, but in OPEN leaves range 0's LOADING lane, which binding then finds bound
(R52, R69; log entry 43). -/
def State.releaseForRestart (s : State) : State :=
  let kept (n : Nat) (l : LaneRec) : Bool :=
    s.custody.state = .opened && (s.range 0).lane = some n && l.state = .loading
  s.setLanes (s.lane.lanes.mapIdx fun n l => if kept n l then l else l.release)

/-- RESTART takes effect (R69, R169).  The lane fields of the ranges stay, with the bindings of the released
lanes (R53; log entry 41). -/
def State.restarted (s : State) : State :=
  let s1 := s.lockAll.releaseForRestart
  let s2 :=
    { s1 with
      restartPending := none
      startCause := .restart
      drive := s1.drive.withoutNotices
      platform := s1.platform.withoutNotices
      epoch := s1.epoch + 1
      scrub := { s1.scrub with job := s1.scrub.job.map Job.forgetOrders }
      lane :=
        { s1.lane with
          link := if s1.lane.link = LinkState.held then LinkState.up else s1.lane.link
          sent := s1.lane.sent.map Sent.withoutKey } }
  s2.choosePresentation

/-- The event in which a RESTART takes effect, its reply in the reply slot (R168, R172, R174). -/
def State.restartTakesEffect (s : State) : State :=
  match s.restartPending with
  | some r =>
    let s1 := s.restarted
    { s1 with drive := { s1.drive with replySlot := some r } }
  | none => s

/-! ## Frames and events -/

/-- The RESTART that a port's next transaction finds taken and not yet in effect. -/
def State.restartOn (s : State) : Port → Option Reply
  | .drive => s.restartPending
  | .platform => none

/-- A transaction on the Drive Port meets the state in which a RESTART taken before it is in effect and its
reply stands in the slot (R168, R172, R174; log entry 11). -/
def State.settle (s : State) : Port → State
  | .drive => s.restartTakesEffect
  | .platform => s

/-- A request's frame: discarded before the start instant (R160) and over an unread reply (R173),
refused by the port's checks (R176), or handed to its owner, whose work is one event. -/
def takeRequest (k : ReqKind) (p : Port) (tag : Byte) (pl : List Byte) (owner : State → State)
    (s : State) : State :=
  if !s.powered then s
  else
    let s0 := s.settle p
    let s1 := s0.endTransaction p
    if (s0.port p).replySlot.isSome then s1
    else
      match frameRefusal s0 k p pl with
      | some r => s1.replyTo k p tag (.code r)
      | none => State.sealEvent s1 (owner s1)

/-- A device event that no frame brings: nothing before the start instant (R160), one event after. -/
def deviceEvent (f : State → State) (s : State) : State :=
  if s.powered then State.sealEvent s (f s) else s

end Sys2Proof.Machine
end

