-- ==== Sys2Proof/Machine/Authorities.lean ====
section
/-!
DEFINITION. The Authority Table (chapter 4): the credential check with its gates, charge, compare and
refund (R74 to R83), SET_AUTHORITY (R84 to R86) and ENROL (R87).
-/

namespace Sys2Proof.Machine

open Sys2Proof

/-! ## Tries -/

/-- The Tries contents of a charge (R76, R83). -/
def State.chargedTries (s : State) (a : AuthId) : TriesRec :=
  let limit := s.authorities[a.val].tryLimit
  let f := min (s.tries.failures[a.val] + 1) limit
  let mark := s.tries.lockout[a.val] || (f = limit && a.val != 0)
  ⟨s.tries.failures.set a.val f a.isLt, s.tries.lockout.set a.val mark a.isLt,
    min (s.tries.device + 1) s.policy.deviceTryLimit⟩

/-- A Tries record with one authority's count and mark. -/
def TriesRec.withCount (t : TriesRec) (a : AuthId) (f : Nat) (mark : Bool) : TriesRec :=
  { t with failures := t.failures.set a.val f a.isLt, lockout := t.lockout.set a.val mark a.isLt }

/-- The Tries contents of a refund (R77). -/
def State.refundedTries (s : State) (a : AuthId) : TriesRec :=
  { s.tries.withCount a 0 false with device := 0 }

/-! ## The credential check -/

/-- The digest of a salt followed by a credential (R73). -/
def verifierOf (salt : Nonce) (credential : Secret) : Secret :=
  Config.digest (nonceBytes salt ++ secretBytes credential)

/-- The presented credential matches the stored verifier (R73). -/
def AuthorityRec.accepts (c : AuthorityRec) (credential : Secret) : Bool :=
  match c.salt, c.verifier with
  | some salt, some v => verifierOf salt credential = v
  | _, _ => false

/-- The four gates in their order, and the reply of the first that fails (R75). -/
def gateRefusal (s : State) (a : AuthId) : Option ReplyBody :=
  if !(s.custody.state.inUse || s.custody.state = .concealed) then some (.code .state)
  else
    match s.authorityState a with
    | .unset => some (.code .denied)
    | .disabled => some (.code .denied)
    | .lockedOut => some (.code .lockedOut)
    | .active =>
      if s.backoff[a.val] ≠ 0 then some (.tooSoon s.backoff[a.val])
      else if s.custody.state = .concealed && a.val != 7 then some (.code .state)
      else none

/-- The credential check of a Drive Port request is taken: the gates, then the charge (R75, R76). -/
def State.beginCheck (s : State) (k : ReqKind) (tag : Byte) (a : AuthId) (credential : Secret)
    (req : CredReq) : State :=
  match gateRefusal s a with
  | some b => s.replyTo k .drive tag b
  | none =>
    match s.refusesWrites [.single .tries] with
    | some r => s.replyTo k .drive tag (.code r)
    | none =>
      (s.enterAll [triesEntry (s.chargedTries a) [.charged]]).startWork k .drive tag
        (.charging a credential req)

/-- A request of the Administrator alone: its authority index must be 0 (R11, R49, R110, R134), its
values legal (`parsed`), and the state it needs before a charge there (`ready`). -/
def State.beginAdmin {α : Type} (s : State) (k : ReqKind) (tag : Byte) (pl : List Byte)
    (parsed : Option α) (ready : Bool) (req : α → CredReq) : State :=
  if (authAt pl).1 ≠ 0 then s.replyTo k .drive tag (.code .denied)
  else
    match parsed with
    | none => s.replyTo k .drive tag (.code .badValue)
    | some x =>
      if !ready then s.replyTo k .drive tag (.code .state)
      else s.beginCheck k tag 0 (authAt pl).2 (req x)

/-- The failed check (R78): the backoff, TRY_LOCKOUT, TRY_EXHAUSTION, and DENIED. -/
def State.failCheck (s : State) (a : AuthId) : State :=
  let b := backoffOf s.tries.failures[a.val]
  let locked := s.tries.lockout[a.val]
  let s1 := s.setBackoff a b
  let s2 := if locked then s1.notify .drive .tryLockout else s1
  let s3 := if s2.policy.deviceTryLimit ≤ s2.tries.device then s2.take .tryExhaustion else s2
  s3.answer .drive (.deniedCheck b locked)

/-- The charge commit completes: the compare is made, and a match enters the refund (R76, R77). -/
def State.compare (s : State) : State :=
  let s1 := { s with tries := s.store.tries }
  match s1.drive.inFlight with
  | some ⟨_, _, .charging a credential req⟩ =>
    if s1.authorities[a.val].accepts credential then
      (s1.enter [] (triesEntry (s1.refundedTries a) [.refunded])).setWork .drive (.refunding a req)
    else s1.failCheck a
  | _ => s1

/-! ## After the check -/

/-- A request past its check enters its commits, or is refused with DEFERRED or BUSY (R153). -/
def State.commitRequest (s : State) (ws : List Entry) : State :=
  match s.refusesWrites (ws.map (·.key)) with
  | some r => s.answer .drive (.code r)
  | none => (s.enterAll ws).setWork .drive .committing

/-- A request without a check enters its commits and goes in flight, or is refused (R153). -/
def State.beginCommit (s : State) (k : ReqKind) (p : Port) (tag : Byte) (ws : List Entry) : State :=
  match s.refusesWrites (ws.map (·.key)) with
  | some r => s.replyTo k p tag (.code r)
  | none => (s.enterAll ws).startWork k p tag .committing

/-! ## SET_AUTHORITY -/

/-- The reply OK of SET_AUTHORITY (R84). -/
def State.authorityReply (s : State) (t : AuthId) : ReplyBody :=
  .authority (s.authorityState t) s.tries.failures[t.val] s.authorities[t.val].tryLimit

/-- The waiters of an operation's last entry. -/
def authorityDone (t : AuthId) : List Act := [.answer .drive (.authority t)]

/-- CREDENTIAL (R85): a new salt and verifier; UNSET becomes ACTIVE. -/
def State.goCredential (s : State) (t : AuthId) (credential : Secret) : State :=
  let c := s.authorities[t.val]
  let d := s.drawNonce
  let stored := if c.stored = .unset then StoredAuthority.active else c.stored
  let c' : AuthorityRec := { c with
    stored := stored, salt := some d.1, verifier := some (verifierOf d.1 credential) }
  match s.refusesWrites [.single (.authority t)] with
  | some r => s.answer .drive (.code r)
  | none => d.2.commitRequest [authorityEntry t c' (.authorityStored t :: authorityDone t)]

/-- LIMIT (R85). -/
def State.goLimit (s : State) (t : AuthId) (limit : Nat) : State :=
  let c := s.authorities[t.val]
  if s.policy.frozen && c.tryLimit < limit then s.answer .drive (.code .frozen)
  else if limit = c.tryLimit then s.answer .drive (s.authorityReply t)
  else
    let tries :=
      if limit ≤ s.tries.failures[t.val] then
        [triesEntry (s.tries.withCount t limit (s.tries.lockout[t.val] || t.val != 0))
          [.limitStored t]]
      else []
    s.commitRequest
      (tries ++ [authorityEntry t { c with tryLimit := limit } (.authorityStored t :: authorityDone t)])

/-- ENABLE, DISABLE and REINSTATE (R86). -/
def State.goEnable (s : State) (t : AuthId) : State :=
  match s.authorityState t with
  | .disabled =>
    s.commitRequest
      [triesEntry (s.tries.withCount t 0 false) [.triesStored],
        authorityEntry t { s.authorities[t.val] with stored := .active }
          (.authorityStored t :: .backoffCleared t :: authorityDone t)]
  | .active => s.answer .drive (s.authorityReply t)
  | _ => s.answer .drive (.code .state)

def State.goDisable (s : State) (t : AuthId) : State :=
  match s.authorityState t with
  | .unset => s.answer .drive (.code .state)
  | .disabled => s.answer .drive (s.authorityReply t)
  | _ =>
    s.commitRequest
      [authorityEntry t { s.authorities[t.val] with stored := .disabled }
        (.authorityStored t :: authorityDone t)]

def State.goReinstate (s : State) (t : AuthId) : State :=
  match s.authorityState t with
  | .lockedOut =>
    s.commitRequest
      [triesEntry (s.tries.withCount t 0 false)
        (.triesStored :: .backoffCleared t :: authorityDone t)]
  | _ => s.answer .drive (.code .state)

/-- SET_AUTHORITY at the instant its refund completes (R84 steps 4 to 6). -/
def State.goSetAuthority (s : State) (t : AuthId) (op : AuthorityOp) (credential : Secret)
    (limit : Nat) : State :=
  if !s.custody.state.inUse then s.answer .drive (.code .state)
  else
    match op with
    | .credential => s.goCredential t credential
    | .limit => s.goLimit t limit
    | .enable => s.goEnable t
    | .disable => s.goDisable t
    | .reinstate => s.goReinstate t

/-- SET_AUTHORITY when it is taken (R84 steps 1 to 3). -/
def setAuthorityOwner (op : AuthorityOp) (tag : Byte) (pl : List Byte) (s : State) : State :=
  match parseSetAuthority op pl with
  | none => s.replyTo .setAuthority .drive tag (.code .badValue)
  | some (caller, old, target, credential, limit) =>
    if caller.val ≠ 0 ∧ ¬(target = caller ∧ op = .credential) then
      s.replyTo .setAuthority .drive tag (.code .denied)
    else
      s.beginCheck .setAuthority tag caller old (.setAuthority target op credential limit)

def execSetAuthorityCredential (p : Port) (tag : Byte) (pl : List Byte) (s : State) :
    Host.Outcome State Fault Refusal :=
  .next (takeRequest .setAuthority p tag pl (setAuthorityOwner .credential tag pl) s)

def execSetAuthorityLimit (p : Port) (tag : Byte) (pl : List Byte) (s : State) :
    Host.Outcome State Fault Refusal :=
  .next (takeRequest .setAuthority p tag pl (setAuthorityOwner .limit tag pl) s)

def execSetAuthorityEnable (p : Port) (tag : Byte) (pl : List Byte) (s : State) :
    Host.Outcome State Fault Refusal :=
  .next (takeRequest .setAuthority p tag pl (setAuthorityOwner .enable tag pl) s)

def execSetAuthorityDisable (p : Port) (tag : Byte) (pl : List Byte) (s : State) :
    Host.Outcome State Fault Refusal :=
  .next (takeRequest .setAuthority p tag pl (setAuthorityOwner .disable tag pl) s)

def execSetAuthorityReinstate (p : Port) (tag : Byte) (pl : List Byte) (s : State) :
    Host.Outcome State Fault Refusal :=
  .next (takeRequest .setAuthority p tag pl (setAuthorityOwner .reinstate tag pl) s)

/-! ## ENROL -/

/-- ENROL (R87). -/
def enrolOwner (tag : Byte) (pl : List Byte) (s : State) : State :=
  if s.custody.state ≠ .opened ∨ s.geometry.isNone then s.replyTo .enrol .drive tag (.code .state)
  else
    match s.refusesWrites [.single (.authority 0), .single .tries, .single .custody] with
    | some r => s.replyTo .enrol .drive tag (.code r)
    | none =>
      let d := s.drawNonce
      let guarded := { s with custody := { s.custody with state := .guarded } }
      d.2.beginCommit .enrol .drive tag
        [authorityEntry 0 ⟨.active, some d.1, some (verifierOf d.1 (secretAt pl 0)), 10⟩
          [.authorityStored 0],
         triesEntry .clear [.triesStored],
         custodyEntry (guarded.custodyRec false false) [.enrolled]]

/-- The Custody record commit of ENROL completes (R87). -/
def State.enrolled (s : State) : State :=
  ({ s with
    custody := { s.custody with state := .guarded }
    backoff := Vector.replicate 8 0 }).answer .drive (.code .ok)

def execEnrol (p : Port) (tag : Byte) (pl : List Byte) (s : State) :
    Host.Outcome State Fault Refusal :=
  .next (takeRequest .enrol p tag pl (enrolOwner tag pl) s)

/-! ## Backoff -/

/-- An authority's backoff timer reaches 0 (R81). -/
def execBackoffExpiry (a : AuthId) (s : State) : Host.Outcome State Fault Refusal :=
  .next (deviceEvent (fun s => s.setBackoff a 0) s)

end Sys2Proof.Machine
end

