-- ==== Sys2Proof/Machine/Resolve.lean ====
section
/-!
DEFINITION. The Extent Resolver (chapter 2): capacity, translation around the concealed ranges,
attribution, disposition, merging, the limit of eight fragments, and the RESOLVE request.  It has no
state of its own (R43).
-/

namespace Sys2Proof.Machine

open Sys2Proof

/-! ## Extents and capacity (R1, R9) -/

/-- First media sector of a range's extent. -/
def RangeRec.first (c : RangeRec) : Nat := c.start * Config.granule

/-- Length of a range's extent in sectors. -/
def RangeRec.sectors (c : RangeRec) : Nat := c.length * Config.granule

/-- The media sector after a range's extent. -/
def RangeRec.stop (c : RangeRec) : Nat := (c.start + c.length) * Config.granule

/-- A media sector lies in a range's extent. -/
def RangeRec.covers (c : RangeRec) (m : Nat) : Bool := c.first ≤ m && m < c.stop

/-- U, in sectors; 0 while geometry is absent. -/
def State.userSectors (s : State) : Nat :=
  match s.geometry with
  | some g => g.capacity - g.image
  | none => 0

/-- I, in sectors. -/
def State.imageSectors (s : State) : Nat := (s.geometry.map (·.image)).getD 0

/-- The extents of the concealed ranges, in ascending range id: media start and length. -/
def State.concealedExtents (s : State) : List (Nat × Nat) :=
  s.concealedSet.filterMap fun r => (s.range r).stored.map fun c => (c.first, c.sectors)

/-- C (R9). -/
def State.capacity (s : State) : Nat := s.userSectors - (s.concealedExtents.map (·.2)).sum

/-! ## Translation (R33) -/

/-- A span put in its place among spans in ascending order of start. -/
def insertSpan (x : Nat × Nat) : List (Nat × Nat) → List (Nat × Nat)
  | [] => [x]
  | y :: ys => if x.1 ≤ y.1 then x :: y :: ys else y :: insertSpan x ys

/-- Spans in ascending order of start. -/
def sortSpans (l : List (Nat × Nat)) : List (Nat × Nat) := l.foldr insertSpan []

/-- Translation over concealed spans in ascending order of start. -/
def translateOver : List (Nat × Nat) → Nat → Nat
  | [], m => m
  | (start, len) :: rest, m => if start ≤ m then translateOver rest (m + len) else m

/-- The media address of a presented address (R33). -/
def State.translate (s : State) (p : Nat) : Nat := translateOver (sortSpans s.concealedExtents) p

/-! ## Attribution and disposition (R35, R36) -/

/-- The range of a media sector of user media (R2, R35). -/
def State.rangeOf (s : State) (m : Nat) : RangeId :=
  (explicitRanges.find? fun r => ((s.range r).stored.map fun c => c.covers m).getD false).getD 0

/-- The needed right is on (R36). -/
def RangeEntry.allows (e : RangeEntry) (op : MediaOp) : Bool :=
  match op with
  | .read => e.read
  | .write => e.write

/-- What resolution gives where a range has no key (R3, R35). -/
def keylessDisposition (op : MediaOp) : Disposition :=
  match op with
  | .read => .zero
  | .write => .refuseErased

/-- The disposition of a range's sectors in NORMAL (R35, R36). -/
def State.disposition (s : State) (op : MediaOp) (r : RangeId) : Disposition :=
  match (s.range r).stored.map RangeRec.state with
  | none => .refuseLocked
  | some .void => keylessDisposition op
  | some .blank => keylessDisposition op
  | some .active =>
    if !(s.range r).allows op then .refuseLocked
    else
      match ((s.range r).lane.bind s.laneAt).map LaneRec.state with
      | some .loaded => if s.lane.link = .up then .pass else .wait
      | _ => .wait

/-- A fragment of a range's sectors, with the fields its disposition carries (R27). -/
def State.rangeFragment (s : State) (op : MediaOp) (m n : Nat) : Fragment :=
  let r := s.rangeOf m
  match s.disposition op r with
  | .pass => ⟨n, .pass, some r, (s.range r).lane, some m⟩
  | .zero => ⟨n, .zero, none, none, none⟩
  | d => ⟨n, d, some r, none, none⟩

/-! ## Pieces (R29 to R34) -/

/-- The media addresses at which a range starts or ends. -/
def State.boundaries (s : State) : List Nat :=
  explicitRanges.flatMap fun r =>
    match (s.range r).stored with
    | some c => [c.first, c.stop]
    | none => []

/-- How many sectors from media `m`, at most `limit`, lie before the next range boundary (R34). -/
def runLength (bounds : List Nat) (m limit : Nat) : Nat :=
  bounds.foldl (fun n b => if m < b then min n (b - m) else n) limit

/-- Stage 3 and 4: the pieces of the presented span [p, e) (R33 to R36).  Every concealed range is an
explicit range, so both cuts of R34 are range boundaries of the media; sixteen ranges have fewer than
`fuel` of them. -/
def State.pieces (s : State) (op : MediaOp) : Nat → Nat → Nat → List Fragment
  | 0, _, _ => []
  | fuel + 1, p, e =>
    if e ≤ p then []
    else
      let m := s.translate p
      let n := runLength s.boundaries m (e - p)
      s.rangeFragment op m n :: s.pieces op fuel (p + n) e

/-- Pieces a request can have at most, with room to spare: 30 boundaries make 31. -/
def pieceFuel : Nat := 40

/-- A fragment without range, lane or media, or with a range only. -/
def plainFragment (n : Nat) (d : Disposition) (r : Option RangeId) : Fragment := ⟨n, d, r, none, none⟩

/-- A piece of some length, or none of length 0. -/
def ifSome (n : Nat) (f : Fragment) : List Fragment := if n = 0 then [] else [f]

/-- Stage 2 onward for the in-capacity span [p, e) (R30 to R32). -/
def State.inCapacity (s : State) (op : MediaOp) (p e : Nat) : List Fragment :=
  match s.mode, op with
  | .blank, .read => [plainFragment (e - p) .zero none]
  | .blank, .write => [plainFragment (e - p) .refuseLocked (some 0)]
  | .overlay, .read =>
    let a := min e s.imageSectors - p
    let b := e - max p s.imageSectors
    ifSome a ⟨a, .image, none, none, some (s.userSectors + p)⟩ ++ ifSome b (plainFragment b .zero none)
  | .overlay, .write => [plainFragment (e - p) .refuseLocked (some 0)]
  | .normal, _ => s.pieces op pieceFuel p e

/-! ## Merging and the limit (R38, R39) -/

/-- Two neighbours that stage 5 joins (R38). -/
def joins (a b : Fragment) : Bool :=
  match a.disposition, b.disposition with
  | .zero, .zero => true
  | .image, .image => true
  | .pass, .pass => a.lane = b.lane && b.media = a.media.map (· + a.count)
  | .wait, .wait => a.range = b.range
  | .refuseLocked, .refuseLocked => a.range = b.range
  | .refuseErased, .refuseErased => a.range = b.range
  | _, _ => false

/-- Stage 5: neighbours joined until none joins (R38). -/
def mergeFragments : List Fragment → List Fragment
  | [] => []
  | f :: fs =>
    match mergeFragments fs with
    | [] => [f]
    | g :: gs => if joins f g then { f with count := f.count + g.count } :: gs else f :: g :: gs

/-- Stages 1 to 5: the fragments of [p, p + n) before the limit (R29 to R38). -/
def State.fragments (s : State) (op : MediaOp) (p n : Nat) : List Fragment :=
  let c := s.capacity
  if c ≤ p then [plainFragment n .beyond none]
  else
    mergeFragments
      (s.inCapacity op p (min (p + n) c) ++ ifSome (p + n - c) (plainFragment (p + n - c) .beyond none))

/-- Sectors a list of fragments accounts for (R26). -/
def coveredBy (fs : List Fragment) : Nat := (fs.map (·.count)).sum

/-- The OK reply of a RESOLVE (R26, R39). -/
def State.resolution (s : State) (op : MediaOp) (p n : Nat) : ReplyBody :=
  let fs := (s.fragments op p n).take Config.fragmentLimit
  let k := coveredBy fs
  .resolved s.epoch fs k (if k < n then some (p + k) else none)

/-- RESOLVE (R24 to R43): answered at once, with no change of any other state. -/
def resolveOwner (tag : Byte) (pl : List Byte) (s : State) : State :=
  match parseResolve pl with
  | none => s.replyTo .resolve .drive tag (.epoch .badValue s.epoch)
  | some (op, p, n) =>
    if s.geometry.isNone then s.replyTo .resolve .drive tag (.epoch .state s.epoch)
    else s.replyTo .resolve .drive tag (s.resolution op p n)

def execResolve (p : Port) (tag : Byte) (pl : List Byte) (s : State) :
    Host.Outcome State Fault Refusal :=
  .next (takeRequest .resolve p tag pl (resolveOwner tag pl) s)

end Sys2Proof.Machine
end

