-- ==== Sys2Proof/Machine/Ranges.lean ====
section
/-!
DEFINITION. The Range Table's requests (chapter 1) and REKEY (section 3.2): GEOMETRY, PRESENT,
SET_RANGE, DROP_RANGE, GRANT, REVOKE, REKEY, with what each does when its commits complete.  A completed
Range record brings the fields its request changed into the live entry (log entry 28).
-/

namespace Sys2Proof.Machine

open Sys2Proof

/-! ## Live entries -/

/-- A range entry with its stored fields changed. -/
def RangeEntry.edit (e : RangeEntry) (f : RangeRec → RangeRec) : RangeEntry :=
  { e with stored := e.stored.map f }

/-- The stored fields of one range's live entry changed. -/
def State.editRange (s : State) (r : RangeId) (f : RangeRec → RangeRec) : State :=
  s.setRange r ((s.range r).edit f)

/-- The state of a present range. -/
def State.rangeState (s : State) (r : RangeId) : Option RangeState :=
  (s.range r).stored.map RangeRec.state

/-- The Range record of a range as the store has it. -/
def State.storedRange (s : State) (r : RangeId) : Option RangeRec := s.store.ranges[r.val]

/-- The key slot of a range without wrapped key and check code (R47). -/
def State.eraseSlot (s : State) (r : RangeId) : State := s.setKey r s.keys[r.val].erased

/-! ## GEOMETRY (R8) -/

def geometryOwner (tag : Byte) (pl : List Byte) (s : State) : State :=
  if s.custody.state ≠ .opened ∨ s.geometry.isSome then s.replyTo .geometry .drive tag (.code .state)
  else
    match parseGeometry pl with
    | none => s.replyTo .geometry .drive tag (.code .badValue)
    | some g =>
      s.beginCommit .geometry .drive tag
        [identityEntry ⟨some g, s.rootKey⟩ [.geometryStored, .answer .drive .epoch]]

/-- The Identity record commit of GEOMETRY completes (R8). -/
def State.geometryStored (s : State) : State :=
  { s with geometry := s.store.identity.geometry }.raiseEpoch

def execGeometry (p : Port) (tag : Byte) (pl : List Byte) (s : State) :
    Host.Outcome State Fault Refusal :=
  .next (takeRequest .geometry p tag pl (geometryOwner tag pl) s)

/-! ## PRESENT (R19) -/

def presentOwner (tag : Byte) (s : State) : State :=
  match s.mode with
  | .overlay =>
    let s1 := { s with mode := .normal }.raiseEpoch
    s1.replyTo .present .drive tag (.epoch .ok s1.epoch)
  | .normal => s.replyTo .present .drive tag (.epoch .ok s.epoch)
  | .blank => s.replyTo .present .drive tag (.epoch .state s.epoch)

def execPresent (p : Port) (tag : Byte) (pl : List Byte) (s : State) :
    Host.Outcome State Fault Refusal :=
  .next (takeRequest .present p tag pl (presentOwner tag) s)

/-! ## SET_RANGE (R11 to R13) -/

def setRangeOwner (tag : Byte) (pl : List Byte) (s : State) : State :=
  s.beginAdmin .setRange tag pl (parseSetRange pl) s.geometry.isSome
    fun x => .setRange x.1 x.2.1 x.2.2.1 x.2.2.2.1 x.2.2.2.2

/-- A new extent overlaps another present explicit range (R11 step 7). -/
def State.overlaps (s : State) (r : RangeId) (start length : Nat) : Bool :=
  explicitRanges.any fun q =>
    q != r && ((s.range q).stored.map fun c =>
      decide (start < c.start + c.length ∧ c.start < start + length)).getD false

/-- A present range may not change its extent now (R11 step 8). -/
def State.reshapeRefused (s : State) (r : RangeId) (c : RangeRec) (start length : Nat) : Bool :=
  (c.start != start || c.length != length) &&
    match c.state with
    | .active => (s.range r).hasRight
    | .blank => false
    | .void => true

/-- SET_RANGE for an absent range: the key record, then the Range record (R12). -/
def State.defineRange (s : State) (r : RangeId) (c : RangeRec) : State :=
  match s.refusesWrites [.single (.key r), .single (.range r)] with
  | some x => s.answer .drive (.code x)
  | none =>
    let d := s.drawKey r
    d.2.commitRequest
      [keyEntry r d.1 [], rangeEntry r (some c) [.rangeDefined r, .answer .drive .epoch]]

/-- SET_RANGE at the instant its refund completes (R11 steps 5 to 8). -/
def State.goSetRange (s : State) (r : RangeId) (start length : Nat) (v : Visibility)
    (p : SleepPolicy) : State :=
  if !s.custody.state.inUse then s.answer .drive (.code .state)
  else if r.val ≠ 0 ∧ (length = 0 ∨ s.userSectors / Config.granule < start + length) then
    s.answer .drive (.code .badValue)
  else if r.val ≠ 0 && s.overlaps r start length then s.answer .drive (.code .overlap)
  else
    match (s.range r).stored with
    | none => s.defineRange r ⟨start, length, v, .active, adminOnly, p⟩
    | some c =>
      if s.reshapeRefused r c start length then s.answer .drive (.code .state)
      else
        s.commitRequest
          [rangeEntry r (some { c with start, length, visibility := v, sleep := p })
            [.rangeEdited r, .answer .drive .epoch]]

/-- The Range record commit of a definition completes (R12, R46). -/
def State.rangeDefined (s : State) (r : RangeId) : State :=
  ((s.setRange r ⟨s.storedRange r, false, false, none, none⟩).setKey r s.store.keys[r.val]).raiseEpoch

/-- The Range record commit of an edit completes (R13). -/
def State.rangeEdited (s : State) (r : RangeId) : State :=
  match (s.range r).stored, s.storedRange r with
  | some old, some c =>
    let s1 := s.editRange r fun x =>
      { x with start := c.start, length := c.length, visibility := c.visibility, sleep := c.sleep }
    State.raiseIf (decide (old.start ≠ c.start ∨ old.length ≠ c.length) || State.moved s s1) s1
  | _, _ => s

def execSetRange (p : Port) (tag : Byte) (pl : List Byte) (s : State) :
    Host.Outcome State Fault Refusal :=
  .next (takeRequest .setRange p tag pl (setRangeOwner tag pl) s)

/-! ## DROP_RANGE (R15) -/

def dropRangeOwner (tag : Byte) (pl : List Byte) (s : State) : State :=
  s.beginAdmin .dropRange tag pl (parseExplicit pl) s.geometry.isSome .dropRange

/-- DROP_RANGE at the instant its refund completes. -/
def State.goDropRange (s : State) (r : RangeId) : State :=
  if !s.custody.state.inUse then s.answer .drive (.code .state)
  else
    match s.rangeState r with
    | some .blank =>
      s.commitRequest [rangeEntry r none [.rangeDropped r, .answer .drive .epoch]]
    | some .active =>
      if (s.range r).hasRight || (s.range r).lane.isSome then s.answer .drive (.code .state)
      else
        s.commitRequest
          [rangeEntry r none [.rangeDropped r], keyEraseEntry r [.answer .drive .epoch]]
    | _ => s.answer .drive (.code .state)

/-- The Range record commit of a drop completes. -/
def State.rangeDropped (s : State) (r : RangeId) : State :=
  ((s.setRange r .absent).eraseSlot r).raiseEpoch

def execDropRange (p : Port) (tag : Byte) (pl : List Byte) (s : State) :
    Host.Outcome State Fault Refusal :=
  .next (takeRequest .dropRange p tag pl (dropRangeOwner tag pl) s)

/-! ## GRANT and REVOKE (R16, R17) -/

def grantOwner (tag : Byte) (pl : List Byte) (s : State) : State :=
  s.beginAdmin .grant tag pl (parseGrant pl) s.geometry.isSome fun x => .grant x.1 x.2

def revokeOwner (tag : Byte) (pl : List Byte) (s : State) : State :=
  s.beginAdmin .revoke tag pl (parseRevoke pl) s.geometry.isSome fun x => .revoke x.1 x.2

/-- A Range record with one member of its access list set or removed. -/
def RangeRec.withAccess (c : RangeRec) (a : AuthId) (b : Bool) : RangeRec :=
  { c with access := c.access.set a.val b a.isLt }

/-- GRANT at the instant its refund completes. -/
def State.goGrant (s : State) (r : RangeId) (t : AuthId) : State :=
  if !s.custody.state.inUse then s.answer .drive (.code .state)
  else
    match (s.range r).stored with
    | none => s.answer .drive (.code .state)
    | some c =>
      if c.access[t.val] then s.answer .drive (.code .ok)
      else
        s.commitRequest
          [rangeEntry r (some (c.withAccess t true)) [.accessStored r, .answer .drive .ok]]

/-- What a REVOKE does at the instant its commit is entered: the holder's range is locked. -/
def State.revokeRights (s : State) (r : RangeId) (t : AuthId) : State :=
  if (s.range r).holder = some t then State.raiseIfMoved s (s.lockRange .both r) else s

/-- REVOKE at the instant its refund completes (the clear-pending mark: log entry 23). -/
def State.goRevoke (s : State) (r : RangeId) (t : AuthId) : State :=
  if !s.custody.state.inUse then s.answer .drive (.code .state)
  else
    match (s.range r).stored with
    | none => s.answer .drive (.code .state)
    | some c =>
      if !c.access[t.val] then s.answer .drive (.revoked s.epoch (s.clearPending r))
      else
        match s.refusesWrites [.single (.range r)] with
        | some x => s.answer .drive (.code x)
        | none =>
          let s1 := s.revokeRights r t
          s1.commitRequest
            [rangeEntry r (some (c.withAccess t false))
              [.accessStored r, .answer .drive (.revoked (s1.clearPending r))]]

/-- The Range record commit of a GRANT or a REVOKE completes. -/
def State.accessStored (s : State) (r : RangeId) : State :=
  match s.storedRange r with
  | some c => s.editRange r fun x => { x with access := c.access }
  | none => s

def execGrant (p : Port) (tag : Byte) (pl : List Byte) (s : State) :
    Host.Outcome State Fault Refusal :=
  .next (takeRequest .grant p tag pl (grantOwner tag pl) s)

def execRevoke (p : Port) (tag : Byte) (pl : List Byte) (s : State) :
    Host.Outcome State Fault Refusal :=
  .next (takeRequest .revoke p tag pl (revokeOwner tag pl) s)

/-! ## REKEY (R49, R50) -/

def rekeyOwner (tag : Byte) (pl : List Byte) (s : State) : State :=
  s.beginAdmin .rekey tag pl (parseRange pl) s.geometry.isSome .rekey

/-- REKEY at the instant its refund completes. -/
def State.goRekey (s : State) (r : RangeId) : State :=
  if !s.custody.state.inUse then s.answer .drive (.code .state)
  else
    match (s.range r).stored with
    | none => s.answer .drive (.code .state)
    | some c =>
      if c.state ≠ .blank then s.answer .drive (.code .state)
      else
        match s.refusesWrites [.single (.key r), .single (.range r)] with
        | some x => s.answer .drive (.code x)
        | none =>
          let d := s.drawKey r
          d.2.commitRequest
            [keyEntry r d.1 [],
             rangeEntry r (some { c with state := .active })
               [.rangeRekeyed r, .answer .drive (.rekeyed r)]]

/-- The Range record commit of a REKEY completes (R46, R50). -/
def State.rangeRekeyed (s : State) (r : RangeId) : State :=
  (s.setRange r ⟨(s.range r).stored.map fun x => { x with state := .active }, false, false, none, none⟩).setKey
    r s.store.keys[r.val]

/-- The OK reply of REKEY: the new generation and check code. -/
def State.rekeyReply (s : State) (r : RangeId) : ReplyBody :=
  .rekeyed s.keys[r.val].generation ((s.checkCode r).getD 0)

def execRekey (p : Port) (tag : Byte) (pl : List Byte) (s : State) :
    Host.Outcome State Fault Refusal :=
  .next (takeRequest .rekey p tag pl (rekeyOwner tag pl) s)

end Sys2Proof.Machine
end

