-- ==== Sys2Proof/Machine/Custody.lean ====
section
/-!
DEFINITION. The Custody Controller's commands (chapter 6): SET_POLICY, FREEZE_POLICY, WIPE, PAIR,
CHALLENGE, CHECK_IN, WIPE_ORDER, REVERT, the pairing window and the two custody clocks.
-/

namespace Sys2Proof.Machine

open Sys2Proof

/-! ## SET_POLICY and FREEZE_POLICY -/

def setPolicyOwner (tag : Byte) (pl : List Byte) (s : State) : State :=
  s.beginAdmin .setPolicy tag pl (parsePolicy pl) true .setPolicy

def freezePolicyOwner (tag : Byte) (pl : List Byte) (s : State) : State :=
  s.beginAdmin .freezePolicy tag pl (some ()) true fun _ => .freezePolicy

/-- A period or hold is at least as strict as the stored one (R112). -/
def tighterHours (stored new : Nat) : Bool := stored = 0 || (1 ≤ new && new ≤ stored)

/-- The wipe secret action is one a frozen policy takes (R112). -/
def SecretAction.tightens (a : SecretAction) (stored : Option Secret) : Bool :=
  a = .keep || stored.isNone

/-- The tightening test (R112). -/
def PolicyRec.tightens (p : PolicyRec) (v : PolicyValues) : Bool :=
  p.tryExhaustion.rank ≤ v.tryExhaustion.rank && p.checkinExpired.rank ≤ v.checkinExpired.rank &&
    p.foreignStart.rank ≤ v.foreignStart.rank && p.remoteOrder.rank ≤ v.remoteOrder.rank &&
    p.adminOrder.rank ≤ v.adminOrder.rank && tighterHours p.checkinPeriod v.checkinPeriod &&
    p.warningMargin ≤ v.warningMargin && tighterHours p.concealHold v.concealHold &&
    v.deviceTryLimit ≤ p.deviceTryLimit && v.foreignLimit ≤ p.foreignLimit &&
    v.action.tightens p.wipeDigest

/-- The Policy record a SET_POLICY writes (R110 step 6). -/
def PolicyRec.with (p : PolicyRec) (v : PolicyValues) : PolicyRec where
  tryExhaustion := v.tryExhaustion
  checkinExpired := v.checkinExpired
  foreignStart := v.foreignStart
  remoteOrder := v.remoteOrder
  adminOrder := v.adminOrder
  checkinPeriod := v.checkinPeriod
  warningMargin := v.warningMargin
  concealHold := v.concealHold
  deviceTryLimit := v.deviceTryLimit
  foreignLimit := v.foreignLimit
  wipeDigest :=
    match v.action with
    | .keep => p.wipeDigest
    | .set => some (Config.digest (secretBytes v.secret))
    | .remove => none
  frozen := p.frozen

/-- SET_POLICY at the instant its refund completes (R110 steps 4 to 6). -/
def State.goSetPolicy (s : State) (v : PolicyValues) : State :=
  if !s.custody.state.inUse then s.answer .drive (.code .state)
  else if s.policy.frozen && !s.policy.tightens v then s.answer .drive (.code .frozen)
  else s.commitRequest [policyEntry (s.policy.with v) [.policyStored, .answer .drive .ok]]

/-- FREEZE_POLICY at the instant its refund completes (R113). -/
def State.goFreezePolicy (s : State) : State :=
  if !s.custody.state.inUse then s.answer .drive (.code .state)
  else if s.policy.frozen then s.answer .drive (.code .ok)
  else s.commitRequest [policyEntry { s.policy with frozen := true } [.policyStored, .answer .drive .ok]]

/-- The device try limit of the Policy record just stored is at or below the device failure count. -/
def State.reachesLimit (s : State) : Bool := s.store.policy.deviceTryLimit ≤ s.tries.device

/-- At the completion of a Policy commit whose limit is at or below the device failure count, the count is
set to that limit, with its internal Tries commit (R72). -/
def State.limitDeviceCount (s : State) : State :=
  if s.reachesLimit then
    let t := { s.tries with device := s.store.policy.deviceTryLimit }
    { s with tries := t }.enter [] (triesEntry t [])
  else s

/-- The check-in clock lowered to the expiry point of a new policy (R111). -/
def State.lowerCheckin (s : State) : State :=
  if s.checkinCounting && s.policy.expiryPoint < s.custody.checkin then
    { s with custody := { s.custody with checkin := s.policy.expiryPoint } }.updateFinalClocks
  else s

/-- A Policy record commit completes: the new values are in force, with their consequences (R111, R72;
log entry 25). -/
def State.policyStored (s : State) : State :=
  let s1 := { s with policy := s.store.policy }.lowerCheckin
  let inUse := s1.custody.state.inUse
  let foreign := inUse && s1.policy.foreignLimit ≤ s1.custody.foreignCount
  let counting := s1.checkinCounting
  let tries := s1.reachesLimit
  let s2 := s1.limitDeviceCount
  let s3 := if foreign then s2.take .foreignStart else s2
  let s4 :=
    if counting && s3.policy.expiryPoint ≤ s3.custody.checkin then s3.take .checkinExpired
    else if counting && s3.custody.state = .guarded && s3.policy.warningPoint ≤ s3.custody.checkin then
      s3.warn
    else s3
  if tries && inUse then s4.take .tryExhaustion else s4

def execSetPolicy (p : Port) (tag : Byte) (pl : List Byte) (s : State) :
    Host.Outcome State Fault Refusal :=
  .next (takeRequest .setPolicy p tag pl (setPolicyOwner tag pl) s)

def execFreezePolicy (p : Port) (tag : Byte) (pl : List Byte) (s : State) :
    Host.Outcome State Fault Refusal :=
  .next (takeRequest .freezePolicy p tag pl (freezePolicyOwner tag pl) s)

/-! ## WIPE (R124) -/

def wipeOwner (tag : Byte) (pl : List Byte) (s : State) : State :=
  match authIdOf (authAt pl).1 with
  | none => s.replyTo .wipe .drive tag (.code .denied)
  | some a =>
    if a.val ≠ 0 ∧ a.val ≠ 7 then s.replyTo .wipe .drive tag (.code .denied)
    else
      match parseWipe pl with
      | none => s.replyTo .wipe .drive tag (.code .badValue)
      | some l =>
        s.beginCheck .wipe tag a (authAt pl).2 (.wipe l (s.custody.state = .concealed))

/-- WIPE at the instant its refund completes (R124 step 4).  A check that did not begin in CONCEALED
(`hidden` false) and ends there met a response on its way, and gets STATE (R80, R126; log entry 44). -/
def State.goWipe (s : State) (l : Level) (hidden : Bool) : State :=
  if !(s.custody.state.inUse || (hidden && s.custody.state = .concealed)) then
    s.answer .drive (.code .state)
  else
    let level := l.higher s.policy.adminOrder
    if s.responds level then
      (s.setWork .drive .committing).respond level [.answer .drive .custody]
    else s.answer .drive (.custody s.custody.state)

def execWipe (p : Port) (tag : Byte) (pl : List Byte) (s : State) :
    Host.Outcome State Fault Refusal :=
  .next (takeRequest .wipe p tag pl (wipeOwner tag pl) s)

/-! ## PAIR and CHALLENGE -/

/-- The effects of a PAIR whose commits are entered (R114). -/
def State.paired (s : State) (k : Secret) : State :=
  let c := { s.custody with verdict := .paired }
  { s with
    pairing := some k
    custody :=
      if s.custody.state = .guarded then { c with checkin := 0, checkinSecs := 0, foreignCount := 0 }
      else c }

def pairOwner (tag : Byte) (pl : List Byte) (s : State) : State :=
  let k := Config.digest (secretBytes (secretAt pl 0))
  let s1 := s.paired k
  let refuse (r : Result) : State := s.replyTo .pair .platform tag (.code r)
  if !(s.custody.state = .opened || s.custody.state = .guarded) then refuse .state
  else if s.policy.frozen then refuse .frozen
  else
    let ws :=
      if s.custody.state = .opened then [pairingEntry (some k) [.answer .platform .ok]]
      else
        [pairingEntry (some k) [], custodyEntry (s1.custodyRec true false) [.answer .platform .ok]]
    match s.refusesWrites (ws.map (·.key)) with
    | some r => refuse r
    | none => (s1.enterAll ws).startWork .pair .platform tag .committing

def execPair (p : Port) (tag : Byte) (pl : List Byte) (s : State) :
    Host.Outcome State Fault Refusal :=
  .next (takeRequest .pair p tag pl (pairOwner tag pl) s)

/-- CHALLENGE (R115). -/
def challengeOwner (tag : Byte) (s : State) : State :=
  let d := s.drawNonce
  { d.2 with challenge := some d.1 }.replyTo .challenge .platform tag (.nonce d.1)

def execChallenge (p : Port) (tag : Byte) (pl : List Byte) (s : State) :
    Host.Outcome State Fault Refusal :=
  .next (takeRequest .challenge p tag pl (challengeOwner tag) s)

/-! ## CHECK_IN (R116) -/

/-- The outstanding challenge is consumed. -/
def State.consume (s : State) : State := { s with challenge := none }

/-- The answer to a challenge that a key proves (R116, R125). -/
def answerFor (k : Secret) (n : Nonce) : Secret := Config.digest (secretBytes k ++ nonceBytes n)

/-- A match in GUARDED or WARNED, its write admitted. -/
def State.checkedIn (s : State) : State :=
  let s1 :=
    { s with
      challenge := none
      custody :=
        { s.custody with
          state := .guarded, checkin := 0, checkinSecs := 0, foreignCount := 0
          verdict := if s.custody.verdict = .pending then .paired else s.custody.verdict } }
  if s.custody.state = .warned then s1.notifyBoth .custodyChanged else s1

def checkInOwner (tag : Byte) (pl : List Byte) (s : State) : State :=
  let reply (x : State) (b : ReplyBody) : State := x.replyTo .checkIn .platform tag b
  match s.pairing with
  | none => reply s (.code .state)
  | some k =>
    if !(s.custody.state = .opened || s.custody.state.inUse) then reply s (.code .state)
    else
      match s.challenge with
      | none => reply s (.code .denied)
      | some n =>
        if secretAt pl 0 ≠ answerFor k n then
          let s1 := reply s.consume (.code .denied)
          if s.custody.verdict = .pending then s1.becomeForeign else s1
        else if s.custody.state = .opened then
          let v := if s.custody.verdict = .pending then Verdict.paired else s.custody.verdict
          reply { s.consume with custody := { s.custody with verdict := v } } (.custody .opened)
        else
          match s.refusesWrites [.single .custody] with
          | some r => reply s (.code r)
          | none =>
            let s1 := s.checkedIn
            (s1.enterAll
              [custodyEntry (s1.custodyRec true false) [.answer .platform .custody]]).startWork
                .checkIn .platform tag .committing

def execCheckIn (p : Port) (tag : Byte) (pl : List Byte) (s : State) :
    Host.Outcome State Fault Refusal :=
  .next (takeRequest .checkIn p tag pl (checkInOwner tag pl) s)

/-! ## WIPE_ORDER (R125) -/

def wipeOrderOwner (tag : Byte) (pl : List Byte) (s : State) : State :=
  let reply (x : State) (b : ReplyBody) : State := x.replyTo .wipeOrder .platform tag b
  match parseWipeOrder pl with
  | none => reply s (.code .badValue)
  | some (l, answer) =>
    match s.policy.wipeDigest with
    | none => reply s (.code .state)
    | some d =>
      match s.challenge with
      | none => reply s (.code .denied)
      | some n =>
        if s.supplyWarning then reply s (.code .deferred)
        else if answer ≠ answerFor d n then reply s.consume (.code .denied)
        else
          let level := l.higher s.policy.remoteOrder
          if s.responds level then
            (s.consume.startWork .wipeOrder .platform tag .committing).respond level
              [.answer .platform .custody]
          else reply s.consume (.custody s.custody.state)

def execWipeOrder (p : Port) (tag : Byte) (pl : List Byte) (s : State) :
    Host.Outcome State Fault Refusal :=
  .next (takeRequest .wipeOrder p tag pl (wipeOrderOwner tag pl) s)

/-! ## REVERT (R128) -/

/-- ERASED or SPENT, where REVERT is accepted. -/
def Custody.reverts (c : Custody) : Bool := c = .erased || c = .spent

def revertOwner (tag : Byte) (s : State) : State :=
  let refuse (r : Result) : State := s.replyTo .revert .drive tag (.code r)
  if !s.custody.state.reverts then refuse .state
  else if s.supplyWarning then refuse .deferred
  else if s.freeEntries = 0 then refuse .busy
  else
    (s.enter [] (policyEntry .default [.reverted .policy])).startWork .revert .drive tag .committing

/-- The first present explicit range of a list, as a step of REVERT, else its step 4. -/
def State.absentStep (s : State) (l : List RangeId) : RevertStep :=
  match l.find? fun r => (s.range r).stored.isSome with
  | some r => .absent r
  | none => .key

/-- The step of REVERT after one. -/
def State.revertNext (s : State) : RevertStep → Option RevertStep
  | .policy => some .pairing
  | .pairing => some (s.absentStep explicitRanges)
  | .absent r => some (s.absentStep (explicitRanges.filter fun q => decide (r < q)))
  | .key => some .range
  | .range => some .custody
  | .custody => none

/-- A step of REVERT enters its commit, waiting for a free entry where there is none. -/
def State.revertEnter (s : State) (step : RevertStep) : State :=
  let acts : List Act := [.reverted step]
  match step with
  | .policy => s.enter [] (policyEntry .default acts)
  | .pairing => s.enter [] (pairingEntry none acts)
  | .absent r => s.enter [] (rangeEntry r none acts)
  | .key =>
    let d := s.drawKey 0
    d.2.enter [] (keyEntry 0 d.1 acts)
  | .range => s.enter [] (rangeEntry 0 (some .global) acts)
  | .custody => s.enter [] (custodyEntry .delivered acts)

/-- A range entry becomes absent, a lane still bound to it unbound in both records. -/
def State.makeAbsent (s : State) (r : RangeId) : State := (s.unbindRange r).setRange r .absent

/-- The live state without the pairing record (R128). -/
def State.unpaired (s : State) : State :=
  { s with
    pairing := none
    challenge := none
    custody := { s.custody with verdict := .absent } }

/-- The explicit ranges still present whose absent record is stored. -/
def State.committedAbsent (s : State) : List RangeId :=
  explicitRanges.filter fun r => (s.range r).stored.isSome && (s.storedRange r).isNone

/-- Range 0's live entry takes what REVERT stored of it, and keeps its state, VOID or BLANK (R128). -/
def State.takeGlobal (s : State) : State :=
  match s.storedRange 0, s.rangeState 0 with
  | some c, some st => s.editRange 0 fun _ => { c with state := st }
  | _, _ => s

/-- A REVERT that stops after a step: what its completed commits wrote comes into the live state, and
range 0's drawn key is written away again, then its Range record with the state it keeps (R128). -/
def State.revertStop (s : State) (last : RevertStep) (r : Result) : State :=
  let s1 := { s with policy := s.store.policy }
  let s2 := if last = .policy then s1 else s1.unpaired
  let gone := s2.committedAbsent
  let s3 := gone.foldl State.makeAbsent s2
  let s4 := State.raiseIf (!gone.isEmpty) s3
  let s5 := s4.setKey 0 s.store.keys[0].erased
  let s6 := s5.takeGlobal
  let s7 :=
    match last with
    | .key => s5.enterAll [keyEraseEntry 0 []]
    | .range => s6.enterAll [keyEraseEntry 0 [], rangeEntry 0 (s6.range 0).stored []]
    | .custody => s6.enterAll [keyEraseEntry 0 [], rangeEntry 0 (s6.range 0).stored []]
    | _ => s4
  s7.answer .drive (.code r)

/-- The last commit of REVERT completes (R128).  That the seconds counted towards a clock's next minute are 0 with
the clock is the model's choice, log entry 57. -/
def State.revertFinish (s : State) : State :=
  let s1 := { s with policy := s.store.policy }.unpaired
  let s2 := explicitRanges.foldl State.makeAbsent s1
  let s3 :=
    (s2.setRange 0 ⟨some .global, false, false, none, (s2.range 0).lane⟩).setKey 0 s.store.keys[0]
  let s4 :=
    { s3 with
      mode := .normal
      custody :=
        { s3.custody with
          state := .opened, foreignCount := 0, checkin := 0, checkinSecs := 0, escalation := 0
          escalationSecs := 0, target := .erase } }
  let s5 := (s4.notifyBoth .custodyChanged).raiseEpoch.restoreGlobal
  s5.answer .drive (.epoch .ok s5.epoch)

/-- A commit of REVERT completes: the next one is entered, or the request ends.  At its Policy commit the device
failure count first meets the limit stored, as after any Policy commit (R72; log entry 18). -/
def State.reverted (s : State) (step : RevertStep) : State :=
  let s1 := if step = .policy then s.limitDeviceCount else s
  if !s1.custody.state.reverts then s1.revertStop step .state
  else
    match s1.revertNext step with
    | none => s1.revertFinish
    | some next =>
      if s1.supplyWarning then s1.revertStop step .deferred else s1.revertEnter next

def execRevert (p : Port) (tag : Byte) (pl : List Byte) (s : State) :
    Host.Outcome State Fault Refusal :=
  .next (takeRequest .revert p tag pl (revertOwner tag) s)

/-! ## Timers -/

/-- The pairing window expires, once in a power span (R117). -/
def execPairingWindowExpiry (s : State) : Host.Outcome State Fault Refusal :=
  .next (deviceEvent
    (fun s => if s.custody.window < Config.pairingWindow then s.expireWindow else s) s)

/-- The check-in clock's value after its next advance (R118). -/
def State.nextCheckin (s : State) : Nat := min (s.custody.checkin + 1) s.policy.expiryPoint

/-- The next advance of the check-in clock reaches its expiry point. -/
def State.expiresNext (s : State) : Bool :=
  s.checkinCounting && s.policy.expiryPoint ≤ s.nextCheckin

/-- The next advance of the check-in clock makes custody WARNED. -/
def State.warnsNext (s : State) : Bool :=
  s.checkinCounting && !s.expiresNext && s.custody.state = .guarded &&
    s.policy.warningPoint ≤ s.nextCheckin

/-- The escalation clock's next advance brings it to its limit (R120). -/
def State.escalatesNext (s : State) : Bool :=
  s.escalationCounting && s.policy.escalationLimit ≤ s.custody.escalation + 1

/-- The check-in clock advances by one minute, if it counts (R118). -/
def execCheckinClockAdvance (s : State) : Host.Outcome State Fault Refusal :=
  .next (deviceEvent (fun s => if s.checkinCounting then s.advanceCheckin else s) s)

/-- The advance of the check-in clock that reaches the warning point in GUARDED (R118; log entry 7). -/
def execCheckinWarning (s : State) : Host.Outcome State Fault Refusal :=
  .next (deviceEvent (fun s => if s.warnsNext then s.advanceCheckin else s) s)

/-- The advance of the check-in clock that reaches the expiry point (R118; log entry 7). -/
def execCheckinExpired (s : State) : Host.Outcome State Fault Refusal :=
  .next (deviceEvent (fun s => if s.expiresNext then s.advanceCheckin else s) s)

/-- The escalation clock advances by one minute, if it counts (R120). -/
def execEscalationClockAdvance (s : State) : Host.Outcome State Fault Refusal :=
  .next (deviceEvent (fun s => if s.escalationCounting then s.advanceEscalation else s) s)

/-- The advance of the escalation clock that reaches its limit (R120; log entry 7). -/
def execEscalation (s : State) : Host.Outcome State Fault Refusal :=
  .next (deviceEvent (fun s => if s.escalatesNext then s.advanceEscalation else s) s)

end Sys2Proof.Machine
end

