-- ==== Sys2Proof/Machine/Locking.lean ====
section
/-!
DEFINITION. Unlocking and locking (chapter 5): UNLOCK with its grant and the recovery of R127, LOCK and
STANDBY.
-/

namespace Sys2Proof.Machine

open Sys2Proof

/-! ## UNLOCK -/

/-- UNLOCK when it is taken (R89, R90): the values, then the credential check. -/
def unlockOwner (tag : Byte) (pl : List Byte) (s : State) : State :=
  match parseUnlock pl with
  | none => s.replyTo .unlock .drive tag (.code .badValue)
  | some (a, credential, rights, list) => s.beginCheck .unlock tag a credential (.unlock list rights)

/-- A range's lane is LOADED (R94). -/
def State.isLoaded (s : State) (r : RangeId) : Bool :=
  ((s.range r).lane.bind s.laneAt).map LaneRec.state = some .loaded

/-- The entry of a range that is not unlocked (R94). -/
def refusedEntry (r : RangeId) (o : UnlockOutcome) : UnlockEntry := ⟨r, o, false, false, none, false⟩

/-- The rights of an UNLOCK turned on for an authority (R92). -/
def RangeEntry.grantTo (e : RangeEntry) (a : AuthId) (w : Rights) : RangeEntry :=
  { e with read := e.read || w.hasRead, write := e.write || w.hasWrite, holder := some a }

/-- One range of the working list takes its outcome (R91, R92, R94). -/
def State.grantOne (s : State) (a : AuthId) (w : Rights) (r : RangeId) : State × UnlockEntry :=
  match (s.range r).stored with
  | none => (s, refusedEntry r .notDefined)
  | some c =>
    if !c.access[a.val] then (s, refusedEntry r .notGranted)
    else if c.state ≠ .active then (s, refusedEntry r .erased)
    else
      let b := s.bind r
      if !b.2 then (s, refusedEntry r .noLane)
      else
        let e := (b.1.range r).grantTo a w
        (b.1.setRange r e, ⟨r, .unlocked, e.read, e.write, e.lane, b.1.isLoaded r⟩)

/-- The working list is granted in its order (R91). -/
def State.grantAll (s : State) (a : AuthId) (w : Rights) : List RangeId → State × List UnlockEntry
  | [] => (s, [])
  | r :: rs =>
    let g := s.grantOne a w r
    let t := g.1.grantAll a w rs
    (t.1, g.2 :: t.2)

/-- The recovery of a Recovery UNLOCK in CONCEALED, with the epoch increment of R95 (R127), its PRESENTATION_CHANGED
behind CUSTODY_CHANGED (log entry 21). -/
def State.recover (s : State) : State :=
  let s1 :=
    { s with
      mode := .overlay
      custody :=
        { s.custody with
          state := .guarded, foreignCount := 0, checkin := 0, checkinSecs := 0, escalation := 0
          escalationSecs := 0 } }
  ((s1.storeCustody true true []).notifyBoth .custodyChanged).raiseEpoch

/-- UNLOCK at the instant its refund completes (R90 to R95). -/
def State.goUnlock (s : State) (a : AuthId) (list : List RangeId) (w : Rights) : State :=
  if s.custody.state.inUse then
    let g := s.grantAll a w list
    let s1 := State.raiseIfMoved s g.1
    s1.answer .drive (.unlocked s1.epoch g.2)
  else if s.custody.state = .concealed && a.val = 7 then
    let g := s.recover.grantAll a w list
    g.1.answer .drive (.unlocked g.1.epoch g.2)
  else s.answer .drive (.code .state)

def execUnlock (p : Port) (tag : Byte) (pl : List Byte) (s : State) :
    Host.Outcome State Fault Refusal :=
  .next (takeRequest .unlock p tag pl (unlockOwner tag pl) s)

/-! ## LOCK (R98, R99) -/

/-- One range of a LOCK: absent, it is left as it is. -/
def State.lockOne (w : Rights) (s : State) (r : RangeId) : State :=
  if (s.range r).stored.isSome then s.lockRange w r else s

/-- A range's entry of the LOCK reply, read after the LOCK; rights and clear pending are 0 for a range that
is NOT_DEFINED (log entry 46). -/
def State.lockEntry (s : State) (r : RangeId) : LockEntry :=
  if (s.range r).stored.isSome then
    ⟨r, true, (s.range r).read, (s.range r).write, s.clearPending r⟩
  else ⟨r, false, false, false, false⟩

def lockOwner (tag : Byte) (pl : List Byte) (s : State) : State :=
  match parseLock pl with
  | none => s.replyTo .lock .drive tag (.code .badValue)
  | some (w, list) =>
    let s1 := State.raiseIfMoved s (list.foldl (State.lockOne w) s)
    s1.replyTo .lock .drive tag (.locked s1.epoch (list.map s1.lockEntry))

def execLock (p : Port) (tag : Byte) (pl : List Byte) (s : State) :
    Host.Outcome State Fault Refusal :=
  .next (takeRequest .lock p tag pl (lockOwner tag pl) s)

/-! ## STANDBY (R101) -/

/-- STANDBY locks the range: present, LOCK_ON_STANDBY, a right on. -/
def State.sleeps (s : State) (r : RangeId) : Bool :=
  (s.range r).stored.map RangeRec.sleep = some .lockOnStandby && (s.range r).hasRight

def standbyOwner (tag : Byte) (s : State) : State :=
  let list := allRanges.filter s.sleeps
  let s1 := State.raiseIfMoved s (list.foldl (fun x r => x.lockRange .both r) s)
  s1.replyTo .standby .drive tag (.standby s1.epoch (list.map fun r => (r, s1.clearPending r)))

def execStandby (p : Port) (tag : Byte) (pl : List Byte) (s : State) :
    Host.Outcome State Fault Refusal :=
  .next (takeRequest .standby p tag pl (standbyOwner tag) s)

end Sys2Proof.Machine
end

