-- ==== Sys2Proof/Machine/Scrub.lean ====
section
/-!
DEFINITION. Key erasure's completion (R132), RETIRE (R134 to R136) and the Scrub Controller (R138 to
R146): orders, the cursor with its checkpoints, completion of jobs, pause and resume.
-/

namespace Sys2Proof.Machine

open Sys2Proof

/-! ## Jobs -/

/-- The live job a journal's job starts or resumes as (R138). -/
def Job.ofJournal (j : JournalJob) : Job := ⟨j, j.cursor, [], 0⟩

/-- The RETIRE job of a range: its extent, nothing scrubbed (R138). -/
def State.retireJob (s : State) (r : RangeId) : JournalJob :=
  let first := ((s.range r).stored.map RangeRec.first).getD 0
  let stop := ((s.range r).stored.map RangeRec.stop).getD 0
  ⟨.retire, some r, first, stop, first, false⟩

/-- The Scrub Controller with another job. -/
def State.setJob (s : State) (j : Option Job) : State := { s with scrub := { s.scrub with job := j } }

/-- With no current job, the head of the waiting list is removed and becomes it (R135, R142). -/
def State.nextJob (s : State) : State :=
  match s.scrub.job, s.scrub.waiting with
  | none, r :: rest =>
    { s with scrub := { s.scrub with job := some (.ofJournal (s.retireJob r)), waiting := rest } }
  | _, _ => s

/-- A range becomes BLANK, or takes another state, its other fields kept. -/
def State.setRangeState (s : State) (r : RangeId) (st : RangeState) : State :=
  s.editRange r fun c => { c with state := st }

/-! ## RETIRE -/

def retireOwner (tag : Byte) (pl : List Byte) (s : State) : State :=
  s.beginAdmin .retire tag pl (parseExplicit pl) s.geometry.isSome .retire

/-- The journal of a RETIRE's group, and how it changes the record (R135). -/
def State.retireJournal (s : State) (r : RangeId) : JournalRec × JournalWrite :=
  match s.scrub.job with
  | none => (⟨some (s.retireJob r), s.scrub.waiting⟩, .setsJob)
  | some j => (⟨some j.journal, s.scrub.waiting ++ [r]⟩, .appends r)

/-- RETIRE at the instant its refund completes (R134 steps 5 to 8, R135). -/
def State.goRetire (s : State) (r : RangeId) : State :=
  if !s.custody.state.inUse then s.answer .drive (.code .state)
  else if s.rangeState r ≠ some .active then s.answer .drive (.code .state)
  else
    match s.refusesWrites [.retireGroup r] with
    | some x => s.answer .drive (.code x)
    | none =>
      let s1 := State.raiseIfMoved s (s.lockRange .both r)
      let j := s1.retireJournal r
      s1.commitRequest [retireGroupEntry r .void j.1 j.2 [.rangeRetired r]]

/-- The RETIRE group of a request completes (R135); after an entry to ERASED or SCRUBBING nothing is
appended (R137). -/
def State.rangeRetired (s : State) (r : RangeId) : State :=
  let s1 := ((s.eraseSlot r).setRangeState r .void).unbindRange r
  let s2 :=
    if s1.custody.state.erasedOrBeyond then s1
    else { s1 with scrub := { s1.scrub with waiting := s1.scrub.waiting ++ [r] } }.nextJob
  let current := (s2.scrub.job.map (·.journal.range)).getD none = some r
  s2.answer .drive (.retired r current s2.scrub.waiting.length)

def execRetire (p : Port) (tag : Byte) (pl : List Byte) (s : State) :
    Host.Outcome State Fault Refusal :=
  .next (takeRequest .retire p tag pl (retireOwner tag pl) s)

/-! ## The Key-erase group completes (R132) -/

/-- A range entry whose record's key was erased: VOID where present, and without a lane. -/
def RangeEntry.voided (e : RangeEntry) : RangeEntry :=
  { e with stored := e.stored.map fun c => { c with state := .void }, lane := none }

/-- Every present range VOID, every key and authority erased, the root key replaced; every binding removed in
both records, each lane keeping its state and plan. -/
def State.keysErased (s : State) : State :=
  { s with
    ranges := mapVec RangeEntry.voided s.ranges
    lane := { s.lane with lanes := s.lane.lanes.map fun l => { l with range := none } }
    keys := mapVec KeyRec.erased s.keys
    rootKey := s.store.identity.rootKey
    authorities := mapVec AuthorityRec.erased s.authorities
    backoff := Vector.replicate 8 0 }

/-- The storing commit of a custody job completes: it becomes the current job (R133). -/
def State.custodyJobStored (s : State) : State :=
  { s with scrub := { s.scrub with job := some (.ofJournal s.custodyJob), waiting := [] } }

/-! ## SCRUB_TAKE (R139) -/

/-- Why no order is issued. -/
def State.takeReason (s : State) (j : Job) : Option NoneReason :=
  if j.journal.paused then some .paused
  else if s.supplyWarning then some .supply
  else if Config.orderWindow ≤ j.orders.length then some .windowFull
  else if j.issue = j.journal.stop then some .allIssued
  else none

/-- The order id counter after one order (R138). -/
def nextOrderId (n : Nat) : Nat := if n = 65535 then 1 else n + 1

def scrubTakeOwner (tag : Byte) (s : State) : State :=
  match s.scrub.job with
  | none => s.replyTo .scrubTake .drive tag (.noOrder .noJob)
  | some j =>
    match s.takeReason j with
    | some reason => s.replyTo .scrubTake .drive tag (.noOrder reason)
    | none =>
      let stop := min (j.issue + Config.chunk) j.journal.stop
      let o : Order := ⟨s.scrub.nextId, j.issue, stop - j.issue, false⟩
      { s with
        scrub :=
          { s.scrub with
            job := some { j with issue := stop, orders := j.orders ++ [o] }
            nextId := nextOrderId s.scrub.nextId } }.replyTo .scrubTake .drive tag
        (.order o.id j.journal.kind j.journal.range o.start o.length)

def execScrubTake (p : Port) (tag : Byte) (pl : List Byte) (s : State) :
    Host.Outcome State Fault Refusal :=
  .next (takeRequest .scrubTake p tag pl (scrubTakeOwner tag) s)

/-! ## SCRUB_DONE (R140, R141) -/

/-- An order marked done. -/
def markDone (id : Nat) (l : List Order) : List Order :=
  l.map fun o => if o.id = id then { o with done := true } else o

/-- What removing the done orders that stand oldest leaves: the orders, the cursor, the chunks since the
last checkpoint, and the cursor of a checkpoint reached on the way. -/
structure Advance where
  orders : List Order
  cursor : Nat
  chunks : Nat
  checkpoint : Option Nat
  deriving DecidableEq, Repr

/-- The done orders that stand oldest are removed (R140). -/
def removeDone : List Order → Nat → Nat → Option Nat → Advance
  | [], cursor, chunks, cp => ⟨[], cursor, chunks, cp⟩
  | o :: os, cursor, chunks, cp =>
    if o.done then
      let c := o.start + o.length
      if Config.checkpointChunks ≤ chunks + 1 then removeDone os c 0 (some c)
      else removeDone os c (chunks + 1) cp
    else ⟨o :: os, cursor, chunks, cp⟩

/-- A RETIRE job completes (R142). -/
def State.completeRetire (s : State) (r : RangeId) : State :=
  let s1 := ((s.setRangeState r .blank).notify .drive .scrubJobDone (some r))
  let s2 := (s1.setJob none).nextJob
  s2.enter [] (retireGroupEntry r .blank s2.journalRec .setsJob [])

/-- The present ranges in ascending range id. -/
def State.presentRanges (s : State) : List RangeId :=
  allRanges.filter fun r => (s.range r).stored.isSome

/-- The CUSTODY job's end owes a range its Range record: the range is present, and no REVERT accepted
meanwhile has marked its record absent, in the store or in an entry (R128, R143; log entry 52). -/
def State.owesBlank (s : State) (r : RangeId) : Bool :=
  (s.range r).stored.isSome && (s.storedRange r).isSome &&
    !(s.queue ++ s.held).any fun e => e.writes.contains (.range r none)

/-- The commit of R143 after one. -/
def State.spendNext (s : State) : SpendStep → Option SpendStep
  | .journal => some .custody
  | .custody => (allRanges.find? s.owesBlank).map .range
  | .range r => ((allRanges.filter fun q => decide (r < q)).find? s.owesBlank).map .range

/-- One commit of R143 is entered, waiting for a free entry where there is none. -/
def State.spendEnter (s : State) (step : SpendStep) : State :=
  let acts : List Act := [.spending step]
  match step with
  | .journal => s.enter [] (journalEntry s.journalRec .plain acts)
  | .custody => s.enter [] (custodyEntry (s.custodyRec false false) acts)
  | .range r => s.enter [] (rangeEntry r (s.range r).stored acts)

/-- One commit of R143 completes, and the next is entered (R154; log entry 48). -/
def State.spent (s : State) (step : SpendStep) : State :=
  match s.spendNext step with
  | some next => s.spendEnter next
  | none => s

/-- The CUSTODY job's end, its notices and its commits apart (R143). -/
def State.markSpent (s : State) : State :=
  let s1 := s.setJob none
  let s2 := s1.presentRanges.foldl (fun x r => x.setRangeState r .blank) s1
  { s2 with custody := { s2.custody with state := .spent } }

/-- The CUSTODY job's end, its notices apart: the first of its commits is entered (R143; log entry 48). -/
def State.spend (s : State) : State := s.markSpent.spendEnter .journal

/-- The CUSTODY job's end as a store load finds it: all of its commits are entered, in R143's order, each
held where no entry is free (R147, R159). -/
def State.spendAll (s : State) : State :=
  let s1 := s.markSpent
  s1.enterAll <|
    journalEntry s1.journalRec .plain [] :: custodyEntry (s1.custodyRec false false) [] ::
      s1.presentRanges.map fun r => rangeEntry r (s1.range r).stored []

/-- The CUSTODY job completes (R143). -/
def State.completeCustody (s : State) : State := s.spend.notifyBoth .custodyChanged

/-- The current job completes. -/
def State.completeJob (s : State) (j : JournalJob) : State :=
  match j.kind, j.range with
  | .retire, some r => s.completeRetire r
  | .retire, none => s.setJob none
  | .custody, _ => s.completeCustody

/-- The checkpoint of R141: the journal with the cursor at which it was reached. -/
def State.checkpoint (s : State) (cursor : Nat) : State :=
  let j := s.journalRec
  s.enter [] (journalEntry { j with job := j.job.map fun x => { x with cursor } } .checkpoint [])

/-- SCRUB_DONE (R140).  The reply of one that completes its job carries that job's end: the cursor at which the job
ended, and not the next job's (log entry 58). -/
def scrubDoneOwner (tag : Byte) (pl : List Byte) (s : State) : State :=
  let id := fieldAt pl 0 2
  match s.scrub.job with
  | none => s.replyTo .scrubDone .drive tag (.code .stale)
  | some j =>
    match j.orders.find? fun o => o.id = id with
    | none => s.replyTo .scrubDone .drive tag (.code .stale)
    | some o =>
      if o.done then s.replyTo .scrubDone .drive tag (.scrubbed j.journal.cursor false)
      else
        let a := removeDone (markDone id j.orders) j.journal.cursor j.chunks none
        let journal : JournalJob := { j.journal with cursor := a.cursor }
        let s1 := s.setJob (some { j with journal, orders := a.orders, chunks := a.chunks })
        let completed : Bool := a.cursor = j.journal.stop
        let s2 :=
          if completed then s1.completeJob journal
          else
            match a.checkpoint with
            | some c => s1.checkpoint c
            | none => s1
        s2.updateFinalCursor.replyTo .scrubDone .drive tag (.scrubbed a.cursor completed)

def execScrubDone (p : Port) (tag : Byte) (pl : List Byte) (s : State) :
    Host.Outcome State Fault Refusal :=
  .next (takeRequest .scrubDone p tag pl (scrubDoneOwner tag pl) s)

/-! ## SCRUB_PAUSE and SCRUB_RESUME (R144) -/

/-- SCRUB_PAUSE (`paused` true) or SCRUB_RESUME when it is taken.  One that needs no commit is answered by
R144's table while Supply Warning is asserted too, where R146 says DEFERRED of every one (DESIGN CHOICE,
unsafe: log entry 53). -/
def pauseOwner (k : ReqKind) (paused : Bool) (tag : Byte) (s : State) : State :=
  match s.scrub.job with
  | some j =>
    match j.journal.kind, j.journal.range with
    | .retire, some r =>
      if j.journal.paused = paused then s.replyTo k .drive tag (.code .ok)
      else
        s.beginCommit k .drive tag
          [journalEntry ⟨some { j.journal with paused }, s.scrub.waiting⟩ (.mark paused)
            [.pauseStored r paused]]
    | _, _ => s.replyTo k .drive tag (.code .state)
  | none => s.replyTo k .drive tag (.code .state)

/-- The Scrub journal commit of a pause or a resume completes. -/
def State.pauseStored (s : State) (r : RangeId) (paused : Bool) : State :=
  match s.scrub.job with
  | some j =>
    if j.journal.kind = .retire ∧ j.journal.range = some r then
      (s.setJob (some { j with journal := { j.journal with paused } })).answer .drive (.code .ok)
    else s.answer .drive (.code .state)
  | none => s.answer .drive (.code .state)

def execScrubPause (p : Port) (tag : Byte) (pl : List Byte) (s : State) :
    Host.Outcome State Fault Refusal :=
  .next (takeRequest .scrubPause p tag pl (pauseOwner .scrubPause true tag) s)

def execScrubResume (p : Port) (tag : Byte) (pl : List Byte) (s : State) :
    Host.Outcome State Fault Refusal :=
  .next (takeRequest .scrubResume p tag pl (pauseOwner .scrubResume false tag) s)

end Sys2Proof.Machine
end

