-- ==== Sys2Proof/Machine/Startup.lean ====
section
/-!
DEFINITION. Start-up, RESTART and supply (chapter 9, sections 8.4 and 8.5): the start instant with its
corrections and triggers, loss of power, RESTART in its two events, and the Supply Warning input.
-/

namespace Sys2Proof.Machine

open Sys2Proof

/-! ## Store load (R159, R160 step 1) -/

/-- A count of the Tries record above its limit is taken as the limit (R72), and the record is left as it
is stored (log entry 45). -/
def cappedTries (st : Records) : TriesRec :=
  { st.tries with
    failures :=
      Vector.ofFn fun i : Fin 8 => min st.tries.failures[i.val] st.authorities[i.val].tryLimit
    device := min st.tries.device st.policy.deviceTryLimit }

/-- The backoff timers at a start (R82). -/
def startBackoff (t : TriesRec) : Vector Nat 8 := mapVec backoffOf t.failures

/-- A clock restored from its written value (R119). -/
def restoredClock (value limit : Nat) (exact : Bool) : Nat :=
  if exact || limit = 0 then value else min (value + Config.checkpointMinutes) limit

/-- The Custody Controller restored from the records (R117, R119). -/
def restoredCustody (st : Records) : CustodyCtl where
  state := st.custody.state
  foreignCount := st.custody.foreignCount
  checkin := restoredClock st.custody.checkin st.policy.expiryPoint st.custody.checkinExact
  checkinSecs := 0
  escalation := restoredClock st.custody.escalation st.policy.escalationLimit st.custody.escalationExact
  escalationSecs := 0
  target := st.custody.target
  verdict := if st.pairing.isSome then .pending else .absent
  window := 0

/-- The stored state as read from the records, and every volatile value at its start value, before any
correction: mode and range 0's rights follow in `State.choosePresentation`.  `powered` and the start cause
say whether function has returned. -/
def State.load (s : State) (powered : Bool) (cause : StartCause) : State where
  powered := powered
  startMarker := s.startMarker
  startCause := cause
  restartPending := none
  supplyWarning := s.supplyWarning
  drive := .empty
  platform := .empty
  challenge := none
  ranges := mapVec (fun c => ⟨c, false, false, none, none⟩) s.store.ranges
  geometry := s.store.identity.geometry
  mode := .ofCustody s.store.custody.state
  epoch := 0
  authorities := s.store.authorities
  backoff := startBackoff (cappedTries s.store)
  tries := cappedTries s.store
  keys := s.store.keys
  rootKey := s.store.identity.rootKey
  lane := .initial
  custody := restoredCustody s.store
  policy := s.store.policy
  pairing := s.store.pairing
  scrub := ⟨s.store.journal.job.map Job.ofJournal, s.store.journal.waiting, 1⟩
  store := s.store
  queue := []
  held := []
  draws := s.draws
  pending := s.pending

/-! ## Corrections (R160 step 2) -/

/-- Range 0 left ACTIVE by a REVERT cut short takes VOID, or BLANK in SPENT, and its key is erased (R23). -/
def State.correctGlobal (s : State) : State :=
  if s.rangeState 0 = some .active && s.custody.state.erasedOrBeyond then
    let s1 :=
      (s.setRangeState 0 (if s.custody.state = .spent then .blank else .void)).eraseSlot 0
    s1.enterAll [keyEraseEntry 0 [], rangeEntry 0 (s1.range 0).stored []]
  else s

/-- A key of an absent, VOID or BLANK range (R23). -/
def State.orphanKey (s : State) (r : RangeId) : Bool :=
  s.keys[r.val].key.isSome && s.rangeState r != some .active

/-- The orphaned keys are erased, one Key record commit each (R23). -/
def State.correctKeys (s : State) : State :=
  (allRanges.filter s.orphanKey).foldl
    (fun x r => (x.eraseSlot r).enter [] (keyEraseEntry r [])) s

/-- The journal is held against the Custody record (R147). -/
def State.correctJournal (s : State) : State :=
  match s.custody.state, (s.scrub.job.map fun j => j.journal.kind : Option JobKind) with
  | .scrubbing, none => s.spendAll
  | .spent, _ =>
    (allRanges.filter fun r => s.rangeState r = some .void).foldl
      (fun x r =>
        let y := x.setRangeState r .blank
        y.enter [] (rangeEntry r (y.range r).stored [])) s
  | .scrubbing, some _ => s
  | _, some .custody =>
    let s1 := s.setJob none
    s1.enter [] (journalEntry s1.journalRec .plain [])
  | _, _ => s

/-! ## Start-up triggers (R160 step 3, R164) -/

/-- Custody becomes WARNED at the warning point; CHECKIN_DUE goes out for a drive that is WARNED, stored
or newly so (R119). -/
def State.startWarning (s : State) (counting : Bool) : State :=
  if counting && s.custody.state = .guarded && s.policy.warningPoint ≤ s.custody.checkin then s.warn
  else if s.custody.state = .warned then s.notifyBoth .checkinDue
  else s

/-- The causes present in the state that the corrections leave, each taken against the state that the one
before it left (log entry 20). -/
def State.startTriggers (s : State) : State :=
  let tries := s.custody.state.inUse && s.policy.deviceTryLimit ≤ s.tries.device
  let counting := s.checkinCounting
  let expired := counting && s.policy.expiryPoint ≤ s.custody.checkin
  let escalates := s.escalationCounting && s.policy.escalationLimit ≤ s.custody.escalation
  let foreign := s.custody.state.inUse && s.policy.foreignLimit ≤ s.custody.foreignCount
  let s1 := if tries then s.take .tryExhaustion else s
  let s2 := if expired then s1.take .checkinExpired else s1.startWarning counting
  let s3 := if escalates then s2.respond s2.custody.target [] else s2
  if foreign then s3.take .foreignStart else s3

/-! ## The start instant -/

/-- The notices of a start, which queues no PRESENTATION_CHANGED: each carries the epoch and the custody state the
event leaves (R22, R180). -/
def startNotices (e : Epoch) (c : Custody) (q : PortState) : PortState :=
  { q with
    notices := (q.notices.filter fun n => n.kind ≠ .presentationChanged).map fun n =>
      { n with epoch := e, custody := c } }

/-- The start instant, with no PRESENTATION_CHANGED for its increments (R22, R160 to R166). -/
def State.start (s : State) (markerKept : Bool) : State :=
  let cause := if markerKept && s.startMarker then StartCause.supplyDip else .powerOn
  let s0 := { s with startMarker := true }.load true cause
  let s1 := s0.correctKeys.correctGlobal.correctJournal.choosePresentation.startTriggers
  let s2 :=
    { s1 with
      drive := startNotices s1.epoch s1.custody.state s1.drive
      platform := startNotices s1.epoch s1.custody.state s1.platform }
  if s.supplyWarning then s2.placeFinal else s2

/-- The start instant of a power-on or a supply dip; on a device that has power it stands for the loss of
function and the return (log entry 8).  `markerKept` says whether the start marker's cell kept its value
(log entry 9). -/
def execStartInstant (markerKept : Bool) (s : State) : Host.Outcome State Fault Refusal :=
  .next (s.start markerKept)

/-- Loss of function: everything volatile is gone; the records, the marker's cell and the input's level
are not the device's to lose (R150, R167, R179; log entry 35). -/
def execPowerLoss (s : State) : Host.Outcome State Fault Refusal :=
  .next (if s.powered then s.load false .none else s)

/-! ## RESTART (R168 to R171) -/

/-- RESTART is taken: never in flight (10.3), it makes its reply now and takes effect when that reply enters
the slot (R168; log entry 11). -/
def restartOwner (tag : Byte) (s : State) : State :=
  { s with restartPending := some ⟨replyKind .restart, tag, .restarted s.epoch s.custody.state⟩ }

def execRestart (p : Port) (tag : Byte) (pl : List Byte) (s : State) :
    Host.Outcome State Fault Refusal :=
  .next (takeRequest .restart p tag pl (restartOwner tag) s)

def execRestartTakesEffect (s : State) : Host.Outcome State Fault Refusal :=
  .next (if s.powered then s.restartTakesEffect else s)

/-! ## Supply Warning (R157, R158, R166) -/

/-- The input asserts: the final checkpoint is placed.  Before the start instant the input is not acted on
and only its level is kept (R160; log entry 10). -/
def execSupplyWarningAsserted (s : State) : Host.Outcome State Fault Refusal :=
  let s1 := { s with supplyWarning := true }
  .next (if s.powered then s1.placeFinal else s1)

/-- The input deasserts without loss of function (R158). -/
def State.supplyRecovered (s : State) : State :=
  let s1 := s.notify .drive .supplyRecovered
  if s1.finalWaiting then s1.clearFinalExact
  else if s1.checkinCounting || s1.escalationCounting then s1.storeCustody false false []
  else s1

def execSupplyWarningDeasserted (s : State) : Host.Outcome State Fault Refusal :=
  let s1 := { s with supplyWarning := false }
  .next (if s.powered && s.supplyWarning then State.sealEvent s1 s1.supplyRecovered else s1)

end Sys2Proof.Machine
end

