-- ==== Sys2Proof/Machine/Commit.lean ====
section
/-!
DEFINITION. COMMIT_COMPLETE (R155): the head entry is written, the next begins, the oldest held write takes
the freed entry, and each block and each request that waited on the entry acts, in the order their writes
were made into it.
-/

namespace Sys2Proof.Machine

open Sys2Proof

/-! ## After a credential check (R74, R77) -/

/-- The requesting rule goes on at the instant its refund completes. -/
def State.afterCheck (s : State) (a : AuthId) : CredReq → State
  | .unlock list w => s.goUnlock a list w
  | .setRange r start length v p => s.goSetRange r start length v p
  | .dropRange r => s.goDropRange r
  | .grant r t => s.goGrant r t
  | .revoke r t => s.goRevoke r t
  | .retire r => s.goRetire r
  | .rekey r => s.goRekey r
  | .setAuthority t op c l => s.goSetAuthority t op c l
  | .setPolicy v => s.goSetPolicy v
  | .freezePolicy => s.goFreezePolicy
  | .wipe l hidden => s.goWipe l hidden

/-- The refund commit completes: the check has passed (R77). -/
def State.refunded (s : State) : State :=
  match s.drive.inFlight with
  | some ⟨_, _, .refunding a req⟩ =>
    ({ s with tries := s.store.tries }.setBackoff a 0).afterCheck a req
  | _ => { s with tries := s.store.tries }

/-! ## Other completions -/

/-- The Tries commit of a LIMIT completes: TRY_LOCKOUT where its mark was not set before (R85). -/
def State.limitStored (s : State) (t : AuthId) : State :=
  let s1 := { s with tries := s.store.tries }
  if !s.tries.lockout[t.val] && s1.tries.lockout[t.val] then s1.notify .drive .tryLockout else s1

/-- The commit that carried a foreign-start count completes (R117). -/
def State.foreignTest (s : State) : State :=
  if s.custody.state.inUse && s.policy.foreignLimit ≤ s.custody.foreignCount then s.take .foreignStart
  else s

/-- The reply of a request whose last commit has completed.  The OK of CHECK_IN
carries the custody state of that instant (R126), and so does that of WIPE and WIPE_ORDER, also where a further
response has moved custody on (R124, R125; log entry 55).  The epoch of an OK is that of this instant too, also
for a DROP_RANGE whose epoch another event has raised since its Range record completed (R15; log entry 56). -/
def State.answerBody (s : State) : Answer → ReplyBody
  | .ok => .code .ok
  | .epoch => .epoch .ok s.epoch
  | .revoked c => .revoked s.epoch c
  | .rekeyed r => s.rekeyReply r
  | .authority t => s.authorityReply t
  | .custody => .custody s.custody.state

/-- What waited on an entry acts on its completion (R155). -/
def State.act (s : State) : Act → State
  | .charged => s.compare
  | .refunded => s.refunded
  | .geometryStored => s.geometryStored
  | .authorityStored i => s.setAuthority i s.store.authorities[i.val]
  | .triesStored => { s with tries := s.store.tries }
  | .limitStored i => s.limitStored i
  | .backoffCleared i => s.setBackoff i 0
  | .enrolled => s.enrolled
  | .rangeDefined r => s.rangeDefined r
  | .rangeEdited r => s.rangeEdited r
  | .rangeDropped r => s.rangeDropped r
  | .accessStored r => s.accessStored r
  | .rangeRekeyed r => s.rangeRekeyed r
  | .rangeRetired r => s.rangeRetired r
  | .policyStored => s.policyStored
  | .foreignTest => s.foreignTest
  | .keysErased => s.keysErased
  | .custodyJobStored => s.custodyJobStored
  | .pauseStored r b => s.pauseStored r b
  | .reverted step => s.reverted step
  | .spending step => s.spent step
  | .answer p a => s.answer p (s.answerBody a)

/-! ## COMMIT_COMPLETE -/

/-- The head entry completes; with no entry under way nothing happens (log entry 4). -/
def State.completeHead (s : State) : State :=
  match s.queue with
  | [] => s
  | e :: rest =>
    let s1 := { s with store := s.store.commit e.writes, queue := rest }
    e.acts.foldl State.act (State.promoteHeld s1.held.length s1)

def execCommitComplete (s : State) : Host.Outcome State Fault Refusal :=
  .next (deviceEvent State.completeHead s)

end Sys2Proof.Machine
end

