-- ==== Sys2Proof/Machine/LaneLink.lean ====
section
/-!
DEFINITION. The Lane Controller (sections 3.3 to 3.5): the slots of a lane frame and their answers, FAULT,
the turn slot, link DOWN and UP, LANE_HOLD and LANE_RELEASE.  An event that the link's state does not
admit (an answer to a slot that has not begun) changes nothing (log entry 4).
-/

namespace Sys2Proof.Machine

open Sys2Proof

/-! ## Slots -/

/-- The slot after one (R67). -/
def State.nextPosition (s : State) : SlotPos :=
  match s.lane.position with
  | .lane n => if n + 1 < s.lane.lanes.length then .lane (n + 1) else .turn
  | .turn => .lane 0

/-- The Lane Controller with another link state. -/
def State.setLink (s : State) (l : LinkState) : State := { s with lane := { s.lane with link := l } }

/-- A LANE_HOLD in flight ends with the slot in progress: it takes effect, or is answered STATE where a
custody response withdrew it or the link went DOWN (R65, R67). -/
def State.settleHold (s : State) : State :=
  match s.drive.inFlight with
  | some ⟨_, _, .holding withdrawn⟩ =>
    if withdrawn || s.lane.link = .down then s.answer .drive (.code .state)
    else (s.setLink .held).answer .drive (.code .ok)
  | _ => s

/-- The end of a slot, its result acted on: the next slot is due, or the hold begins. -/
def State.finishSlot (s : State) : State :=
  { s with lane := { s.lane with position := s.nextPosition, sent := none } }.settleHold

/-- The lane whose slot has begun, with what was sent (R54). -/
def State.slotInProgress (s : State) : Option (Nat × LaneRec × Sent) :=
  if s.lane.link = .up then
    match s.lane.position, s.lane.sent with
    | .lane n, some sent => (s.laneAt n).map fun l => (n, l, sent)
    | _, _ => none
  else none

/-- The plaintext key of a lane's range (R48). -/
def State.plainKey (s : State) (l : LaneRec) : Option Secret :=
  (l.range.bind fun r => s.keys[r.val].key).map fun k => Config.unwrapKey s.rootKey k.1

/-- What a lane slot sends for its lane's plan (R54, R55). -/
def State.sends (s : State) (l : LaneRec) : Sent :=
  match l.plan with
  | .load => .load (s.plainKey l)
  | .clear => .clear
  | .probe => .probe (if l.state = .free then none else l.expected)

/-- The start of a lane slot (R55). -/
def State.startSlot (s : State) : State :=
  if s.lane.link = .up && s.lane.sent.isNone then
    match s.lane.position with
    | .lane n =>
      match s.laneAt n with
      | some l => { s with lane := { s.lane with sent := some (s.sends l) } }
      | none => s
    | .turn => s
  else s

def execLaneSlotStart (s : State) : Host.Outcome State Fault Refusal :=
  .next (deviceEvent State.startSlot s)

/-! ## FAULT (R60) -/

/-- A lane goes to FAULT at the end of its slot. -/
def State.faultLane (s : State) (n : Nat) (l : LaneRec) : State :=
  let s1 := s.updLane n fun x => { x with state := .fault, plan := .clear }
  match l.range with
  | none => s1.notify .drive .laneFault none (some n)
  | some r =>
    let s2 := s1.setRange r (s1.range r).locked
    State.raiseIf (State.moved s s2)
      ((s2.notify .drive .rangeRelocked (some r)).notify .drive .laneFault none (some n))

/-! ## LOAD (R56, R59) -/

/-- The last outcome of an answered LOAD. -/
def loadOutcome (a : LoadAnswer) (expected : Option Code) : SlotOutcome :=
  match a with
  | .accepted c => if expected = some c then .ok else .mismatch
  | .rejected => .rejected

/-- A LOAD slot answered, against the lane's state at the end of the slot. -/
def State.loadAnswered (s : State) (n : Nat) (l : LaneRec) (a : LoadAnswer) : State :=
  let o := loadOutcome a l.expected
  let l1 := { l with last := some o }
  if l.state ≠ .loading then s.updLane n fun _ => l1
  else if o = .ok then
    s.updLane n fun _ => { l1 with state := .loaded, attempts := 0, votes := [], plan := .probe }
  else
    let l2 := { l1 with attempts := l.attempts + 1 }
    let s1 := s.updLane n fun _ => l2
    if 3 ≤ l2.attempts then s1.faultLane n l2 else s1

/-- The end of an answered LOAD slot. -/
def State.loadSlotEnd (s : State) (a : LoadAnswer) : State :=
  match s.slotInProgress with
  | some (n, l, .load _) => (s.loadAnswered n l a).finishSlot
  | _ => s

def execLoadSlotEnd (a : LoadAnswer) (s : State) : Host.Outcome State Fault Refusal :=
  .next (deviceEvent (fun s => s.loadSlotEnd a) s)

/-! ## CLEAR (R57, R59) -/

/-- A lane emptied by its CLEAR, its binding apart. -/
def LaneRec.emptied (l : LaneRec) : LaneRec :=
  { l with state := .free, expected := none, plan := .probe, last := some .ok, votes := [], attempts := 0 }

/-- A CLEAR slot answered, against the lane's state at the end of the slot. -/
def State.clearAnswered (s : State) (n : Nat) (l : LaneRec) (a : HeldAnswer) : State :=
  match a with
  | .held _ => s.updLane n fun x => { x with last := some .rejected }
  | .empty =>
    if l.state = .loading || l.state = .loaded then s.updLane n fun x => { x with last := some .ok }
    else ((s.unbind n).updLane n LaneRec.emptied).restoreIfUnbound

/-- The end of an answered CLEAR slot. -/
def State.clearSlotEnd (s : State) (a : HeldAnswer) : State :=
  match s.slotInProgress with
  | some (n, l, .clear) => (s.clearAnswered n l a).finishSlot
  | _ => s

def execClearSlotEnd (a : HeldAnswer) (s : State) : Host.Outcome State Fault Refusal :=
  .next (deviceEvent (fun s => s.clearSlotEnd a) s)

/-! ## PROBE (R58, R59) -/

/-- An answered PROBE against the code the lane was believed to hold. -/
def heldVote (a : HeldAnswer) (believed : Option Code) : Vote :=
  match a, believed with
  | .empty, none => .ok
  | .held c, some e => if c = e then .ok else .mismatch
  | _, _ => .mismatch

def Vote.outcome : Vote → SlotOutcome
  | .ok => .ok
  | .mismatch => .mismatch

/-- A vote added to a history of at most three, the oldest giving way (R58). -/
def addVote (votes : List Vote) (v : Vote) : List Vote :=
  let all := votes ++ [v]
  all.drop (all.length - 3)

/-- A PROBE slot answered, against the lane's state at the end of the slot (log entry 22).  A FREE lane answered
EMPTY keeps the plan it has: PROBE (R58), or the CLEAR that a custody response or RESTART gave it during the slot,
which R59's table does not name and which is the model's choice, log entry 59. -/
def State.probeAnswered (s : State) (n : Nat) (l : LaneRec) (believed : Option Code) (a : HeldAnswer) :
    State :=
  match l.state with
  | .loaded =>
    let v := heldVote a l.expected
    let l1 := { l with votes := addVote l.votes v, last := some v.outcome }
    let s1 := s.updLane n fun _ => l1
    if 2 ≤ l1.votes.count .mismatch then s1.faultLane n l1 else s1
  | .free =>
    match a with
    | .empty => s.updLane n fun x => { x with last := some .ok }
    | .held _ => s.updLane n fun x => { x with last := some .mismatch, plan := .clear }
  | _ => s.updLane n fun x => { x with last := some (heldVote a believed).outcome }

/-- The end of an answered PROBE slot. -/
def State.probeSlotEnd (s : State) (a : HeldAnswer) : State :=
  match s.slotInProgress with
  | some (n, l, .probe believed) => (s.probeAnswered n l believed a).finishSlot
  | _ => s

def execProbeSlotEnd (a : HeldAnswer) (s : State) : Host.Outcome State Fault Refusal :=
  .next (deviceEvent (fun s => s.probeSlotEnd a) s)

/-! ## The turn slot (R61, R64, R66) -/

/-- The lane of a range, if any, is lost: the binding removed in both records, the rights removed with
RANGE_RELOCKED where one was on (R61, R63). -/
def State.loseLane (s : State) (r : RangeId) : State :=
  let s1 := s.unbindRange r
  if (s1.range r).hasRight then
    (s1.setRange r (s1.range r).locked).notify .drive .rangeRelocked (some r)
  else s1

/-- The ranges bound to lanes that meet a test, in ascending range id. -/
def State.rangesOn (s : State) (f : Nat → Bool) : List RangeId :=
  allRanges.filter fun r => ((s.range r).lane.map f).getD false

/-- A count of 4 to 16 other than E is adopted (R61); the epoch's increment is the end of its event's. -/
def State.adoptCount (s : State) (count : Nat) : State :=
  let e := s.lane.lanes.length
  if count < 4 ∨ 16 < count ∨ count = e then s
  else if count < e then
    let s1 := (s.rangesOn fun n => decide (count ≤ n)).foldl State.loseLane s
    s1.setLanes (s1.lane.lanes.take count)
  else s.setLanes (s.lane.lanes ++ List.replicate (count - e) .initial)

/-- The range's lane is CLEARING: its key has not left the engine (R53, R100). -/
def State.clears (s : State) (r : RangeId) : Bool :=
  ((s.range r).lane.bind s.laneAt).any fun l => l.state = .clearing

/-- The link comes UP (R64).  In OPEN range 0 is given its rights and bound (R66), but where LOCK or STANDBY
left its lane CLEARING: the CLEAR runs first, and its EMPTY gives them back (R100, R102; log entry 47). -/
def State.linkUp (s : State) : State :=
  let lanes := s.lane.lanes.map fun l => if l.state = .free then { l with plan := .clear } else l
  let s1 :=
    { s with lane := ⟨lanes, .up, 0, .lane 0, none⟩ }.notify .drive .laneLinkUp
  if s1.custody.state = .opened && !s1.clears 0 then s1.restoreGlobal else s1

/-- The end of an answered turn slot.  PRESENTATION_CHANGED stands behind the relock notices and LANE_LINK_UP
(R61, R64, R103; log entry 21). -/
def State.turnSlotEnd (s : State) (count : Nat) : State :=
  match s.lane.link, s.lane.position with
  | .down, _ =>
    let s1 := s.adoptCount count
    State.raiseIf (State.moved s s1) s1.linkUp
  | .up, .turn =>
    let s1 := s.adoptCount count
    let s2 := { s1 with lane := { s1.lane with silence := 0 } }.restoreIfUnbound
    (State.raiseIf (State.moved s s1) s2).finishSlot
  | _, _ => s

def execTurnSlotEnd (count : Nat) (s : State) : Host.Outcome State Fault Refusal :=
  .next (deviceEvent (fun s => s.turnSlotEnd count) s)

/-! ## Silence (R54, R62, R63) -/

/-- A lane record after the link went DOWN: its last outcome is kept. -/
def LaneRec.lost (l : LaneRec) : LaneRec := { LaneRec.initial with last := l.last }

/-- The link goes DOWN (R63).  Where range 0 was left without a lane in OPEN, a lane that becomes FREE
gives it back its rights (R66, last case). -/
def State.linkDown (s : State) : State :=
  let s1 := (s.rangesOn fun _ => true).foldl State.loseLane s
  let s2 :=
    { s1 with
      lane := { s1.lane with lanes := s1.lane.lanes.map LaneRec.lost, link := .down, silence := 0 } }
  let s3 := State.raiseIf (State.moved s s2) (s2.notify .drive .laneLinkDown)
  if (s.range 0).lane.isNone then s3.restoreIfUnbound else s3

/-- Every lane slot of the frame was silent. -/
def State.lanesSilent (s : State) : Bool := s.lane.lanes.all fun l => l.last = some .silent

/-- The end of an unanswered turn slot while the link is UP (R62). -/
def State.turnSilent (s : State) : State :=
  let n := if s.lanesSilent then s.lane.silence + 1 else 0
  let s1 := { s with lane := { s.lane with silence := n } }
  if Config.silentFrames ≤ n then s1.linkDown else s1

/-- A slot's answer window runs out: the slot is SILENT. -/
def State.slotSilent (s : State) : State :=
  match s.lane.link, s.lane.position with
  | .up, .turn => s.turnSilent.finishSlot
  | .up, .lane _ =>
    match s.slotInProgress with
    | some (n, _, _) => (s.updLane n fun x => { x with last := some .silent }).finishSlot
    | none => s
  | _, _ => s

def execSlotAnswerWindowExpiry (s : State) : Host.Outcome State Fault Refusal :=
  .next (deviceEvent State.slotSilent s)

/-! ## LANE_HOLD and LANE_RELEASE (R67, R68) -/

def laneHoldOwner (tag : Byte) (s : State) : State :=
  if 1 ≤ s.custody.state.strength then s.replyTo .laneHold .drive tag (.code .state)
  else
    match s.lane.link with
    | .down => s.replyTo .laneHold .drive tag (.code .state)
    | .held => s.replyTo .laneHold .drive tag (.code .ok)
    | .up => s.startWork .laneHold .drive tag (.holding false)

def execLaneHold (p : Port) (tag : Byte) (pl : List Byte) (s : State) :
    Host.Outcome State Fault Refusal :=
  .next (takeRequest .laneHold p tag pl (laneHoldOwner tag) s)

def laneReleaseOwner (tag : Byte) (s : State) : State :=
  (if s.lane.link = .held then s.setLink .up else s).replyTo .laneRelease .drive tag (.code .ok)

def execLaneRelease (p : Port) (tag : Byte) (pl : List Byte) (s : State) :
    Host.Outcome State Fault Refusal :=
  .next (takeRequest .laneRelease p tag pl (laneReleaseOwner tag) s)

end Sys2Proof.Machine
end

