-- ==== Sys2Proof/Machine/Ports.lean ====
section
/-!
DEFINITION. The message ports' own events (chapter 10): frames that reach no owner, read transactions,
and the requests STATUS and FETCH.
-/

namespace Sys2Proof.Machine

open Sys2Proof

/-! ## Frames that reach no owner (R173, R175, R176) -/

/-- A transaction whose frame the port itself answers: discarded before the start instant and over an
unread reply. -/
def takeFrame (p : Port) (answer : State → State) (s : State) : State :=
  if !s.powered then s
  else
    let s0 := s.settle p
    let s1 := s0.endTransaction p
    if (s0.port p).replySlot.isSome then s1 else answer s1

/-- A frame refused by R175. -/
def execGarbledFrame (p : Port) (_bytes : List Byte) (s : State) : Host.Outcome State Fault Refusal :=
  .next (takeFrame p (fun x => x.reply p 0xFF 0 (.code .garbled)) s)

/-- A frame of no request kind (R176, R185). -/
def execUnknownKind (p : Port) (kind tag : Byte) (_pl : List Byte) (s : State) :
    Host.Outcome State Fault Refusal :=
  .next (takeFrame p (fun x => x.reply p (unknownReplyKind kind) tag (.code .unknownKind)) s)

/-- A transaction that ends before its frame does: the partial frame is discarded (R173). -/
def execLinkBreak (p : Port) (_bytes : List Byte) (s : State) : Host.Outcome State Fault Refusal :=
  .next (if s.powered then (s.settle p).endTransaction p else s)

/-- A complete frame over an unread reply: discarded with no reply and no effect (R173). -/
def execFrameOverUnreadReply (p : Port) (_bytes : List Byte) (s : State) :
    Host.Outcome State Fault Refusal :=
  .next (if s.powered then (s.settle p).endTransaction p else s)

/-! ## Read transactions (R174, R185) -/

/-- The byte the device sent at an index of the last transaction, or would have sent had it gone on so
long: a reply's byte, and the filler for every other byte (R174, R185; log entry 12). -/
def PortState.outByte (q : PortState) (i : Nat) : Byte := q.dataOut.getD i fillerByte

/-- The bytes of the slot's reply that a read of `n` bytes takes out. -/
def readBytes (slot : Option Reply) (n : Nat) : List Byte := ((slot.map Reply.bytes).getD []).take n

/-- The last check byte of the slot's reply has been shifted out: the slot is empty, or holds the deferred
reply, with nothing in flight any more. -/
def PortState.takeOut (q : PortState) : PortState :=
  { q with
    replySlot := q.deferred
    deferred := none
    inFlight := if q.deferred.isSome then none else q.inFlight }

/-- A read transaction of `n` bytes. -/
def PortState.readOut (q : PortState) (n : Nat) : PortState :=
  let q1 := { q with dataOut := readBytes q.replySlot n }
  match q.replySlot with
  | none => q1
  | some r => if r.bytes.length ≤ n then q1.takeOut else q1

def execReadTransaction (p : Port) (n : Nat) (s : State) : Host.Outcome State Fault Refusal :=
  let s0 := s.settle p
  .next (if s.powered then s0.setPort p ((s0.port p).readOut n) else s)

/-! ## STATUS (R161, R184) -/

/-- The values of a STATUS reply. -/
def State.report (s : State) : StatusReport where
  custody := s.custody.state
  mode := s.mode
  epoch := s.epoch
  link := s.lane.link
  lanes := s.lane.lanes.length
  job := s.scrub.job.map (·.journal.kind)
  cursor := s.scrub.job.map (·.journal.cursor)
  stop := s.scrub.job.map (·.journal.stop)
  waiting := s.scrub.waiting.length
  depth := s.queue.length
  supplyWarning := s.supplyWarning
  verdict := s.custody.verdict
  cause := s.startCause

def statusOwner (p : Port) (tag : Byte) (pl : List Byte) (s : State) : State :=
  match flagOfCode (byteAt pl 0) with
  | none => s.replyTo .status p tag (.code .badValue)
  | some acknowledge =>
    let s1 := s.replyTo .status p tag (.status s.report)
    if acknowledge then { s1 with startCause := .none } else s1

def execStatus (p : Port) (tag : Byte) (pl : List Byte) (s : State) :
    Host.Outcome State Fault Refusal :=
  .next (takeRequest .status p tag pl (statusOwner p tag pl) s)

/-! ## FETCH (R182) -/

def fetchOwner (p : Port) (tag : Byte) (s : State) : State :=
  let q := s.port p
  let left := q.notices.drop Config.fetchCount
  (s.setPort p { q with notices := left, overflow := false }).replyTo .fetch p tag
    (.notices (q.notices.take Config.fetchCount) left.length q.overflow)

def execFetch (p : Port) (tag : Byte) (pl : List Byte) (s : State) :
    Host.Outcome State Fault Refusal :=
  .next (takeRequest .fetch p tag pl (fetchOwner p tag) s)

end Sys2Proof.Machine
end

