-- ==== Sys2Proof/Machine/Dispatch.lean ====
section
/-!
DEFINITION. `exec`: one arm per command, each one call of its meaning.
-/

namespace Sys2Proof.Machine

open Sys2Proof

def exec (i : Instr) (s : State) : Host.Outcome State Fault Refusal :=
  match i with
  | .resolve p tag pl => Sys2Proof.Machine.execResolve p tag pl s
  | .unlock p tag pl => Sys2Proof.Machine.execUnlock p tag pl s
  | .lock p tag pl => Sys2Proof.Machine.execLock p tag pl s
  | .present p tag pl => Sys2Proof.Machine.execPresent p tag pl s
  | .standby p tag pl => Sys2Proof.Machine.execStandby p tag pl s
  | .geometry p tag pl => Sys2Proof.Machine.execGeometry p tag pl s
  | .enrol p tag pl => Sys2Proof.Machine.execEnrol p tag pl s
  | .setRange p tag pl => Sys2Proof.Machine.execSetRange p tag pl s
  | .dropRange p tag pl => Sys2Proof.Machine.execDropRange p tag pl s
  | .grant p tag pl => Sys2Proof.Machine.execGrant p tag pl s
  | .revoke p tag pl => Sys2Proof.Machine.execRevoke p tag pl s
  | .retire p tag pl => Sys2Proof.Machine.execRetire p tag pl s
  | .rekey p tag pl => Sys2Proof.Machine.execRekey p tag pl s
  | .setAuthorityCredential p tag pl => Sys2Proof.Machine.execSetAuthorityCredential p tag pl s
  | .setAuthorityLimit p tag pl => Sys2Proof.Machine.execSetAuthorityLimit p tag pl s
  | .setAuthorityEnable p tag pl => Sys2Proof.Machine.execSetAuthorityEnable p tag pl s
  | .setAuthorityDisable p tag pl => Sys2Proof.Machine.execSetAuthorityDisable p tag pl s
  | .setAuthorityReinstate p tag pl => Sys2Proof.Machine.execSetAuthorityReinstate p tag pl s
  | .setPolicy p tag pl => Sys2Proof.Machine.execSetPolicy p tag pl s
  | .freezePolicy p tag pl => Sys2Proof.Machine.execFreezePolicy p tag pl s
  | .wipe p tag pl => Sys2Proof.Machine.execWipe p tag pl s
  | .revert p tag pl => Sys2Proof.Machine.execRevert p tag pl s
  | .scrubTake p tag pl => Sys2Proof.Machine.execScrubTake p tag pl s
  | .scrubDone p tag pl => Sys2Proof.Machine.execScrubDone p tag pl s
  | .scrubPause p tag pl => Sys2Proof.Machine.execScrubPause p tag pl s
  | .scrubResume p tag pl => Sys2Proof.Machine.execScrubResume p tag pl s
  | .laneHold p tag pl => Sys2Proof.Machine.execLaneHold p tag pl s
  | .laneRelease p tag pl => Sys2Proof.Machine.execLaneRelease p tag pl s
  | .restart p tag pl => Sys2Proof.Machine.execRestart p tag pl s
  | .restartTakesEffect => Sys2Proof.Machine.execRestartTakesEffect s
  | .status p tag pl => Sys2Proof.Machine.execStatus p tag pl s
  | .fetch p tag pl => Sys2Proof.Machine.execFetch p tag pl s
  | .pair p tag pl => Sys2Proof.Machine.execPair p tag pl s
  | .challenge p tag pl => Sys2Proof.Machine.execChallenge p tag pl s
  | .checkIn p tag pl => Sys2Proof.Machine.execCheckIn p tag pl s
  | .wipeOrder p tag pl => Sys2Proof.Machine.execWipeOrder p tag pl s
  | .garbledFrame p bytes => Sys2Proof.Machine.execGarbledFrame p bytes s
  | .unknownKind p kind tag pl => Sys2Proof.Machine.execUnknownKind p kind tag pl s
  | .linkBreak p bytes => Sys2Proof.Machine.execLinkBreak p bytes s
  | .frameOverUnreadReply p bytes => Sys2Proof.Machine.execFrameOverUnreadReply p bytes s
  | .readTransaction p n => Sys2Proof.Machine.execReadTransaction p n s
  | .laneSlotStart => Sys2Proof.Machine.execLaneSlotStart s
  | .loadSlotEnd a => Sys2Proof.Machine.execLoadSlotEnd a s
  | .clearSlotEnd a => Sys2Proof.Machine.execClearSlotEnd a s
  | .probeSlotEnd a => Sys2Proof.Machine.execProbeSlotEnd a s
  | .turnSlotEnd n => Sys2Proof.Machine.execTurnSlotEnd n s
  | .slotAnswerWindowExpiry => Sys2Proof.Machine.execSlotAnswerWindowExpiry s
  | .commitComplete => Sys2Proof.Machine.execCommitComplete s
  | .supplyWarningAsserted => Sys2Proof.Machine.execSupplyWarningAsserted s
  | .supplyWarningDeasserted => Sys2Proof.Machine.execSupplyWarningDeasserted s
  | .startInstant kept => Sys2Proof.Machine.execStartInstant kept s
  | .powerLoss => Sys2Proof.Machine.execPowerLoss s
  | .backoffExpiry a => Sys2Proof.Machine.execBackoffExpiry a s
  | .pairingWindowExpiry => Sys2Proof.Machine.execPairingWindowExpiry s
  | .checkinClockAdvance => Sys2Proof.Machine.execCheckinClockAdvance s
  | .checkinWarning => Sys2Proof.Machine.execCheckinWarning s
  | .checkinExpired => Sys2Proof.Machine.execCheckinExpired s
  | .escalationClockAdvance => Sys2Proof.Machine.execEscalationClockAdvance s
  | .escalation => Sys2Proof.Machine.execEscalation s

end Sys2Proof.Machine
end

