-- ==== Sys2Proof/Machine/Timers.lean ====
section
/-!
DEFINITION. One second of powered time (R81, R117, R118, R120; log entry 5): what the device does while no
command waits.
-/

namespace Sys2Proof.Machine

open Sys2Proof

/-- Every running backoff timer counts one second down (R81). -/
def State.tickBackoff (s : State) : State := { s with backoff := mapVec (fun n => n - 1) s.backoff }

/-- The pairing window timer counts one second; its expiry is an event of its own (R117). -/
def State.tickWindow (s : State) : State :=
  if Config.pairingWindow ≤ s.custody.window then s
  else if s.custody.window + 1 < Config.pairingWindow then
    { s with custody := { s.custody with window := s.custody.window + 1 } }
  else State.sealEvent s s.expireWindow

/-- The counting check-in clock counts one second towards its next minute (R118). -/
def State.tickCheckin (s : State) : State :=
  if !s.checkinCounting then s
  else if s.custody.checkinSecs + 1 < Config.minute then
    { s with custody := { s.custody with checkinSecs := s.custody.checkinSecs + 1 } }
  else State.sealEvent s s.advanceCheckin

/-- The counting escalation clock counts one second towards its next minute (R120). -/
def State.tickEscalation (s : State) : State :=
  if !s.escalationCounting then s
  else if s.custody.escalationSecs + 1 < Config.minute then
    { s with custody := { s.custody with escalationSecs := s.custody.escalationSecs + 1 } }
  else State.sealEvent s s.advanceEscalation

/-- One second of powered time.  An escalation clock that the second's own events start has counted
nothing of it. -/
def State.tick (s : State) : State :=
  if !s.powered then s
  else
    let s1 := s.tickBackoff.tickWindow.tickCheckin
    if s.escalationCounting then s1.tickEscalation else s1

end Sys2Proof.Machine
end

