-- ==== Sys2Proof/WellFormed.lean ====
section
/-!
DEFINITION. When a command is one the world can bring: a request's payload fits a frame, a SET_AUTHORITY
row carries its own operation byte, a port event's bytes are what the event says they are.
-/

namespace Sys2Proof

/-- A payload of 0 to 256 bytes (R175). -/
def payloadFits (payload : List Byte) : Bool := payload.length ≤ 256

/-- The operation byte of a SET_AUTHORITY payload (section 11.3). -/
def authorityOperation (payload : List Byte) : Nat := byteAt payload 34

/-- Well-formed commands. -/
def Instr.WellFormed : Instr → Bool
  | .resolve _ _ pl => payloadFits pl
  | .unlock _ _ pl => payloadFits pl
  | .lock _ _ pl => payloadFits pl
  | .present _ _ pl => payloadFits pl
  | .standby _ _ pl => payloadFits pl
  | .geometry _ _ pl => payloadFits pl
  | .enrol _ _ pl => payloadFits pl
  | .setRange _ _ pl => payloadFits pl
  | .dropRange _ _ pl => payloadFits pl
  | .grant _ _ pl => payloadFits pl
  | .revoke _ _ pl => payloadFits pl
  | .retire _ _ pl => payloadFits pl
  | .rekey _ _ pl => payloadFits pl
  | .setAuthorityCredential _ _ pl =>
    payloadFits pl && !(authorityOperation pl == 2) && !(authorityOperation pl == 3)
      && !(authorityOperation pl == 4) && !(authorityOperation pl == 5)
  | .setAuthorityLimit _ _ pl => payloadFits pl && authorityOperation pl == 2
  | .setAuthorityEnable _ _ pl => payloadFits pl && authorityOperation pl == 3
  | .setAuthorityDisable _ _ pl => payloadFits pl && authorityOperation pl == 4
  | .setAuthorityReinstate _ _ pl => payloadFits pl && authorityOperation pl == 5
  | .setPolicy _ _ pl => payloadFits pl
  | .freezePolicy _ _ pl => payloadFits pl
  | .wipe _ _ pl => payloadFits pl
  | .revert _ _ pl => payloadFits pl
  | .scrubTake _ _ pl => payloadFits pl
  | .scrubDone _ _ pl => payloadFits pl
  | .scrubPause _ _ pl => payloadFits pl
  | .scrubResume _ _ pl => payloadFits pl
  | .laneHold _ _ pl => payloadFits pl
  | .laneRelease _ _ pl => payloadFits pl
  | .restart _ _ pl => payloadFits pl
  | .restartTakesEffect => true
  | .status _ _ pl => payloadFits pl
  | .fetch _ _ pl => payloadFits pl
  | .pair _ _ pl => payloadFits pl
  | .challenge _ _ pl => payloadFits pl
  | .checkIn _ _ pl => payloadFits pl
  | .wipeOrder _ _ pl => payloadFits pl
  | .garbledFrame _ bytes => readFrame bytes = .garbled
  | .unknownKind _ kind _ pl => payloadFits pl && (ReqKind.ofCode kind).isNone
  | .linkBreak _ bytes => readFrame bytes = .linkBreak
  | .frameOverUnreadReply _ bytes => !decide (readFrame bytes = .linkBreak)
  | .readTransaction _ _ => true
  | .laneSlotStart => true
  | .loadSlotEnd _ => true
  | .clearSlotEnd _ => true
  | .probeSlotEnd _ => true
  | .turnSlotEnd _ => true
  | .slotAnswerWindowExpiry => true
  | .commitComplete => true
  | .supplyWarningAsserted => true
  | .supplyWarningDeasserted => true
  | .startInstant _ => true
  | .powerLoss => true
  | .backoffExpiry _ => true
  | .pairingWindowExpiry => true
  | .checkinClockAdvance => true
  | .checkinWarning => true
  | .checkinExpired => true
  | .escalationClockAdvance => true
  | .escalation => true

end Sys2Proof
end

