-- ==== Sys2Proof/Safety.lean ====
section
/-!
DEFINITION. The terms that claims about the machine are stated in: a port ready for a request, the port
state a reply leaves, a request at the end of its check or of its last commit, the presented drive read one
sector at a time, and the bounds that every step keeps.
-/

namespace Sys2Proof.Machine

open Sys2Proof

/-! ## Ports -/

/-- The device has power, the port's reply slot is empty, and no RESTART taken on it is still to take effect:
a complete frame is taken. -/
def State.Hears (s : State) (p : Port) : Prop :=
  s.powered = true ∧ (s.port p).replySlot = none ∧ s.restartOn p = none

/-- The port takes frames and has nothing in flight. -/
def State.Ready (s : State) (p : Port) : Prop := s.Hears p ∧ (s.port p).inFlight = none

/-- A port after a request transaction. -/
def PortState.heard (q : PortState) : PortState := { q with rxBuffer := [], dataOut := [] }

/-- A port after a request's transaction and its reply. -/
def PortState.answered (q : PortState) (k : ReqKind) (tag : Byte) (b : ReplyBody) : PortState :=
  { q.heard with replySlot := some ⟨k.code + 0x80, tag, b⟩ }

/-- A port after a request's transaction, the request in flight. -/
def PortState.flying (q : PortState) (k : ReqKind) (tag : Byte) (w : Work) : PortState :=
  { q.heard with inFlight := some ⟨k, tag, w⟩ }

/-- A port whose request in flight has been answered into the empty slot. -/
def PortState.finished (q : PortState) (k : ReqKind) (tag : Byte) (b : ReplyBody) : PortState :=
  { q with replySlot := some ⟨k.code + 0x80, tag, b⟩, inFlight := none }

/-- A port whose request in flight waits for its commits. -/
def PortState.committing (q : PortState) (k : ReqKind) (tag : Byte) : PortState :=
  { q with inFlight := some ⟨k, tag, .committing⟩ }

/-- The PRESENTATION_CHANGED notice of an event. -/
def changed (e : Epoch) (c : Custody) : Notice := ⟨.presentationChanged, none, none, e, c⟩

/-! ## Requests on their way -/

/-- The refund of a request on the Drive Port is the one entry of the store, under way. -/
def State.AtRefund (s : State) (k : ReqKind) (tag : Byte) (a : AuthId) (req : CredReq) (t : TriesRec) :
    Prop :=
  s.Hears .drive ∧ s.drive.inFlight = some ⟨k, tag, .refunding a req⟩ ∧
    s.queue = [triesEntry t [.refunded]] ∧ s.held = []

/-- The state in which a request goes on: its refund stored, its authority's backoff 0 (R77). -/
def State.refundTaken (s : State) (a : AuthId) (t : TriesRec) : State :=
  { s with
    store := { s.store with tries := t }
    tries := t
    backoff := s.backoff.set a.val 0 a.isLt
    queue := [] }

/-- The last commit of a request is the one entry of the store, under way. -/
def State.AtCommit (s : State) (p : Port) (k : ReqKind) (tag : Byte) (e : Entry) : Prop :=
  s.Hears p ∧ (s.port p).inFlight = some ⟨k, tag, .committing⟩ ∧ s.queue = [e] ∧ s.held = []

/-- What a request that reaches its credential check comes to: the first gate that fails (R75), the store's
refusal of the charge (R153), or the charge with the request in flight (R76).  With a full queue the charge
is refused where no waiting entry takes it; with an empty one it is entered. -/
def State.Checks (s : State) (k : ReqKind) (tag : Byte) (a : AuthId) (credential : Secret) (req : CredReq)
    (o : Host.Outcome State Fault Refusal) : Prop :=
  let answer (b : ReplyBody) : Host.Outcome State Fault Refusal :=
    .next { s with drive := s.drive.answered k tag b }
  let stored := s.authorities[a.val].stored
  let locked := s.tries.lockout[a.val]
  let wait := s.backoff[a.val]
  let hidden : Prop := s.custody.state = .concealed
  let inUse : Prop := s.custody.state = .guarded ∨ s.custody.state = .warned
  (¬inUse → ¬hidden → o = answer (.code .state)) ∧
  (inUse ∨ hidden →
    (stored = .unset ∨ stored = .disabled → o = answer (.code .denied)) ∧
    (stored = .active →
      (locked = true → o = answer (.code .lockedOut)) ∧
      (locked = false → wait ≠ 0 → o = answer (.tooSoon wait)) ∧
      (locked = false → wait = 0 → hidden → a ≠ 7 → o = answer (.code .state)) ∧
      (locked = false → wait = 0 → inUse ∨ a = 7 →
        (s.supplyWarning = true → o = answer (.code .deferred)) ∧
        (s.supplyWarning = false →
          (4 ≤ nonFinal s.queue ∨ s.held ≠ [] →
            (∀ e ∈ s.queue.tail, ∀ w ∈ e.writes, w.record ≠ some .tries) → o = answer (.code .busy)) ∧
          (s.queue = [] → s.held = [] → o =
            .next { s with
              queue := [⟨.single .tries, [.tries (s.chargedTries a)], [.charged]⟩]
              drive := s.drive.flying k tag (.charging a credential req) })))))

/-- No LANE_HOLD waits for the end of the slot in progress (R67). -/
def State.NoHold (s : State) : Prop := ∀ f b, s.drive.inFlight = some f → f.work ≠ .holding b

/-- A lane slot has begun on the link that is UP: its lane, that lane's record, what was sent; and no
LANE_HOLD waits for its end. -/
def State.InSlot (s : State) (n : Nat) (l : LaneRec) (sent : Sent) : Prop :=
  s.powered = true ∧ s.lane.link = .up ∧ s.lane.position = .lane n ∧ s.laneAt n = some l ∧
    s.lane.sent = some sent ∧ s.NoHold

/-- The Lane Controller after a slot: the next slot is due. -/
def LaneCtl.after (c : LaneCtl) (lanes : List LaneRec) (n : Nat) : LaneCtl :=
  { c with
    lanes := lanes
    position := if n + 1 < c.lanes.length then .lane (n + 1) else .turn
    sent := none }

/-! ## The presented drive, sector by sector (chapter 2) -/

/-- What one presented sector resolves to.  A PASS sector is named by its lane and media address. -/
structure Sector where
  disposition : Disposition
  range : Option RangeId
  lane : Option Nat
  media : Option Nat
  deriving DecidableEq, Repr

/-- A sector of a disposition that names no lane and no media address. -/
def Sector.plain (d : Disposition) (r : Option RangeId) : Sector := ⟨d, r, none, none⟩

/-- One presented sector: capacity, mode, translation, attribution, disposition (R29 to R36). -/
def State.sector (s : State) (op : MediaOp) (q : Nat) : Sector :=
  if s.capacity ≤ q then .plain .beyond none
  else
    match s.mode, op with
    | .blank, .read => .plain .zero none
    | .blank, .write => .plain .refuseLocked (some 0)
    | .overlay, .read =>
      if q < s.imageSectors then ⟨.image, none, none, some (s.userSectors + q)⟩ else .plain .zero none
    | .overlay, .write => .plain .refuseLocked (some 0)
    | .normal, _ =>
      let m := s.translate q
      let r := s.rangeOf m
      match s.disposition op r with
      | .pass => ⟨.pass, none, (s.range r).lane, some m⟩
      | .zero => .plain .zero none
      | d => .plain d (some r)

/-- The sectors of a fragment, in presented order. -/
def Fragment.sectors (f : Fragment) : List Sector :=
  (List.range f.count).map fun i =>
    ⟨f.disposition, if f.disposition = .pass then none else f.range, f.lane, f.media.map (· + i)⟩

/-! ## Bounds that every step keeps -/

/-- Each notice queue holds at most 8 notices (R180). -/
def State.noticesFit (s : State) : Prop := s.drive.notices.length ≤ 8 ∧ s.platform.notices.length ≤ 8

/-- The commit queue holds at most 4 entries apart from final checkpoints (R151). -/
def State.queueFits (s : State) : Prop := nonFinal s.queue ≤ 4

/-- There are 4 to 16 lane records, each with at most three votes (R51). -/
def State.lanesFit (s : State) : Prop :=
  4 ≤ s.lane.lanes.length ∧ s.lane.lanes.length ≤ 16 ∧ ∀ l ∈ s.lane.lanes, l.votes.length ≤ 3

/-- A range without a right has no holder (R7). -/
def State.holdersFit (s : State) : Prop :=
  ∀ r : RangeId, (s.range r).hasRight = false → (s.range r).holder = none

/-- At most 4 orders are outstanding (R138). -/
def State.ordersFit (s : State) : Prop := ∀ j, s.scrub.job = some j → j.orders.length ≤ 4

/-- A Range record that is no hidden range 0: range 0 is SHOWN always (R2). -/
def shownIfGlobal (r : RangeId) (c : Option RangeRec) : Prop :=
  r = 0 → ∀ x, c = some x → x.visibility = .shown

/-- A write keeps range 0 SHOWN. -/
def RecordWrite.keepsGlobalShown : RecordWrite → Prop
  | .range r c => shownIfGlobal r c
  | _ => True

/-- A credentialed request keeps range 0 SHOWN. -/
def CredReq.keepsGlobalShown : CredReq → Prop
  | .setRange r _ _ v _ => r = 0 → v = .shown
  | _ => True

/-- The work of a request in flight keeps range 0 SHOWN. -/
def Work.keepsGlobalShown : Work → Prop
  | .charging _ _ req => req.keepsGlobalShown
  | .refunding _ req => req.keepsGlobalShown
  | _ => True

/-- Range 0 is SHOWN, live and stored, and no write or request under way hides it (R2). -/
def State.globalShown (s : State) : Prop :=
  shownIfGlobal 0 (s.range 0).stored ∧ shownIfGlobal 0 s.store.ranges[0] ∧
    (∀ e ∈ s.queue ++ s.held, ∀ w ∈ e.writes, w.keepsGlobalShown) ∧
    ∀ f, s.drive.inFlight = some f → f.work.keepsGlobalShown

/-- An access list that holds the Administrator (R10). -/
def listsAdmin (c : Option RangeRec) : Prop := ∀ x, c = some x → x.access[0] = true

/-- A write keeps the Administrator in every access list. -/
def RecordWrite.listsAdmin : RecordWrite → Prop
  | .range _ c => Machine.listsAdmin c
  | _ => True

/-- The work of a request in flight takes no access list from the Administrator (R17). -/
def Work.listsAdmin : Work → Prop
  | .charging _ _ (.revoke _ t) => t ≠ 0
  | .refunding _ (.revoke _ t) => t ≠ 0
  | _ => True

/-- The Administrator is in every access list, live, stored and on the way to the store (R10). -/
def State.adminListed (s : State) : Prop :=
  (∀ r : RangeId, listsAdmin (s.range r).stored ∧ listsAdmin s.store.ranges[r.val]) ∧
    (∀ e ∈ s.queue ++ s.held, ∀ w ∈ e.writes, w.listsAdmin) ∧
    ∀ f, s.drive.inFlight = some f → f.work.listsAdmin

/-! ## Placement (R10) -/

/-- A Range record of an explicit range, live or stored. -/
def State.places (s : State) (r : RangeId) (c : RangeRec) : Prop :=
  r ≠ 0 ∧ ((s.range r).stored = some c ∨ s.store.ranges[r.val] = some c)

/-- An extent of whole granules inside [0, U). -/
def State.fitsUser (s : State) (c : RangeRec) : Prop :=
  1 ≤ c.length ∧ c.start + c.length ≤ s.userSectors / 8

/-- Two extents that share no granule. -/
def RangeRec.apart (c d : RangeRec) : Prop :=
  c.start + c.length ≤ d.start ∨ d.start + d.length ≤ c.start

/-- Every explicit range, live and stored, lies inside [0, U), and no two of them overlap; the geometry in
force is the stored one (R8, R10). -/
def State.placed (s : State) : Prop :=
  s.store.identity.geometry = s.geometry ∧ (∀ r c, s.places r c → s.fitsUser c) ∧
    ∀ r q c d, r ≠ q → s.places r c → s.places q d → c.apart d

/-- An entry whose Range record fits beside every other range, as SET_RANGE's checks leave it (R11), and
whose Identity record, if it has one, is the first geometry and comes into force. -/
def Entry.settled (s : State) (e : Entry) : Prop :=
  (∀ r c, RecordWrite.range r (some c) ∈ e.writes → r ≠ 0 →
    s.fitsUser c ∧ (∀ q d, q ≠ r → s.places q d → c.apart d) ∧
      ∀ q d, RecordWrite.range q (some d) ∈ e.writes → q = r ∨ q = 0) ∧
    ∀ i, RecordWrite.identity i ∈ e.writes → s.geometry = none ∧ .geometryStored ∈ e.acts

/-- Every stored range is live, with the extent it is stored with. -/
def State.storedAreLive (s : State) : Prop :=
  ∀ r : RangeId, r ≠ 0 → ∀ c, s.store.ranges[r.val] = some c →
    ∃ d, (s.range r).stored = some d ∧ d.start = c.start ∧ d.length = c.length

/-! ## Bounds together -/

/-- The bounds of the queues that the device keeps for its partners and its store. -/
def State.queuesBounded (s : State) : Prop := s.noticesFit ∧ s.queueFits

/-- The bounds of the blocks' own tables, range 0 SHOWN, and the Administrator in every access list. -/
def State.tablesBounded (s : State) : Prop :=
  s.lanesFit ∧ s.holdersFit ∧ s.ordersFit ∧ s.globalShown ∧ s.adminListed

end Sys2Proof.Machine
end

