-- ==== Sys2Proof/Certificates/Slice0/Obligations.lean ====
section
/-!
DEFINITION. The statements about the machine, for the provers.
-/

open Sys2Proof Sys2Proof.Machine

/-! ## Frames and ports -/

/-- A step with a command waiting is that command's meaning on the state with the queue's rest. -/
def Obligations.StepRunsTheFrontCommand : Prop :=
  ∀ (s : State) (c : Instr) (rest : List Instr), s.pending = c :: rest →
    step s = exec c { s with pending := rest }

/-- With no command waiting a step is one second of powered time, and nothing without power: the model's
choice, log entry 5; backoff counts down by R81. -/
def Obligations.IdleStepIsOneSecond : Prop :=
  ∀ s : State, s.pending = [] →
    (s.powered = false → step s = .next s) ∧
    (s.powered = true → ∃ t, step s = .next t ∧ t.pending = [] ∧ t.store = s.store ∧
      (∀ a : AuthId, t.backoff[a.val] = s.backoff[a.val] - 1) ∧
      (s.checkinCounting = false → t.custody.checkin = s.custody.checkin) ∧
      (s.checkinCounting = true → s.custody.checkinSecs < 59 →
        t.custody.checkin = s.custody.checkin ∧ t.custody.checkinSecs = s.custody.checkinSecs + 1))

/-- A transaction that carries a frame of sync, kind, tag, length, payload and check reads back as that
frame, whatever bytes follow the check bytes; cut before its last check byte it is a link break
(R173, R175). -/
def Obligations.FrameReadsBack : Prop :=
  ∀ (kind tag : Byte) (payload : List Byte), payload.length ≤ 256 →
    (∀ rest, readFrame (frameBytes kind tag payload ++ rest) = .frame kind tag payload) ∧
    (∀ n < (frameBytes kind tag payload).length,
      readFrame ((frameBytes kind tag payload).take n) = .linkBreak)

/-- A Drive Port transaction that carries a request's frame brings that request's command while the reply
slot is empty, and a discarded frame while it is full. -/
def Obligations.RequestFrameIsItsCommand : Prop :=
  ∀ (k : ReqKind) (tag : Byte) (payload : List Byte), payload.length ≤ 256 →
    commandOfDriveTransaction false (frameBytes k.code tag payload) =
        requestCommand k .drive tag payload ∧
      commandOfDriveTransaction true (frameBytes k.code tag payload) =
        .frameOverUnreadReply .drive (frameBytes k.code tag payload)

/-- A frame refused by R175 is answered GARBLED with kind 0xFF and tag 0, a frame of no request kind
UNKNOWN_KIND with its kind plus 0x80, or unchanged from 0x80 up; a link break, and any complete frame over
an unread reply, is discarded.  Every byte sent meanwhile is the filler, and nothing else changes (R173,
R175, R176, R185). -/
def Obligations.FramesThatReachNoOwner : Prop :=
  ∀ (s : State) (p : Port), s.powered = true → s.restartOn p = none →
    let discarded : Host.Outcome State Fault Refusal := .next (s.setPort p (s.port p).heard)
    let answered (r : Reply) : Host.Outcome State Fault Refusal :=
      .next (s.setPort p { (s.port p).heard with replySlot := some r })
    (∀ i, (s.port p).heard.outByte i = 0) ∧
    (∀ bytes, exec (.linkBreak p bytes) s = discarded) ∧
    ((s.port p).replySlot = none →
      (∀ bytes, exec (.garbledFrame p bytes) s = answered ⟨0xFF, 0, .code .garbled⟩) ∧
      (∀ kind tag pl, exec (.unknownKind p kind tag pl) s =
        answered ⟨if kind.toNat < 0x80 then kind + 0x80 else kind, tag, .code .unknownKind⟩)) ∧
    ((s.port p).replySlot.isSome = true →
      (∀ bytes, exec (.frameOverUnreadReply p bytes) s = discarded ∧
        exec (.garbledFrame p bytes) s = discarded) ∧
      (∀ kind tag pl, exec (.unknownKind p kind tag pl) s = discarded) ∧
      (∀ k tag pl, exec (requestCommand k p tag pl) s = discarded))

/-- The port's checks of a taken frame: a kind not served on the port, a length its kind does not admit, a
request in flight; each answered by a code alone, with no other effect (R176, R177). -/
def Obligations.PortChecksAnswerInOrder : Prop :=
  ∀ (s : State) (k : ReqKind) (p : Port) (tag : Byte) (pl : List Byte), s.Hears p →
    let answer (r : Result) : Host.Outcome State Fault Refusal :=
      .next (s.setPort p ((s.port p).answered k tag (.code r)))
    (servedOn k p = false → exec (requestCommand k p tag pl) s = answer .wrongPort) ∧
    (servedOn k p = true → admitsLength k pl = false →
      exec (requestCommand k p tag pl) s = answer .badLength) ∧
    (servedOn k p = true → admitsLength k pl = true → (s.port p).inFlight.isSome = true →
      k ≠ .resolve → k ≠ .status → exec (requestCommand k p tag pl) s = answer .busy)

/-- A read transaction: the empty-slot answer, a read cut short that leaves the reply, and a whole read
that empties the slot and lets a deferred reply in, with the in-flight marker none; the bytes sent are the
reply's, then the filler (R174, R185). -/
def Obligations.ReadTransactionTakesTheReply : Prop :=
  ∀ (s : State) (p : Port) (n : Nat), s.powered = true → s.restartOn p = none →
    ((s.port p).replySlot = none →
      let q : PortState := { s.port p with dataOut := [] }
      exec (.readTransaction p n) s = .next (s.setPort p q) ∧ ∀ i, q.outByte i = 0) ∧
    (∀ r, (s.port p).replySlot = some r →
      let q : PortState := { s.port p with dataOut := r.bytes.take n }
      (∀ i < n, q.outByte i = r.bytes.getD i 0) ∧
      (n < r.bytes.length → exec (.readTransaction p n) s = .next (s.setPort p q)) ∧
      (r.bytes.length ≤ n → (s.port p).deferred = none → exec (.readTransaction p n) s =
        .next (s.setPort p { q with replySlot := none })) ∧
      (∀ d, r.bytes.length ≤ n → (s.port p).deferred = some d → exec (.readTransaction p n) s =
        .next (s.setPort p { q with replySlot := some d, deferred := none, inFlight := none })))

/-- STATUS on either port, with anything in flight: the report of R184, and the start cause made NONE by
an acknowledge flag after its value is read (R161); a flag above 1 is BAD_VALUE (R186). -/
def Obligations.StatusReportsAndAcknowledges : Prop :=
  ∀ (s : State) (p : Port) (tag flag : Byte), s.Hears p →
    let report : StatusReport :=
      { custody := s.custody.state, mode := s.mode, epoch := s.epoch, link := s.lane.link
        lanes := s.lane.lanes.length, job := s.scrub.job.map fun j => j.journal.kind
        cursor := s.scrub.job.map fun j => j.journal.cursor
        stop := s.scrub.job.map fun j => j.journal.stop
        waiting := s.scrub.waiting.length, depth := s.queue.length
        supplyWarning := s.supplyWarning, verdict := s.custody.verdict, cause := s.startCause }
    let t := s.setPort p ((s.port p).answered .status tag (.status report))
    (flag = 0 → exec (.status p tag [flag]) s = .next t) ∧
    (flag = 1 → exec (.status p tag [flag]) s = .next { t with startCause := .none }) ∧
    (1 < flag.toNat → exec (.status p tag [flag]) s =
      .next (s.setPort p ((s.port p).answered .status tag (.code .badValue))))

/-- FETCH removes the oldest notices of its own port, up to 4, reports them, the number still queued and
the overflow mark, and clears the mark; with a request in flight on the port it is answered BUSY (R182). -/
def Obligations.FetchTakesTheOldestNotices : Prop :=
  ∀ (s : State) (p : Port) (tag : Byte),
    (s.Ready p → exec (.fetch p tag []) s =
      .next (s.setPort p
        { (s.port p).answered .fetch tag
            (.notices ((s.port p).notices.take 4) ((s.port p).notices.length - 4) (s.port p).overflow) with
          notices := (s.port p).notices.drop 4, overflow := false })) ∧
    (s.Hears p → (s.port p).inFlight.isSome = true → exec (.fetch p tag []) s =
      .next (s.setPort p ((s.port p).answered .fetch tag (.code .busy))))

/-- Whenever an event other than a start, a loss of power or RESTART's effect, which the event of a Drive Port
transaction may hold (log entry 11), changes the epoch, it queues a PRESENTATION_CHANGED notice of the new epoch on
the Drive Port, behind which every notice carries that epoch, or the overflow mark is set (R22, R180, R181). -/
def Obligations.EpochChangesAreNoticed : Prop :=
  ∀ (c : Instr) (s t : State), exec c s = .next t →
    (∀ kept, c ≠ .startInstant kept) → c ≠ .powerLoss →
    s.restartPending = none ∨ t.restartPending.isSome = true → t.epoch ≠ s.epoch →
    t.drive.overflow = true ∨
      ∃ ahead behind, t.drive.notices = ahead ++ changed t.epoch t.custody.state :: behind ∧
        s.drive.notices.length ≤ ahead.length ∧ ∀ n ∈ behind, n.epoch = t.epoch

/-! ## Resolution -/

/-- RESOLVE answers at once with the fragments of its extent, at most 8 of them, the sectors they cover
and the resume point, or with BAD_VALUE or STATE; it changes nothing else (R24, R26, R39, R41). -/
def Obligations.ResolveAnswersAtOnce : Prop :=
  ∀ (s : State) (tag : Byte) (pl : List Byte), s.Hears .drive → pl.length = 9 →
    let answer (b : ReplyBody) : Host.Outcome State Fault Refusal :=
      .next { s with drive := s.drive.answered .resolve tag b }
    (1 < byteAt pl 0 → exec (.resolve .drive tag pl) s = answer (.epoch .badValue s.epoch)) ∧
    (byteAt pl 0 ≤ 1 → s.geometry = none →
      exec (.resolve .drive tag pl) s = answer (.epoch .state s.epoch)) ∧
    (s.geometry.isSome = true → ∀ op, byteAt pl 0 = (match op with | .read => 0 | .write => 1) →
      let start := leNat ((pl.drop 1).take 6)
      let n := leNat (pl.drop 7) + 1
      let fs := (s.fragments op start n).take 8
      let k := (fs.map fun f => f.count).sum
      exec (.resolve .drive tag pl) s =
        answer (.resolved s.epoch fs k (if k = n then none else some (start + k))))

/-- Every sector of a resolution is what its own presented address resolves to: the fragments before the
limit of 8, read sector by sector, are the per-sector stages of capacity, mode, translation, attribution
and disposition, in presented order.  Capacity is user media less the concealed extents (R9); a media
sector belongs to the explicit range whose extent holds it and otherwise to range 0 (R2, R35); a VOID or
BLANK range is ZERO or REFUSE_ERASED, an ACTIVE one REFUSE_LOCKED without the needed right, PASS with it on
a LOADED lane of the UP link, and WAIT otherwise (R35, R36). -/
def Obligations.ResolutionAgreesSectorBySector : Prop :=
  ∀ (s : State) (op : MediaOp),
    let concealed (r : RangeId) (c : RangeRec) : Prop := (s.range r).stored = some c ∧
      c.visibility = .hiddenWhileLocked ∧ (s.range r).read = false ∧ s.mode ≠ .blank
    let covers (r : RangeId) (m : Nat) : Prop := r ≠ 0 ∧ ∃ c, (s.range r).stored = some c ∧
      c.start * 8 ≤ m ∧ m < (c.start + c.length) * 8
    let right (r : RangeId) : Bool := match op with
      | .read => (s.range r).read
      | .write => (s.range r).write
    let loaded (r : RangeId) : Prop :=
      ∃ n l, (s.range r).lane = some n ∧ s.laneAt n = some l ∧ l.state = .loaded
    (∀ start n, s.isConcealed 0 = false → (s.fragments op start n).flatMap Fragment.sectors =
      (List.range n).map fun i => s.sector op (start + i)) ∧
    (∀ size : RangeId → Nat,
      (∀ r c, concealed r c → size r = c.length * 8) →
      (∀ r, (∀ c, ¬concealed r c) → size r = 0) →
      s.capacity = (match s.geometry with | some g => g.capacity - g.image | none => 0) -
        ((List.finRange 16).map size).sum) ∧
    (∀ m, (∀ r, covers r m → (∀ q, covers q m → q = r) → s.rangeOf m = r) ∧
      ((∀ r, ¬covers r m) → s.rangeOf m = 0)) ∧
    ∀ r c, (s.range r).stored = some c →
      (c.state = .void ∨ c.state = .blank → s.disposition op r =
        match op with | .read => .zero | .write => .refuseErased) ∧
      (c.state = .active →
        (right r = false → s.disposition op r = .refuseLocked) ∧
        (right r = true → loaded r → s.lane.link = .up → s.disposition op r = .pass) ∧
        (right r = true → ¬loaded r ∨ s.lane.link ≠ .up → s.disposition op r = .wait))

/-- No two neighbouring fragments of a resolution are one of the six pairings that merge (R38); each has
sectors, and a PASS fragment names the range of the sector its media start is (R27). -/
def Obligations.FragmentsAreFullyMerged : Prop :=
  ∀ (s : State) (op : MediaOp) (start n : Nat),
    let both (d : Disposition) (a b : Fragment) : Prop := a.disposition = d ∧ b.disposition = d
    let merge (a b : Fragment) : Prop :=
      both .zero a b ∨
      (both .pass a b ∧ a.lane = b.lane ∧ ∃ m, a.media = some m ∧ b.media = some (m + a.count)) ∨
      (both .wait a b ∧ a.range = b.range) ∨
      (both .refuseLocked a b ∧ a.range = b.range) ∨
      (both .refuseErased a b ∧ a.range = b.range) ∨
      both .image a b
    ((s.fragments op start n).IsChain fun a b => ¬merge a b) ∧
    (0 < n → ∀ f ∈ s.fragments op start n, 0 < f.count) ∧
    ∀ f ∈ s.fragments op start n, f.disposition = .pass →
      ∃ m, f.media = some m ∧ f.range = some (s.rangeOf m)

/-- Translation (R33): the walk over the concealed ranges in ascending order of media start, which stops at
the first whose start exceeds the address reached; it keeps order and lands in no concealed range; and over
ranges that do not overlap and lie in user media it maps [0, C) one-to-one onto the media addresses of
[0, U) that lie in no concealed range, with the reverse relation of the rule. -/
def Obligations.TranslationIsOneToOne : Prop :=
  ∀ s : State,
    let hidden := s.concealedExtents
    let h := sortSpans hidden
    let passed (k : Nat) : Nat := ((h.take k).map fun x => x.2).sum
    let inside (x : Nat × Nat) (m : Nat) : Prop := x.1 ≤ m ∧ m < x.1 + x.2
    (∀ x, x ∈ hidden ↔ ∃ r c, s.isConcealed r = true ∧ (s.range r).stored = some c ∧
      x = (c.start * 8, c.length * 8)) ∧
    h.Perm hidden ∧ (h.Pairwise fun x y => x.1 ≤ y.1) ∧
    (∀ p, ∃ k ≤ h.length, s.translate p = p + passed k ∧
      (∀ i < k, ∀ x, h[i]? = some x → x.1 ≤ p + passed i) ∧
      ∀ x, h[k]? = some x → s.translate p < x.1) ∧
    (∀ p q : Nat, p < q → s.translate p < s.translate q) ∧
    (∀ x ∈ hidden, ∀ p, ¬inside x (s.translate p)) ∧
    ((hidden.Pairwise fun x y => x.1 + x.2 ≤ y.1 ∨ y.1 + y.2 ≤ x.1) →
      (∀ x ∈ hidden, x.1 + x.2 ≤ s.userSectors) →
      (∀ p < s.capacity, s.translate p < s.userSectors) ∧
      ∀ m < s.userSectors, (∀ x ∈ hidden, ¬inside x m) →
        let p := m - ((hidden.filter fun x => decide (x.1 < m)).map fun x => x.2).sum
        p < s.capacity ∧ s.translate p = m)

/-! ## The Range Table -/

/-- PRESENT in OVERLAY makes the mode NORMAL with one epoch increment and its notice; in NORMAL it is
answered OK and in BLANK STATE, with the epoch and no change (R19). -/
def Obligations.PresentShowsTheDrive : Prop :=
  ∀ (s : State) (tag : Byte), s.Ready .drive →
    let q (r : Result) (e : Epoch) : PortState := s.drive.answered .present tag (.epoch r e)
    (s.mode = .overlay → exec (.present .drive tag []) s =
      .next { s with
        mode := .normal, epoch := s.epoch + 1
        drive := (q .ok (s.epoch + 1)).push (changed (s.epoch + 1) s.custody.state) }) ∧
    (s.mode = .normal → exec (.present .drive tag []) s = .next { s with drive := q .ok s.epoch }) ∧
    (s.mode = .blank → exec (.present .drive tag []) s = .next { s with drive := q .state s.epoch })

/-- GEOMETRY: STATE outside OPEN or with geometry present, BAD_VALUE outside the bounds of M and I,
DEFERRED under Supply Warning, BUSY where no entry takes its write, and otherwise one Identity entry with the
request in flight; its completion puts the geometry in force with one epoch increment and the reply OK (R8,
R153). -/
def Obligations.GeometryIsSetOnce : Prop :=
  ∀ (s : State) (tag : Byte) (pl : List Byte), pl.length = 10 →
    let m := leNat (pl.take 6)
    let i := leNat (pl.drop 6)
    let legal : Prop :=
      65536 ≤ m ∧ m ≤ 2 ^ 40 ∧ m % 8 = 0 ∧ i ≤ 262144 ∧ i % 8 = 0 ∧ i * 2 < m
    let answer (r : Result) : Host.Outcome State Fault Refusal :=
      .next { s with drive := s.drive.answered .geometry tag (.code r) }
    let entry : Entry :=
      ⟨.single .identity, [.identity ⟨some ⟨m, i⟩, s.rootKey⟩], [.geometryStored, .answer .drive .epoch]⟩
    (s.Ready .drive →
      (s.custody.state ≠ .opened ∨ s.geometry.isSome = true →
        exec (.geometry .drive tag pl) s = answer .state) ∧
      (s.custody.state = .opened → s.geometry = none →
        (¬legal → exec (.geometry .drive tag pl) s = answer .badValue) ∧
        (legal →
          (s.supplyWarning = true → exec (.geometry .drive tag pl) s = answer .deferred) ∧
          (s.supplyWarning = false →
            (4 ≤ nonFinal s.queue ∨ s.held ≠ [] →
              (∀ e ∈ s.queue.tail, ∀ x ∈ e.writes, x.record ≠ some .identity) →
              exec (.geometry .drive tag pl) s = answer .busy) ∧
            (s.queue = [] → s.held = [] → exec (.geometry .drive tag pl) s =
              .next { s with
                queue := [entry]
                drive := s.drive.flying .geometry tag .committing }))))) ∧
    (s.AtCommit .drive .geometry tag entry → exec .commitComplete s =
      .next { s with
        store := { s.store with identity := ⟨some ⟨m, i⟩, s.rootKey⟩ }
        geometry := some ⟨m, i⟩, epoch := s.epoch + 1, queue := []
        drive := (s.drive.finished .geometry tag (.epoch .ok (s.epoch + 1))).push
          (changed (s.epoch + 1) s.custody.state) })

/-- SET_RANGE after its check (R11 steps 5 to 8): the reason it is refused for, with the Range Table
unchanged. -/
def Obligations.SetRangeIsRefusedInOrder : Prop :=
  ∀ (s : State) (tag : Byte) (t : TriesRec) (r : RangeId) (start length : Nat) (v : Visibility)
    (p : SleepPolicy), s.AtRefund .setRange tag 0 (.setRange r start length v p) t →
    let answer (x : Result) : Host.Outcome State Fault Refusal :=
      .next { s.refundTaken 0 t with drive := s.drive.finished .setRange tag (.code x) }
    let inUse : Prop := s.custody.state = .guarded ∨ s.custody.state = .warned
    let fits : Prop := r = 0 ∨ 1 ≤ length ∧ start + length ≤ s.userSectors / 8
    let overlap : Prop := r ≠ 0 ∧ ∃ q c, q ≠ 0 ∧ q ≠ r ∧ (s.range q).stored = some c ∧
      start < c.start + c.length ∧ c.start < start + length
    let stuck : Prop := ∃ c, (s.range r).stored = some c ∧ (c.start ≠ start ∨ c.length ≠ length) ∧
      (c.state = .void ∨ c.state = .active ∧ (s.range r).hasRight = true)
    (¬inUse → exec .commitComplete s = answer .state) ∧
    (inUse → ¬fits → exec .commitComplete s = answer .badValue) ∧
    (inUse → fits → overlap → exec .commitComplete s = answer .overlap) ∧
    (inUse → fits → ¬overlap → stuck → exec .commitComplete s = answer .state)

/-- SET_RANGE past its checks: a new range enters its Key record, freshly drawn, then its Range record; a
present one enters its edited Range record; when the Range record completes, the entry is ACTIVE with the
key and no right, or edited with the epoch kept unless its extent or the concealed set changed
(R12, R13). -/
def Obligations.SetRangeDefinesAndEdits : Prop :=
  ∀ (s : State) (tag : Byte) (r : RangeId) (start length : Nat) (v : Visibility) (p : SleepPolicy),
    (∀ t, s.AtRefund .setRange tag 0 (.setRange r start length v p) t →
      (s.custody.state = .guarded ∨ s.custody.state = .warned) → s.supplyWarning = false →
      (r = 0 ∨ 1 ≤ length ∧ start + length ≤ s.userSectors / 8) →
      (r ≠ 0 → ∀ q c, q ≠ 0 → q ≠ r → (s.range q).stored = some c →
        c.start + c.length ≤ start ∨ start + length ≤ c.start) →
      let k := Config.randomSecret s.draws
      let key : KeyRec :=
        ⟨s.keys[r.val].generation + 1, some (Config.wrapKey s.rootKey k, Config.checkFunction k)⟩
      ((s.range r).stored = none → exec .commitComplete s =
        .next { s.refundTaken 0 t with
          draws := s.draws + 1
          queue :=
            [⟨.single (.key r), [.key r key], []⟩,
             ⟨.single (.range r), [.range r (some ⟨start, length, v, .active, adminOnly, p⟩)],
               [.rangeDefined r, .answer .drive .epoch]⟩]
          drive := s.drive.committing .setRange tag }) ∧
      (∀ c, (s.range r).stored = some c →
        (c.start = start ∧ c.length = length ∨ c.state = .blank ∨
          c.state = .active ∧ (s.range r).hasRight = false) →
        exec .commitComplete s =
          .next { s.refundTaken 0 t with
            queue :=
              [⟨.single (.range r),
                [.range r (some { c with start, length, visibility := v, sleep := p })],
                [.rangeEdited r, .answer .drive .epoch]⟩]
            drive := s.drive.committing .setRange tag })) ∧
    (∀ c, s.AtCommit .drive .setRange tag
        ⟨.single (.range r), [.range r (some c)], [.rangeDefined r, .answer .drive .epoch]⟩ →
      exec .commitComplete s =
        .next { s with
          store := { s.store with ranges := s.store.ranges.set r.val (some c) r.isLt }
          ranges := s.ranges.set r.val ⟨some c, false, false, none, none⟩ r.isLt
          keys := s.keys.set r.val s.store.keys[r.val] r.isLt
          epoch := s.epoch + 1, queue := []
          drive := (s.drive.finished .setRange tag (.epoch .ok (s.epoch + 1))).push
            (changed (s.epoch + 1) s.custody.state) }) ∧
    (∀ old c, (s.range r).stored = some old → s.AtCommit .drive .setRange tag
        ⟨.single (.range r), [.range r (some c)], [.rangeEdited r, .answer .drive .epoch]⟩ →
      let e : RangeEntry := { s.range r with
        stored := some { old with
          start := c.start, length := c.length, visibility := c.visibility, sleep := c.sleep } }
      let s1 : State := { s with
        store := { s.store with ranges := s.store.ranges.set r.val (some c) r.isLt }
        ranges := s.ranges.set r.val e r.isLt, queue := [] }
      exec .commitComplete s =
        if old.start = c.start ∧ old.length = c.length ∧ s1.concealedSet = s.concealedSet then
          .next { s1 with drive := s.drive.finished .setRange tag (.epoch .ok s.epoch) }
        else
          .next { s1 with
            epoch := s.epoch + 1
            drive := (s.drive.finished .setRange tag (.epoch .ok (s.epoch + 1))).push
              (changed (s.epoch + 1) s.custody.state) })

/-- DROP_RANGE: STATE unless GUARDED or WARNED and the range is BLANK, or ACTIVE with no right and no lane;
else the Range record marked absent, and the key's erasure behind it if ACTIVE.  When the Range record
completes the entry is absent, its slot without key, the epoch one higher; the reply comes at the last
completion (R15), with the epoch of that instant: the model's choice where another event has raised it since, log
entry 56. -/
def Obligations.DropRangeReturnsTheSectors : Prop :=
  ∀ (s : State) (tag : Byte) (r : RangeId),
    let gone : State := { s with
      store := { s.store with ranges := s.store.ranges.set r.val none r.isLt }
      ranges := s.ranges.set r.val ⟨none, false, false, none, none⟩ r.isLt
      keys := s.keys.set r.val ⟨s.keys[r.val].generation, none⟩ r.isLt
      epoch := s.epoch + 1, queue := [] }
    let note := changed (s.epoch + 1) s.custody.state
    (∀ t, s.AtRefund .dropRange tag 0 (.dropRange r) t →
      let inUse : Prop := s.custody.state = .guarded ∨ s.custody.state = .warned
      let st := (s.range r).stored.map fun c => c.state
      let locked : Prop := (s.range r).hasRight = false ∧ (s.range r).lane = none
      let s1 := s.refundTaken 0 t
      (¬(inUse ∧ (st = some .blank ∨ st = some .active ∧ locked)) → exec .commitComplete s =
        .next { s1 with drive := s.drive.finished .dropRange tag (.code .state) }) ∧
      (inUse → s.supplyWarning = false →
        (st = some .blank → exec .commitComplete s =
          .next { s1 with
            queue := [⟨.single (.range r), [.range r none], [.rangeDropped r, .answer .drive .epoch]⟩]
            drive := s.drive.committing .dropRange tag }) ∧
        (st = some .active → locked → exec .commitComplete s =
          .next { s1 with
            queue := [⟨.single (.range r), [.range r none], [.rangeDropped r]⟩,
              ⟨.single (.key r), [.eraseKey r], [.answer .drive .epoch]⟩]
            drive := s.drive.committing .dropRange tag }))) ∧
    (s.AtCommit .drive .dropRange tag
        ⟨.single (.range r), [.range r none], [.rangeDropped r, .answer .drive .epoch]⟩ →
      exec .commitComplete s = .next { gone with
        drive := (s.drive.finished .dropRange tag (.epoch .ok (s.epoch + 1))).push note }) ∧
    (∀ e, s.Hears .drive → s.held = [] →
      s.queue = [⟨.single (.range r), [.range r none], [.rangeDropped r]⟩, e] →
      exec .commitComplete s = .next { gone with queue := [e], drive := s.drive.push note }) ∧
    (s.AtCommit .drive .dropRange tag ⟨.single (.key r), [.eraseKey r], [.answer .drive .epoch]⟩ →
      exec .commitComplete s = .next { s with
        store := { s.store with
          keys := s.store.keys.set r.val ⟨s.store.keys[r.val].generation, none⟩ r.isLt }
        queue := []
        drive := s.drive.finished .dropRange tag (.epoch .ok s.epoch) })

/-- GRANT: a member already is answered OK with no commit; otherwise one Range record with the target added
is entered, and on its completion the target is a member; rights and epoch stay (R16). -/
def Obligations.GrantAddsAMember : Prop :=
  ∀ (s : State) (tag : Byte) (r : RangeId) (c : RangeRec) (a : AuthId),
    (s.range r).stored = some c →
    let c' : RangeRec := { c with access := c.access.set a.val true a.isLt }
    let entry : Entry := ⟨.single (.range r), [.range r (some c')], [.accessStored r, .answer .drive .ok]⟩
    (∀ t, s.AtRefund .grant tag 0 (.grant r a) t →
      (s.custody.state = .guarded ∨ s.custody.state = .warned) →
      let s1 := s.refundTaken 0 t
      (c.access[a.val] = true → exec .commitComplete s =
        .next { s1 with drive := s.drive.finished .grant tag (.code .ok) }) ∧
      (c.access[a.val] = false → s.supplyWarning = false → exec .commitComplete s =
        .next { s1 with queue := [entry], drive := s.drive.committing .grant tag })) ∧
    (s.AtCommit .drive .grant tag entry → exec .commitComplete s =
      .next { s with
        store := { s.store with ranges := s.store.ranges.set r.val (some c') r.isLt }
        ranges := s.ranges.set r.val { s.range r with stored := some c' } r.isLt
        queue := []
        drive := s.drive.finished .grant tag (.code .ok) })

/-- REVOKE of the holder: at the instant its commit is entered the range loses both rights and its holder,
its lane is released, and the epoch increments if the range rejoins the concealed set; of another member
nothing but the commit is entered; of no member OK comes at once.  On completion the target is no member
(R17). -/
def Obligations.RevokeRemovesTheHolder : Prop :=
  ∀ (s : State) (tag : Byte) (r : RangeId) (c : RangeRec) (a : AuthId),
    (s.range r).stored = some c →
    let c' : RangeRec := { c with access := c.access.set a.val false a.isLt }
    let entry (mark : Bool) : Entry :=
      ⟨.single (.range r), [.range r (some c')], [.accessStored r, .answer .drive (.revoked mark)]⟩
    (∀ t, s.AtRefund .revoke tag 0 (.revoke r a) t →
      (s.custody.state = .guarded ∨ s.custody.state = .warned) → s.supplyWarning = false →
      let s1 := s.refundTaken 0 t
      (c.access[a.val] = false → exec .commitComplete s =
        .next { s1 with
          drive := s.drive.finished .revoke tag
            (.revoked s.epoch (!(s.range r).hasRight && (s.range r).lane.isSome)) }) ∧
      (c.access[a.val] = true → (s.range r).holder ≠ some a → exec .commitComplete s =
        .next { s1 with
          queue := [entry (!(s.range r).hasRight && (s.range r).lane.isSome)]
          drive := s.drive.committing .revoke tag }) ∧
      (c.access[a.val] = true → (s.range r).holder = some a →
        ∃ s2 : State, exec .commitComplete s = .next s2 ∧
          s2.range r = { s.range r with read := false, write := false, holder := none } ∧
          (∀ q, q ≠ r → s2.range q = s.range q) ∧
          (∀ n, (s.range r).lane = some n → s2.lane.lanes = s.lane.lanes.modify n LaneRec.release) ∧
          ((s.range r).lane = none → s2.lane = s.lane) ∧
          s2.queue = [entry (s.range r).lane.isSome] ∧
          s2.epoch = (if s2.concealedSet = s.concealedSet then s.epoch else s.epoch + 1) ∧
          s2 = { s1 with
            ranges := s2.ranges, lane := s2.lane, epoch := s2.epoch, queue := s2.queue
            drive := s2.drive } ∧
          s2.drive.inFlight = some ⟨.revoke, tag, .committing⟩ ∧ s2.drive.replySlot = none)) ∧
    (∀ mark, s.AtCommit .drive .revoke tag (entry mark) → exec .commitComplete s =
      .next { s with
        store := { s.store with ranges := s.store.ranges.set r.val (some c') r.isLt }
        ranges := s.ranges.set r.val { s.range r with stored := some c' } r.isLt
        queue := []
        drive := s.drive.finished .revoke tag (.revoked s.epoch mark) })

/-- REKEY: STATE unless GUARDED or WARNED and the range is BLANK; else a fresh Key record and the Range
record with state ACTIVE.  When the Range record completes, the range is ACTIVE with no right, holder or
lane, its slot has the key, and the reply carries the new generation and check code; the epoch stays
(R49, R50). -/
def Obligations.RekeyReturnsABlankRange : Prop :=
  ∀ (s : State) (tag : Byte) (r : RangeId),
    (∀ t, s.AtRefund .rekey tag 0 (.rekey r) t →
      let inUse : Prop := s.custody.state = .guarded ∨ s.custody.state = .warned
      let s1 := s.refundTaken 0 t
      let k := Config.randomSecret s.draws
      let key : KeyRec :=
        ⟨s.keys[r.val].generation + 1, some (Config.wrapKey s.rootKey k, Config.checkFunction k)⟩
      (¬(inUse ∧ (s.range r).stored.map (fun c => c.state) = some .blank) → exec .commitComplete s =
        .next { s1 with drive := s.drive.finished .rekey tag (.code .state) }) ∧
      (∀ c, inUse → s.supplyWarning = false → (s.range r).stored = some c → c.state = .blank →
        exec .commitComplete s = .next { s1 with
          draws := s.draws + 1
          queue := [⟨.single (.key r), [.key r key], []⟩,
            ⟨.single (.range r), [.range r (some { c with state := .active })],
              [.rangeRekeyed r, .answer .drive (.rekeyed r)]⟩]
          drive := s.drive.committing .rekey tag })) ∧
    (∀ c g w x, (s.range r).stored = some c → s.store.keys[r.val] = ⟨g, some (w, x)⟩ →
      s.AtCommit .drive .rekey tag ⟨.single (.range r), [.range r (some { c with state := .active })],
        [.rangeRekeyed r, .answer .drive (.rekeyed r)]⟩ →
      exec .commitComplete s = .next { s with
        store := { s.store with
          ranges := s.store.ranges.set r.val (some { c with state := .active }) r.isLt }
        ranges := s.ranges.set r.val ⟨some { c with state := .active }, false, false, none, none⟩ r.isLt
        keys := s.keys.set r.val ⟨g, some (w, x)⟩ r.isLt
        queue := []
        drive := s.drive.finished .rekey tag (.rekeyed g x) })

/-! ## Credentials -/

/-- Every credentialed request makes its own first checks over its payload, DENIED for an authority it does
not admit, BAD_VALUE for an illegal value, STATE where geometry must be present, with no charge; then the
gates and the charge, as `State.Checks` says, with the credential uncompared and the values it carries.  The
charge counts failures up to the try limit, sets the lockout mark where they reach it (the Administrator's
never), and counts device failures up to their limit (R74 to R76, R83, R89, R110). -/
def Obligations.CredentialedRequestsAreCharged : Prop :=
  ∀ (s : State) (tag : Byte) (pl : List Byte), s.Ready .drive →
    let v (i : Nat) : Nat := byteAt pl i
    let field (i n : Nat) : Nat := leNat ((pl.drop i).take n)
    let secret (i : Nat) : Secret := BitVec.ofNat 256 (field i 32)
    let refuses (o : Host.Outcome State Fault Refusal) (k : ReqKind) (r : Result) : Prop :=
      o = .next { s with drive := s.drive.answered k tag (.code r) }
    let checks (o : Host.Outcome State Fault Refusal) (k : ReqKind) (req : CredReq) : Prop :=
      ∀ a : AuthId, v 0 = a.val → s.Checks k tag a (secret 1) req o
    -- A request of the Administrator alone, its values legal or not, that needs geometry or not.
    let admin (o : Host.Outcome State Fault Refusal) (k : ReqKind) (legal geometry : Prop) : Prop :=
      (v 0 ≠ 0 → refuses o k .denied) ∧ (v 0 = 0 → ¬legal → refuses o k .badValue) ∧
      (v 0 = 0 → legal → ¬geometry → refuses o k .state)
    let ready : Prop := s.geometry.isSome = true
    (∀ a : AuthId,
      let f := min (s.tries.failures[a.val] + 1) s.authorities[a.val].tryLimit
      let t := s.chargedTries a
      t.failures = s.tries.failures.set a.val f a.isLt ∧
      t.device = min (s.tries.device + 1) s.policy.deviceTryLimit ∧
      (∀ b : AuthId, b ≠ a → t.lockout[b.val] = s.tries.lockout[b.val]) ∧
      (s.tries.lockout[a.val] = false →
        (t.lockout[a.val] = true ↔ f = s.authorities[a.val].tryLimit ∧ a ≠ 0))) ∧
    (35 ≤ pl.length → pl.length = 35 + v 34 →
      let o := exec (.unlock .drive tag pl) s
      let ids := (pl.drop 35).map fun b => b.toNat
      let legal : Prop := v 0 < 8 ∧ (1 ≤ v 33 ∧ v 33 ≤ 3) ∧ (1 ≤ v 34 ∧ v 34 ≤ 16) ∧ ∀ i ∈ ids, i < 16
      (¬legal → refuses o .unlock .badValue) ∧
      (∀ (w : Rights) (list : List RangeId), legal →
        v 33 = (match w with | .read => 1 | .write => 2 | .both => 3) →
        list.map (fun r => r.val) = ids.eraseDups → checks o .unlock (.unlock list w))) ∧
    (pl.length = 46 →
      let o := exec (.setRange .drive tag pl) s
      let legal : Prop := v 33 < 16 ∧ v 44 ≤ 1 ∧ v 45 ≤ 1 ∧
        (v 33 = 0 → field 34 5 = 0 ∧ field 39 5 = 0 ∧ v 44 = 0)
      admin o .setRange legal ready ∧
      (∀ (r : RangeId) (x : Visibility) (p : SleepPolicy), v 0 = 0 → legal → ready → v 33 = r.val →
        v 44 = (match x with | .shown => 0 | .hiddenWhileLocked => 1) →
        v 45 = (match p with | .lockOnStandby => 0 | .keep => 1) →
        checks o .setRange (.setRange r (field 34 5) (field 39 5) x p))) ∧
    (pl.length = 34 →
      let explicit : Prop := 1 ≤ v 33 ∧ v 33 < 16
      let drop := exec (.dropRange .drive tag pl) s
      let retire := exec (.retire .drive tag pl) s
      let rekey := exec (.rekey .drive tag pl) s
      let wipe := exec (.wipe .drive tag pl) s
      admin drop .dropRange explicit ready ∧ admin retire .retire explicit ready ∧
      admin rekey .rekey (v 33 < 16) ready ∧
      (∀ r : RangeId, v 0 = 0 → v 33 = r.val → ready →
        (r ≠ 0 → checks drop .dropRange (.dropRange r) ∧ checks retire .retire (.retire r)) ∧
        checks rekey .rekey (.rekey r)) ∧
      (v 0 ≠ 0 → v 0 ≠ 7 → refuses wipe .wipe .denied) ∧
      (v 0 = 0 ∨ v 0 = 7 →
        (¬(1 ≤ v 33 ∧ v 33 ≤ 3) → refuses wipe .wipe .badValue) ∧
        (∀ l : Level, v 33 = l.rank → checks wipe .wipe (.wipe l (decide (s.custody.state = .concealed)))))) ∧
    (pl.length = 35 →
      let grant := exec (.grant .drive tag pl) s
      let revoke := exec (.revoke .drive tag pl) s
      admin grant .grant (v 33 < 16 ∧ v 34 < 8) ready ∧
      admin revoke .revoke (v 33 < 16 ∧ 1 ≤ v 34 ∧ v 34 < 8) ready ∧
      (∀ (r : RangeId) (b : AuthId), v 0 = 0 → v 33 = r.val → v 34 = b.val → ready →
        checks grant .grant (.grant r b) ∧ (b ≠ 0 → checks revoke .revoke (.revoke r b)))) ∧
    (pl.length = 33 →
      let freeze := exec (.freezePolicy .drive tag pl) s
      (v 0 ≠ 0 → refuses freeze .freezePolicy .denied) ∧ (v 0 = 0 → checks freeze .freezePolicy .freezePolicy)) ∧
    (pl.length = 80 →
      let o := exec (.setPolicy .drive tag pl) s
      let legal : Prop := (∀ i, 33 ≤ i → i ≤ 37 → 1 ≤ v i ∧ v i ≤ 3) ∧ v 47 ≤ 2 ∧ field 44 2 ≠ 0 ∧ v 46 ≠ 0
      admin o .setPolicy legal True ∧
      (∀ p : PolicyValues, legal → v 33 = p.tryExhaustion.rank → v 34 = p.checkinExpired.rank →
        v 35 = p.foreignStart.rank → v 36 = p.remoteOrder.rank → v 37 = p.adminOrder.rank →
        p.checkinPeriod = min (field 38 2) 720 → p.warningMargin = min (field 40 2) 720 →
        p.concealHold = min (field 42 2) 720 → p.deviceTryLimit = min (field 44 2) 255 →
        p.foreignLimit = min (v 46) 15 →
        v 47 = (match p.action with | .keep => 0 | .set => 1 | .remove => 2) → p.secret = secret 48 →
        v 0 = 0 → checks o .setPolicy (.setPolicy p)))

/-- SET_AUTHORITY of each operation: BAD_VALUE for an illegal authority, operation or parameter; DENIED for a
caller that is neither the Administrator nor, for CREDENTIAL, the target itself; each with no charge; then the
gates and the charge like every credentialed request (R84 steps 1 to 3). -/
def Obligations.SetAuthorityIsCharged : Prop :=
  ∀ (s : State) (tag : Byte) (pl : List Byte), s.Ready .drive → pl.length = 67 →
    let v (i : Nat) : Nat := byteAt pl i
    let secret (i : Nat) : Secret := BitVec.ofNat 256 (leNat ((pl.drop i).take 32))
    let refuses (o : Host.Outcome State Fault Refusal) (r : Result) : Prop :=
      o = .next { s with drive := s.drive.answered .setAuthority tag (.code r) }
    (v 34 < 1 ∨ 5 < v 34 → refuses (exec (.setAuthorityCredential .drive tag pl) s) .badValue) ∧
    ∀ op : AuthorityOp,
      v 34 = (match op with
        | .credential => 1 | .limit => 2 | .enable => 3 | .disable => 4 | .reinstate => 5) →
      let o := exec (match op with
        | .credential => .setAuthorityCredential .drive tag pl
        | .limit => .setAuthorityLimit .drive tag pl
        | .enable => .setAuthorityEnable .drive tag pl
        | .disable => .setAuthorityDisable .drive tag pl
        | .reinstate => .setAuthorityReinstate .drive tag pl) s
      let legal : Prop := v 0 < 8 ∧ v 33 < 8 ∧ ¬(op = .limit ∧ v 35 = 0) ∧ ¬(op = .disable ∧ v 33 = 0)
      let mayCall : Prop := v 0 = 0 ∨ op = .credential ∧ v 33 = v 0
      (¬legal → refuses o .badValue) ∧ (legal → ¬mayCall → refuses o .denied) ∧
      (∀ a t : AuthId, legal → mayCall → v 0 = a.val → v 33 = t.val →
        s.Checks .setAuthority tag a (secret 1) (.setAuthority t op (secret 35) (min (v 35) 31)) o)

/-- The charge completes and the compare is made: a match enters the refund and nothing else; a mismatch
below the device limit sets the authority's backoff, queues TRY_LOCKOUT if the mark is set, and answers
DENIED with the backoff and the mark; a mismatch that leaves the device failure count at its limit does the
same and takes TRY_EXHAUSTION, a response of the policy's level, between the notice and the reply (R76 to
R78, R81, R121). -/
def Obligations.CompareFollowsTheCharge : Prop :=
  ∀ (s : State) (k : ReqKind) (tag : Byte) (a : AuthId) (c : Secret) (req : CredReq) (x : TriesRec),
    s.Hears .drive → s.drive.inFlight = some ⟨k, tag, .charging a c req⟩ →
    s.queue = [⟨.single .tries, [.tries x], [.charged]⟩] → s.held = [] →
    let s1 : State := { s with store := { s.store with tries := x }, tries := x, queue := [] }
    let backoff := if x.failures[a.val] < 3 then 0 else min (2 ^ (x.failures[a.val] - 3)) 256
    (∀ salt v, s.authorities[a.val].salt = some salt → s.authorities[a.val].verifier = some v →
      (Config.digest (leBytes 16 salt.toNat ++ leBytes 32 c.toNat) = v → exec .commitComplete s =
        .next { s1 with
          queue := [⟨.single .tries,
            [.tries ⟨x.failures.set a.val 0 a.isLt, x.lockout.set a.val false a.isLt, 0⟩], [.refunded]⟩]
          drive := { s.drive with inFlight := some ⟨k, tag, .refunding a req⟩ } }) ∧
      (Config.digest (leBytes 16 salt.toNat ++ leBytes 32 c.toNat) ≠ v →
        x.device < s.policy.deviceTryLimit →
        let d := s.drive.finished k tag (.deniedCheck backoff x.lockout[a.val])
        let n : Notice := ⟨.tryLockout, none, none, s.epoch, s.custody.state⟩
        exec .commitComplete s =
          .next { s1 with
            backoff := s.backoff.set a.val backoff a.isLt
            drive := if x.lockout[a.val] = true then d.push n else d }) ∧
      (Config.digest (leBytes 16 salt.toNat ++ leBytes 32 c.toNat) ≠ v →
        s.policy.deviceTryLimit ≤ x.device → s.custody.state ≠ .opened →
        let target := s.policy.tryExhaustion.target
        let moves : Prop := s.custody.state.strength < target.strength
        let enters : Prop := s.custody.state.strength = 0
        ∃ t, exec .commitComplete s = .next t ∧
          t.backoff = s.backoff.set a.val backoff a.isLt ∧ t.tries = x ∧ t.store.tries = x ∧
          t.drive.inFlight = none ∧ t.drive.replySlot =
            some ⟨k.code + 0x80, tag, .deniedCheck backoff x.lockout[a.val]⟩ ∧
          t.custody.state = (if moves then target else s.custody.state) ∧
          t.mode = (if enters then .blank else s.mode) ∧
          t.epoch = (if enters then s.epoch + 1 else s.epoch) ∧
          (enters → ∀ r, (t.range r).hasRight = false) ∧
          (s.drive.notices = [] → t.drive.notices.map (fun n => n.kind) =
            (if x.lockout[a.val] = true then [.tryLockout] else []) ++
            (if moves then [.custodyChanged] else []) ++
            (if enters ∧ s.lane.link = .held then [.laneLinkUp] else []) ++
            (if enters then [.presentationChanged] else []))))

/-- The operations of SET_AUTHORITY at the instant the refund completes: what each enters, answers at once
or refuses; and the completions of what it entered: a Tries entry puts the counts and marks in force, with
TRY_LOCKOUT where a LIMIT sets the mark; the last entry puts the record in force, ends the backoff of an
ENABLE or REINSTATE, and brings the reply OK with the target's state, failures and limit (R84 to R86). -/
def Obligations.SetAuthorityOperations : Prop :=
  (∀ (s : State) (tag : Byte) (t : AuthId),
    let ends (s1 : State) : State := { s1 with
      drive := s.drive.finished .setAuthority tag
        (.authority (s1.authorityState t) s1.tries.failures[t.val] s1.authorities[t.val].tryLimit) }
    let cleared := s.backoff.set t.val 0 t.isLt
    (∀ r, s.AtCommit .drive .setAuthority tag
        ⟨.single (.authority t), [.authority t r], [.authorityStored t, .answer .drive (.authority t)]⟩ →
      exec .commitComplete s = .next (ends { s with
        store := { s.store with authorities := s.store.authorities.set t.val r t.isLt }
        authorities := s.authorities.set t.val r t.isLt, queue := [] })) ∧
    (∀ r, s.AtCommit .drive .setAuthority tag ⟨.single (.authority t), [.authority t r],
        [.authorityStored t, .backoffCleared t, .answer .drive (.authority t)]⟩ →
      exec .commitComplete s = .next (ends { s with
        store := { s.store with authorities := s.store.authorities.set t.val r t.isLt }
        authorities := s.authorities.set t.val r t.isLt, backoff := cleared, queue := [] })) ∧
    (∀ x, s.AtCommit .drive .setAuthority tag ⟨.single .tries, [.tries x],
        [.triesStored, .backoffCleared t, .answer .drive (.authority t)]⟩ →
      exec .commitComplete s = .next (ends { s with
        store := { s.store with tries := x }, tries := x, backoff := cleared, queue := [] })) ∧
    (∀ x e, s.powered = true → s.held = [] →
      let s1 : State := { s with store := { s.store with tries := x }, tries := x, queue := [e] }
      let n : Notice := ⟨.tryLockout, none, none, s.epoch, s.custody.state⟩
      (s.queue = [⟨.single .tries, [.tries x], [.triesStored]⟩, e] → exec .commitComplete s = .next s1) ∧
      (s.queue = [⟨.single .tries, [.tries x], [.limitStored t]⟩, e] → exec .commitComplete s =
        .next { s1 with
          drive := if s.tries.lockout[t.val] = false ∧ x.lockout[t.val] = true then s.drive.push n
            else s.drive }))) ∧
  ∀ (s : State) (tag : Byte) (a t : AuthId) (op : AuthorityOp) (c : Secret) (limit : Nat) (x : TriesRec),
    s.AtRefund .setAuthority tag a (.setAuthority t op c limit) x →
    (s.custody.state = .guarded ∨ s.custody.state = .warned) → s.supplyWarning = false →
    let s1 := s.refundTaken a x
    let r := s.authorities[t.val]
    let state := s1.authorityState t
    let answer (b : ReplyBody) : Host.Outcome State Fault Refusal :=
      .next { s1 with drive := s.drive.finished .setAuthority tag b }
    let current : ReplyBody := .authority state x.failures[t.val] r.tryLimit
    let enters (es : List Entry) (draws : Nat) : Host.Outcome State Fault Refusal :=
      .next { s1 with
        queue := es, draws := draws, drive := s.drive.committing .setAuthority tag }
    let authority (r' : AuthorityRec) (more : List Act) : Entry :=
      ⟨.single (.authority t), [.authority t r'],
        .authorityStored t :: more ++ [.answer .drive (.authority t)]⟩
    let cleared : TriesRec :=
      { x with failures := x.failures.set t.val 0 t.isLt, lockout := x.lockout.set t.val false t.isLt }
    let n := Config.randomNonce s.draws
    let newVerifier := Config.digest (leBytes 16 n.toNat ++ leBytes 32 c.toNat)
    (op = .credential → exec .commitComplete s =
      enters [authority ⟨if r.stored = .unset then .active else r.stored, some n, some newVerifier,
        r.tryLimit⟩ []] (s.draws + 1)) ∧
    (op = .limit →
      (s.policy.frozen = true → r.tryLimit < limit → exec .commitComplete s = answer (.code .frozen)) ∧
      (limit = r.tryLimit → exec .commitComplete s = answer current) ∧
      ((s.policy.frozen = false ∨ limit < r.tryLimit) → limit ≠ r.tryLimit →
        (x.failures[t.val] < limit → exec .commitComplete s =
          enters [authority { r with tryLimit := limit } []] s.draws) ∧
        (limit ≤ x.failures[t.val] → exec .commitComplete s =
          enters [⟨.single .tries,
              [.tries { x with
                failures := x.failures.set t.val limit t.isLt
                lockout := x.lockout.set t.val (x.lockout[t.val] || decide (t ≠ 0)) t.isLt }],
              [.limitStored t]⟩,
            authority { r with tryLimit := limit } []] s.draws))) ∧
    (op = .enable →
      (state = .disabled → exec .commitComplete s =
        enters [⟨.single .tries, [.tries cleared], [.triesStored]⟩,
          authority { r with stored := .active } [.backoffCleared t]] s.draws) ∧
      (state = .active → exec .commitComplete s = answer current) ∧
      (state = .unset ∨ state = .lockedOut → exec .commitComplete s = answer (.code .state))) ∧
    (op = .disable →
      (state = .active ∨ state = .lockedOut → exec .commitComplete s =
        enters [authority { r with stored := .disabled } []] s.draws) ∧
      (state = .disabled → exec .commitComplete s = answer current) ∧
      (state = .unset → exec .commitComplete s = answer (.code .state))) ∧
    (op = .reinstate →
      (state = .lockedOut → exec .commitComplete s =
        enters [⟨.single .tries, [.tries cleared],
          [.triesStored, .backoffCleared t, .answer .drive (.authority t)]⟩] s.draws) ∧
      (state ≠ .lockedOut → exec .commitComplete s = answer (.code .state)))

/-- ENROL in OPEN with geometry enters Authority 0, the cleared Tries and the GUARDED Custody record;
outside it is refused with STATE, under Supply Warning with DEFERRED, and with BUSY where its three writes
find fewer free entries; when the last completes custody is GUARDED, every backoff 0, the mode and the epoch
as they were (R87, R153). -/
def Obligations.EnrolGuardsTheDrive : Prop :=
  ∀ (s : State) (tag : Byte) (pl : List Byte), pl.length = 32 →
    let n := Config.randomNonce s.draws
    let admin : AuthorityRec :=
      ⟨.active, some n, some (Config.digest (leBytes 16 n.toNat ++ leBytes 32 (leNat pl))), 10⟩
    (s.Ready .drive →
      (s.custody.state ≠ .opened ∨ s.geometry = none → exec (.enrol .drive tag pl) s =
        .next { s with drive := s.drive.answered .enrol tag (.code .state) }) ∧
      (s.custody.state = .opened → s.geometry.isSome = true →
        (s.supplyWarning = true → exec (.enrol .drive tag pl) s =
          .next { s with drive := s.drive.answered .enrol tag (.code .deferred) }) ∧
        (s.supplyWarning = false → 2 ≤ nonFinal s.queue ∨ s.held ≠ [] →
          (∀ e ∈ s.queue.tail, ∀ x ∈ e.writes, x.record ≠ some (.authority 0) ∧
            x.record ≠ some .tries ∧ x.record ≠ some .custody) →
          exec (.enrol .drive tag pl) s =
            .next { s with drive := s.drive.answered .enrol tag (.code .busy) })) ∧
      (s.custody.state = .opened → s.geometry.isSome = true → s.supplyWarning = false →
        s.queue = [] → s.held = [] → ∃ c : CustodyRec, c.state = .guarded ∧
          c.foreignCount = s.custody.foreignCount ∧ c.checkin = s.custody.checkin ∧
          c.escalation = s.custody.escalation ∧ c.target = s.custody.target ∧
          exec (.enrol .drive tag pl) s =
            .next { s with
              draws := s.draws + 1
              queue :=
                [⟨.single (.authority 0), [.authority 0 admin], [.authorityStored 0]⟩,
                 ⟨.single .tries,
                   [.tries ⟨Vector.replicate 8 0, Vector.replicate 8 false, 0⟩], [.triesStored]⟩,
                 ⟨.single .custody, [.custody c], [.enrolled]⟩]
              drive := s.drive.flying .enrol tag .committing })) ∧
    (∀ c, s.AtCommit .drive .enrol tag ⟨.single .custody, [.custody c], [.enrolled]⟩ →
      exec .commitComplete s =
        .next { s with
          store := { s.store with custody := c }
          custody := { s.custody with state := .guarded }
          backoff := Vector.replicate 8 0, queue := []
          drive := s.drive.finished .enrol tag (.code .ok) })

/-! ## Unlocking and locking -/

/-- An UNLOCK at its grant in GUARDED or WARNED: each range receives the first outcome whose condition it
meets, with the binding of R52, its rights added, its holder set and one epoch increment if it leaves the
concealed set; a list is answered in its order and leaves every other range as it was (R90 to R94). -/
def Obligations.UnlockGrants : Prop :=
  ∀ (s : State) (tag : Byte) (a : AuthId) (w : Rights) (t : TriesRec),
    (s.custody.state = .guarded ∨ s.custody.state = .warned) →
    let s1 := s.refundTaken a t
    (∀ list, s.AtRefund .unlock tag a (.unlock list w) t →
      ∃ s2 es, exec .commitComplete s = .next s2 ∧ es.map (fun e => e.range) = list ∧
        s2.drive.replySlot = some ⟨0x82, tag, .unlocked s2.epoch es⟩ ∧ s2.drive.inFlight = none ∧
        (∀ q, q ∉ list → s2.range q = s.range q) ∧
        (∀ e ∈ es, e.outcome = .unlocked → (s2.range e.range).holder = some a) ∧
        s2 = { s1 with ranges := s2.ranges, lane := s2.lane, epoch := s2.epoch, drive := s2.drive }) ∧
    (∀ r, s.AtRefund .unlock tag a (.unlock [r] w) t →
      let refused (o : UnlockOutcome) : Host.Outcome State Fault Refusal :=
        .next { s1 with
          drive := s.drive.finished .unlock tag (.unlocked s.epoch [⟨r, o, false, false, none, false⟩]) }
      let rd := (s.range r).read || decide (w ≠ .write)
      let wr := (s.range r).write || decide (w ≠ .read)
      ((s.range r).stored = none → exec .commitComplete s = refused .notDefined) ∧
      (∀ c, (s.range r).stored = some c →
        let unlocked (n : Nat) (loaded : Bool) (lanes : List LaneRec) : Prop :=
          ∃ s2, exec .commitComplete s = .next s2 ∧
            s2.range r = { s.range r with read := rd, write := wr, holder := some a, lane := some n } ∧
            s2.lane = { s.lane with lanes := lanes } ∧
            s2.epoch = (if c.visibility = .hiddenWhileLocked ∧ (s.range r).read = false ∧ rd = true ∧
              s.mode ≠ .blank then s.epoch + 1 else s.epoch) ∧
            s2.drive.replySlot =
              some ⟨0x82, tag, .unlocked s2.epoch [⟨r, .unlocked, rd, wr, some n, loaded⟩]⟩
        let loading (l : LaneRec) : LaneRec :=
          { l with
            state := .loading, range := some r, expected := s.keys[r.val].key.map fun k => k.2
            plan := .load, votes := [], attempts := 0 }
        (c.access[a.val] = false → exec .commitComplete s = refused .notGranted) ∧
        (c.access[a.val] = true → c.state ≠ .active → exec .commitComplete s = refused .erased) ∧
        (c.access[a.val] = true → c.state = .active →
          ((s.range r).lane = none → (∀ l ∈ s.lane.lanes, l.state ≠ .free) →
            exec .commitComplete s = refused .noLane) ∧
          (∀ n l, (s.range r).lane = none → s.laneAt n = some l → l.state = .free →
            (∀ m < n, ∀ l', s.laneAt m = some l' → l'.state ≠ .free) →
            unlocked n false (s.lane.lanes.set n (loading l))) ∧
          (∀ n l, (s.range r).lane = some n → s.laneAt n = some l →
            (l.state = .fault → exec .commitComplete s = refused .noLane) ∧
            (l.state = .loading → unlocked n false s.lane.lanes) ∧
            (l.state = .loaded → unlocked n true s.lane.lanes) ∧
            (l.state = .clearing → unlocked n false (s.lane.lanes.set n (loading l)))))))

/-- An UNLOCK whose refund finds CONCEALED: Recovery's returns custody to GUARDED with clocks and count 0,
the mode to OVERLAY, one epoch increment, a Custody commit with both clocks exact and the notices, and
answers its list with every other range as it was; any other authority's, and any in ERASED or beyond, is
answered STATE (R90, R95, R127).  That CUSTODY_CHANGED stands ahead of PRESENTATION_CHANGED, and so
carries the epoch before (R180), is the model's reading, log entry 21. -/
def Obligations.RecoveryReturnsToGuarded : Prop :=
  ∀ (s : State) (tag : Byte) (a : AuthId) (list : List RangeId) (w : Rights) (t : TriesRec),
    s.AtRefund .unlock tag a (.unlock list w) t →
    let s1 := s.refundTaken a t
    (s.custody.state = .concealed → a = 7 → ∃ s2 es, exec .commitComplete s = .next s2 ∧
      es.map (fun e => e.range) = list ∧
      (∀ q, q ∉ list → s2.range q = s.range q) ∧
      s2 = { s1 with
        ranges := s2.ranges
        lane := s2.lane
        mode := .overlay
        epoch := s.epoch + 1
        custody := { s.custody with
          state := .guarded, foreignCount := 0, checkin := 0, checkinSecs := 0, escalation := 0
          escalationSecs := 0 }
        queue := [⟨.single .custody,
          [.custody ⟨.guarded, 0, 0, true, 0, true, s.custody.target⟩], []⟩]
        drive := ((s.drive.finished .unlock tag (.unlocked (s.epoch + 1) es)).push
          ⟨.custodyChanged, none, none, s.epoch, .guarded⟩).push (changed (s.epoch + 1) .guarded)
        platform := s.platform.push ⟨.custodyChanged, none, none, s.epoch, .guarded⟩ }) ∧
    ((s.custody.state = .concealed ∧ a ≠ 7 ∨ s.custody.state = .erased ∨
        s.custody.state = .scrubbing ∨ s.custody.state = .spent) →
      exec .commitComplete s =
        .next { s1 with drive := s.drive.finished .unlock tag (.code .state) })

/-- LOCK in every custody state: rights, count and ids in range, repeated ids counting once, else BAD_VALUE.
Each listed present range loses the named rights, its holder once both are off, and its lane is then released:
a LOADING or LOADED lane becomes CLEARING with plan CLEAR, a CLEARING or FAULT lane keeps its state with plan
CLEAR.  Every other range and lane is as it was; one epoch increment if the concealed set changed; the reply
reports each range as it stands (R53, R98, R99, R103; the zero rights and clear pending of a NOT_DEFINED entry
are the model's choice, log entry 46). -/
def Obligations.LockRemovesRights : Prop :=
  ∀ (s : State) (tag : Byte) (pl : List Byte), s.Ready .drive → 2 ≤ pl.length →
    pl.length = 2 + byteAt pl 1 →
    let ids := (pl.drop 2).map fun b => b.toNat
    let legal : Prop := (1 ≤ byteAt pl 0 ∧ byteAt pl 0 ≤ 3) ∧ (1 ≤ byteAt pl 1 ∧ byteAt pl 1 ≤ 16) ∧
      ∀ i ∈ ids, i < 16
    (¬legal → exec (.lock .drive tag pl) s =
      .next { s with drive := s.drive.answered .lock tag (.code .badValue) }) ∧
    ∀ (w : Rights) (list : List RangeId), legal →
      byteAt pl 0 = (match w with | .read => 1 | .write => 2 | .both => 3) →
      list.map (fun r => r.val) = ids.eraseDups →
      ∃ t, exec (.lock .drive tag pl) s = .next t ∧
        (∀ r ∈ list, (s.range r).stored.isSome = true →
          let rd := (s.range r).read && decide (w = .write)
          let wr := (s.range r).write && decide (w = .read)
          t.range r = { s.range r with
            read := rd, write := wr, holder := if rd || wr then (s.range r).holder else none }) ∧
        (∀ r, r ∉ list ∨ (s.range r).stored = none → t.range r = s.range r) ∧
        (∀ n l, s.laneAt n = some l → (∃ r ∈ list, (s.range r).stored.isSome = true ∧
            (s.range r).lane = some n ∧ (t.range r).hasRight = false) →
          (l.state = .loading ∨ l.state = .loaded →
            t.laneAt n = some { l with state := .clearing, plan := .clear }) ∧
          (l.state = .clearing ∨ l.state = .fault → t.laneAt n = some { l with plan := .clear })) ∧
        (∀ n, (∀ r ∈ list, (s.range r).stored.isSome = true → (s.range r).lane = some n →
            (t.range r).hasRight = true) → t.laneAt n = s.laneAt n) ∧
        t.epoch = (if t.concealedSet = s.concealedSet then s.epoch else s.epoch + 1) ∧
        t = { s with
          ranges := t.ranges
          lane := { s.lane with lanes := t.lane.lanes }
          epoch := t.epoch
          drive :=
            let q := s.drive.answered .lock tag
              (.locked t.epoch (list.map fun r =>
                if (t.range r).stored.isSome then
                  ⟨r, true, (t.range r).read, (t.range r).write,
                    !(t.range r).hasRight && (t.range r).lane.isSome⟩
                else ⟨r, false, false, false, false⟩))
            if t.epoch = s.epoch then q else q.push (changed t.epoch s.custody.state) }

/-- STANDBY locks exactly the present ranges of policy LOCK_ON_STANDBY that have a right on, as a LOCK of
both rights does, and reports them in ascending order with their clear-pending marks (R101). -/
def Obligations.StandbyLocksBySleepPolicy : Prop :=
  ∀ (s : State) (tag : Byte), s.Ready .drive →
    let sleeps (r : RangeId) : Bool :=
      decide ((s.range r).stored.map (fun c => c.sleep) = some .lockOnStandby) && (s.range r).hasRight
    ∃ t, exec (.standby .drive tag []) s = .next t ∧
      (∀ r, sleeps r = true →
        t.range r = { s.range r with read := false, write := false, holder := none }) ∧
      (∀ r, sleeps r = false → t.range r = s.range r) ∧
      (∀ n, (∃ r, sleeps r = true ∧ (s.range r).lane = some n) →
        t.laneAt n = (s.laneAt n).map LaneRec.release) ∧
      (∀ n, (∀ r, sleeps r = true → (s.range r).lane ≠ some n) → t.laneAt n = s.laneAt n) ∧
      t.epoch = (if t.concealedSet = s.concealedSet then s.epoch else s.epoch + 1) ∧
      t = { s with
        ranges := t.ranges
        lane := { s.lane with lanes := t.lane.lanes }
        epoch := t.epoch
        drive :=
          let q := s.drive.answered .standby tag
            (.standby t.epoch ((allRanges.filter sleeps).map fun r => (r, (s.range r).lane.isSome)))
          if t.epoch = s.epoch then q else q.push (changed t.epoch s.custody.state) }

/-! ## The Lane Link -/

/-- The start of a lane slot sends what its lane's plan says: the key of its range, unwrapped under the root
key, which is the key that was wrapped, a zeroize order or a state query; nothing else changes (R45, R48,
R54, R55). -/
def Obligations.SlotStartSendsThePlan : Prop :=
  ∀ (s : State) (n : Nat) (l : LaneRec), s.powered = true → s.lane.link = .up →
    s.lane.position = .lane n → s.laneAt n = some l → s.lane.sent = none →
    let key := (l.range.bind fun r => s.keys[r.val].key).map fun k => Config.unwrapKey s.rootKey k.1
    exec .laneSlotStart s =
      .next { s with
        lane := { s.lane with
          sent := some (match l.plan with
            | .load => .load key
            | .clear => .clear
            | .probe => .probe (if l.state = .free then none else l.expected)) } } ∧
    (∀ r g k c, l.plan = .load → l.range = some r →
      s.keys[r.val] = ⟨g, some (Config.wrapKey s.rootKey k, c)⟩ →
      exec .laneSlotStart s = .next { s with lane := { s.lane with sent := some (.load (some k)) } })

/-- The end of an answered LOAD slot: a LOADING lane becomes LOADED on the expected code, counts an attempt
on any other answer, and goes to FAULT on the third, its range losing both rights and holder with
RANGE_RELOCKED and LANE_FAULT; a lane in any other state only records the outcome (R56, R59, R60). -/
def Obligations.LoadSlotEnds : Prop :=
  ∀ (s : State) (n : Nat) (l : LaneRec) (k : Option Secret) (x : LoadAnswer),
    s.InSlot n l (.load k) →
    let ends (l' : LaneRec) : State := { s with lane := s.lane.after (s.lane.lanes.set n l') n }
    let o : SlotOutcome :=
      match x with
      | .accepted c => if l.expected = some c then .ok else .mismatch
      | .rejected => .rejected
    (l.state ≠ .loading → exec (.loadSlotEnd x) s = .next (ends { l with last := some o })) ∧
    (l.state = .loading →
      (o = .ok → exec (.loadSlotEnd x) s =
        .next (ends { l with
          state := .loaded, attempts := 0, votes := [], plan := .probe, last := some .ok })) ∧
      (o ≠ .ok → l.attempts < 2 → exec (.loadSlotEnd x) s =
        .next (ends { l with attempts := l.attempts + 1, last := some o })) ∧
      (∀ r, o ≠ .ok → 2 ≤ l.attempts → l.range = some r →
        let s1 := ends { l with
          state := .fault, plan := .clear, attempts := l.attempts + 1, last := some o }
        let hides := s.isConcealed r = false ∧ (s.range r).read = true ∧ s.mode ≠ .blank ∧
          (s.range r).stored.map (fun c => c.visibility) = some .hiddenWhileLocked
        let c := s.custody.state
        let d := (s.drive.push ⟨.rangeRelocked, some r, none, s.epoch, c⟩).push
          ⟨.laneFault, none, some n, s.epoch, c⟩
        let ranges := s.ranges.set r.val
          { s.range r with read := false, write := false, holder := none } r.isLt
        (hides → exec (.loadSlotEnd x) s =
          .next { s1 with
            ranges := ranges, epoch := s.epoch + 1, drive := d.push (changed (s.epoch + 1) c) }) ∧
        (¬hides → exec (.loadSlotEnd x) s = .next { s1 with ranges := ranges, drive := d })))

/-- The end of an answered CLEAR slot: HELD keeps the plan; EMPTY frees a FREE, CLEARING or FAULT lane and
removes its binding in both records, and in OPEN gives a range 0 that is left without a lane its rights and a
lane again, and changes nothing else where range 0 keeps its lane; a lane taken back as LOADING only records the
outcome (R57, R59, R66, R102). -/
def Obligations.ClearSlotEnds : Prop :=
  ∀ (s : State) (n : Nat) (l : LaneRec), s.InSlot n l .clear →
    let ends (s1 : State) (l' : LaneRec) : State :=
      { s1 with lane := s.lane.after (s.lane.lanes.set n l') n }
    let emptied : LaneRec := ⟨.free, none, none, .probe, some .ok, [], 0⟩
    (∀ c, exec (.clearSlotEnd (.held c)) s = .next (ends s { l with last := some .rejected })) ∧
    (l.state = .loading ∨ l.state = .loaded →
      exec (.clearSlotEnd .empty) s = .next (ends s { l with last := some .ok })) ∧
    (l.state = .free ∨ l.state = .clearing ∨ l.state = .fault →
      (s.custody.state ≠ .opened ∨ (s.range 0).lane.isSome = true ∧ l.range ≠ some 0 →
        (l.range = none → exec (.clearSlotEnd .empty) s = .next (ends s emptied)) ∧
        (∀ r, l.range = some r → exec (.clearSlotEnd .empty) s =
          .next (ends { s with ranges := s.ranges.set r.val { s.range r with lane := none } r.isLt }
            emptied))) ∧
      (s.custody.state = .opened → l.range = some 0 ∨ (s.range 0).lane = none →
        ∃ t m l', exec (.clearSlotEnd .empty) s = .next t ∧ m ≤ n ∧
          t.range 0 = { s.range 0 with read := true, write := true, holder := none, lane := some m } ∧
          t.laneAt m = some l' ∧ l'.state = .loading ∧ l'.range = some 0 ∧ l'.plan = .load ∧
          t.drive.notices = s.drive.notices ∧ t.epoch = s.epoch))

/-- The end of an answered PROBE slot: a LOADED lane takes the answer as a vote among its last three and
goes to FAULT with two MISMATCH votes, its range losing its rights; a FREE lane that holds a key is planned
CLEAR; a lane in any other state only records the outcome (R58 to R60).  That a FREE lane answered EMPTY keeps the
CLEAR that a custody response or RESTART planned during its slot is the model's choice, log entry 59. -/
def Obligations.ProbeSlotEnds : Prop :=
  ∀ (s : State) (n : Nat) (l : LaneRec) (believed : Option Code) (x : HeldAnswer),
    s.InSlot n l (.probe believed) →
    let ends (l' : LaneRec) : State := { s with lane := s.lane.after (s.lane.lanes.set n l') n }
    (l.state = .free →
      (x = .empty → exec (.probeSlotEnd x) s = .next (ends { l with last := some .ok })) ∧
      (∀ c, x = .held c → exec (.probeSlotEnd x) s =
        .next (ends { l with last := some .mismatch, plan := .clear }))) ∧
    (l.state = .loading ∨ l.state = .clearing ∨ l.state = .fault →
      ∃ o, exec (.probeSlotEnd x) s = .next (ends { l with last := some o })) ∧
    (∀ e, l.state = .loaded → l.expected = some e →
      let ok : Bool := decide (x = .held e)
      let all := l.votes ++ [if ok then .ok else .mismatch]
      let votes := if all.length ≤ 3 then all else all.drop (all.length - 3)
      let l' := { l with votes := votes, last := some (if ok then .ok else .mismatch) }
      (votes.count .mismatch < 2 → exec (.probeSlotEnd x) s = .next (ends l')) ∧
      (∀ r, 2 ≤ votes.count .mismatch → l.range = some r →
        ∃ t, exec (.probeSlotEnd x) s = .next t ∧
          t.range r = { s.range r with read := false, write := false, holder := none } ∧
          (∀ q, q ≠ r → t.range q = s.range q) ∧
          t.lane = (ends { l' with state := .fault, plan := .clear }).lane ∧
          t.epoch = (if t.concealedSet = s.concealedSet then s.epoch else s.epoch + 1) ∧
          t = { s with ranges := t.ranges, lane := t.lane, epoch := t.epoch, drive := t.drive } ∧
          (s.drive.notices.length ≤ 5 →
            let c := s.custody.state
            t.drive.notices = s.drive.notices ++
              [⟨.rangeRelocked, some r, none, s.epoch, c⟩, ⟨.laneFault, none, some n, s.epoch, c⟩] ++
              (if t.epoch = s.epoch then [] else [changed t.epoch c]))))

/-- The end of an answered turn slot: on the UP link the silence count is 0 and a new count of 4 to 16 is
adopted, a larger one adding FREE lanes planned CLEAR, a smaller one discarding lanes and locking their
ranges, with RANGE_RELOCKED in ascending range id for each that had a right; on the DOWN link it does the same
and brings the link UP at lane 0 with every FREE lane planned CLEAR and LANE_LINK_UP.  In OPEN range 0, SHOWN as
R2 has it, is given its rights and a lane again where it is left without one, and its rights at link-up with
its LOADING lane as it is, but not where that lane is CLEARING (R61, R62, R64, R66, R100, R102).  The model's
readings: PRESENTATION_CHANGED stands behind LANE_LINK_UP too where a link-up relocks a range (log entry 21), and
the CLEARING lane is cleared first (log entry 47). -/
def Obligations.TurnSlotEnds : Prop :=
  ∀ (s : State) (count : Nat), s.powered = true → s.NoHold →
    let e := s.lane.lanes.length
    let fresh : LaneRec := ⟨.free, none, none, .clear, none, [], 0⟩
    let adopted : List LaneRec :=
      if count < 4 ∨ 16 < count ∨ count = e then s.lane.lanes
      else if count < e then s.lane.lanes.take count
      else s.lane.lanes ++ List.replicate (count - e) fresh
    let shrinks : Prop := 4 ≤ count ∧ count < e ∧ count ≤ 16
    let cleared : List LaneRec :=
      adopted.map fun l => if l.state = .free then { l with plan := .clear } else l
    let taken (l : LaneRec) : LaneRec := { l with
      state := .loading, range := some 0, expected := s.keys[0].key.map fun k => k.2
      plan := .load, votes := [], attempts := 0 }
    let relocked : PortState :=
      ((List.finRange 16).filter fun r =>
        (s.range r).lane.any (fun n => decide (count ≤ n)) && (s.range r).hasRight).foldl
          (fun q r => q.push ⟨.rangeRelocked, some r, none, s.epoch, s.custody.state⟩) s.drive
    -- The ranges on discarded lanes lose them, and `q` is the Drive Port with the notices of the lanes.
    -- With an entry `g`, that is range 0's after the event.
    let shrunk (t : State) (lanes : List LaneRec) (q : PortState) (g : Option RangeEntry) : Prop :=
      t.lane = ⟨lanes, .up, 0, .lane 0, none⟩ ∧
      (∀ x, g = some x → t.range 0 = x) ∧
      (∀ r, (r = 0 → g = none) → (∀ n, (s.range r).lane = some n → n < count) → t.range r = s.range r) ∧
      (∀ r n, (r = 0 → g = none) → (s.range r).lane = some n → count ≤ n →
        (t.range r).lane = none ∧ (t.range r).hasRight = false ∧
          (t.range r).stored = (s.range r).stored ∧
          ((s.range r).hasRight = true → (t.range r).holder = none)) ∧
      t.epoch = (if t.concealedSet = s.concealedSet then s.epoch else s.epoch + 1) ∧
      t = { s with
        ranges := t.ranges, lane := t.lane, epoch := t.epoch
        drive := if t.epoch = s.epoch then q else q.push (changed t.epoch s.custody.state) }
    let up : Notice := ⟨.laneLinkUp, none, none, s.epoch, s.custody.state⟩
    -- Range 0 with both rights and no holder, on lane `n`; and a new binding of it to lane `n`.
    let given (n : Nat) : RangeEntry :=
      { s.range 0 with read := true, write := true, holder := none, lane := some n }
    let bound (lanes : List LaneRec) (n : Nat) : State := { s with
      ranges := s.ranges.set 0 (given n), lane := ⟨lanes, .up, 0, .lane 0, none⟩, drive := s.drive.push up }
    let shown : Prop := shownIfGlobal 0 (s.range 0).stored
    (s.lane.link = .up → s.lane.position = .turn →
      (¬shrinks → s.custody.state ≠ .opened ∨ (s.range 0).lane.isSome = true →
        exec (.turnSlotEnd count) s = .next { s with lane := ⟨adopted, .up, 0, .lane 0, none⟩ }) ∧
      (shrinks → s.custody.state ≠ .opened ∨ (∃ n < count, (s.range 0).lane = some n) →
        ∃ t, exec (.turnSlotEnd count) s = .next t ∧ shrunk t adopted relocked none) ∧
      (∀ n m l, shrinks → shown → s.custody.state = .opened → (s.range 0).lane = some n → count ≤ n →
        m < count → s.laneAt m = some l → l.state = .free →
        (∀ k < m, ∀ l', s.laneAt k = some l' → l'.state ≠ .free) →
        ∃ t, exec (.turnSlotEnd count) s = .next t ∧
          shrunk t (adopted.set m (taken l)) relocked (some (given m)))) ∧
    (s.lane.link = .down → s.custody.state ≠ .opened →
      (¬shrinks → exec (.turnSlotEnd count) s =
        .next { s with lane := ⟨cleared, .up, 0, .lane 0, none⟩, drive := s.drive.push up }) ∧
      (shrinks → ∃ t, exec (.turnSlotEnd count) s = .next t ∧
        shrunk t cleared (relocked.push up) none)) ∧
    (s.lane.link = .down → s.custody.state = .opened →
      (¬shrinks →
        (∀ l, (s.range 0).lane = none → s.laneAt 0 = some l → l.state = .free →
          exec (.turnSlotEnd count) s = .next (bound (cleared.set 0 (taken l)) 0)) ∧
        (∀ n l, (s.range 0).lane = some n → s.laneAt n = some l →
          (l.state = .loading → exec (.turnSlotEnd count) s = .next (bound cleared n)) ∧
          (l.state = .clearing → exec (.turnSlotEnd count) s =
            .next { s with lane := ⟨cleared, .up, 0, .lane 0, none⟩, drive := s.drive.push up }))) ∧
      (shrinks → shown →
        (∀ l, (∀ n, (s.range 0).lane = some n → count ≤ n) → s.laneAt 0 = some l → l.state = .free →
          ∃ t, exec (.turnSlotEnd count) s = .next t ∧
            shrunk t (cleared.set 0 (taken l)) (relocked.push up) (some (given 0))) ∧
        (∀ n l, (s.range 0).lane = some n → n < count → s.laneAt n = some l →
          l.state = .loading ∨ l.state = .clearing →
          ∃ t, exec (.turnSlotEnd count) s = .next t ∧
            shrunk t cleared (relocked.push up)
              (some (if l.state = .loading then given n else s.range 0)))))

/-- A slot without an answer: a lane's last outcome is SILENT; a turn slot counts the frame silent if every
lane's was, and the third such frame takes the link DOWN, every lane FREE and planned CLEAR and every range
that had one without it and without rights, with RANGE_RELOCKED in ascending range id for each that had a
right, then LANE_LINK_DOWN, then PRESENTATION_CHANGED where the epoch rose (R54, R62, R63, R180).  The model's own:
the position field is lane 0 while the link is DOWN (log entry 6). -/
def Obligations.SilentSlotEnds : Prop :=
  ∀ s : State, s.powered = true → s.lane.link = .up → s.NoHold →
    let silent : Bool := s.lane.lanes.all fun l => l.last = some .silent
    let turn (k : Nat) : State :=
      { s with lane := { s.lane with silence := k, position := .lane 0, sent := none } }
    let relocked : PortState :=
      ((List.finRange 16).filter fun r => (s.range r).lane.isSome && (s.range r).hasRight).foldl
        (fun q r => q.push ⟨.rangeRelocked, some r, none, s.epoch, s.custody.state⟩) s.drive
    (∀ n l x, s.InSlot n l x → exec .slotAnswerWindowExpiry s =
      .next { s with lane := s.lane.after (s.lane.lanes.set n { l with last := some .silent }) n }) ∧
    (s.lane.position = .turn →
      (silent = false → exec .slotAnswerWindowExpiry s = .next (turn 0)) ∧
      (silent = true → s.lane.silence < 2 →
        exec .slotAnswerWindowExpiry s = .next (turn (s.lane.silence + 1))) ∧
      (silent = true → 2 ≤ s.lane.silence →
        s.custody.state ≠ .opened ∨ (s.range 0).lane.isSome = true →
        ∃ t, exec .slotAnswerWindowExpiry s = .next t ∧
          t.lane = ⟨s.lane.lanes.map fun l => ⟨.free, none, none, .clear, l.last, [], 0⟩,
            .down, 0, .lane 0, none⟩ ∧
          (∀ r, (s.range r).lane = none → t.range r = s.range r) ∧
          (∀ r, (s.range r).lane.isSome = true →
            (t.range r).lane = none ∧ (t.range r).hasRight = false ∧
              (t.range r).stored = (s.range r).stored ∧
              ((s.range r).hasRight = true → (t.range r).holder = none)) ∧
          t.epoch = (if t.concealedSet = s.concealedSet then s.epoch else s.epoch + 1) ∧
          t = { s with
            ranges := t.ranges, lane := t.lane, epoch := t.epoch
            drive :=
              let q := relocked.push ⟨.laneLinkDown, none, none, s.epoch, s.custody.state⟩
              if t.epoch = s.epoch then q else q.push (changed t.epoch s.custody.state) }))

/-- LANE_HOLD by custody and link, taking effect at the end of the slot in progress: whatever ends the slot
has its own effect, and then the link is HELD with the reply OK, or the reply is STATE where a custody
response has withdrawn the hold or the slot took the link DOWN.  LANE_RELEASE ends a hold at once and is
otherwise answered OK with no change (R65, R67, R68). -/
def Obligations.HoldAndRelease : Prop :=
  ∀ (s : State) (tag : Byte),
    (s.Ready .drive →
      let hidden : Prop := s.custody.state = .concealed ∨ s.custody.state = .erased ∨
        s.custody.state = .scrubbing ∨ s.custody.state = .spent
      let answer (r : Result) : Host.Outcome State Fault Refusal :=
        .next { s with drive := s.drive.answered .laneHold tag (.code r) }
      (hidden ∨ s.lane.link = .down → exec (.laneHold .drive tag []) s = answer .state) ∧
      (¬hidden → s.lane.link = .held → exec (.laneHold .drive tag []) s = answer .ok) ∧
      (¬hidden → s.lane.link = .up → exec (.laneHold .drive tag []) s =
        .next { s with drive := s.drive.flying .laneHold tag (.holding false) }) ∧
      (s.lane.link = .held → exec (.laneRelease .drive tag []) s =
        .next { s with
          lane := { s.lane with link := .up }
          drive := s.drive.answered .laneRelease tag (.code .ok) }) ∧
      (s.lane.link ≠ .held → exec (.laneRelease .drive tag []) s =
        .next { s with drive := s.drive.answered .laneRelease tag (.code .ok) })) ∧
    (∀ n l, s.Hears .drive → s.lane.link = .up → s.lane.position = .lane n → s.laneAt n = some l →
      s.lane.sent = some .clear → s.drive.inFlight = some ⟨.laneHold, tag, .holding false⟩ →
      let lane := { s.lane.after (s.lane.lanes.set n { l with last := some .silent }) n with link := .held }
      exec .slotAnswerWindowExpiry s =
        .next { s with lane := lane, drive := s.drive.finished .laneHold tag (.code .ok) }) ∧
    (∀ (c : Instr) (withdrawn : Bool) (u : State), s.Hears .drive → s.lane.link = .up →
      s.drive.inFlight = some ⟨.laneHold, tag, .holding withdrawn⟩ →
      (c = .slotAnswerWindowExpiry ∨ (∃ x, c = .loadSlotEnd x) ∨ (∃ x, c = .clearSlotEnd x) ∨
        (∃ x, c = .probeSlotEnd x) ∨ ∃ n, c = .turnSlotEnd n) →
      exec c { s with drive := { s.drive with inFlight := none } } = .next u →
      u.lane.position ≠ s.lane.position →
      (withdrawn = true ∨ u.lane.link = .down → exec c s =
        .next { u with drive := u.drive.finished .laneHold tag (.code .state) }) ∧
      (withdrawn = false → u.lane.link ≠ .down → exec c s =
        .next { u with
          lane := { u.lane with link := .held }
          drive := u.drive.finished .laneHold tag (.code .ok) }))

/-! ## Custody -/

/-- SET_POLICY at its refund: STATE outside GUARDED and WARNED; FROZEN where the frozen mark is set and a
value is looser than the stored one; else one Policy entry with the new values, the wipe secret's digest by
its action and the frozen mark as it was.  FREEZE_POLICY enters the record with the mark set, or is answered
OK at once where it is set (R110, R112, R113). -/
def Obligations.PolicyRequests : Prop :=
  ∀ (s : State) (tag : Byte) (t : TriesRec),
    let inUse : Prop := s.custody.state = .guarded ∨ s.custody.state = .warned
    let p := s.policy
    let enters (k : ReqKind) (p' : PolicyRec) : Host.Outcome State Fault Refusal :=
      .next { s.refundTaken 0 t with
        queue := [⟨.single .policy, [.policy p'], [.policyStored, .answer .drive .ok]⟩]
        drive := s.drive.committing k tag }
    let answer (k : ReqKind) (r : Result) : Host.Outcome State Fault Refusal :=
      .next { s.refundTaken 0 t with drive := s.drive.finished k tag (.code r) }
    (∀ v, s.AtRefund .setPolicy tag 0 (.setPolicy v) t →
      let hours (stored new : Nat) : Prop := stored = 0 ∨ 1 ≤ new ∧ new ≤ stored
      let levels : Prop := p.tryExhaustion.rank ≤ v.tryExhaustion.rank ∧
        p.checkinExpired.rank ≤ v.checkinExpired.rank ∧ p.foreignStart.rank ≤ v.foreignStart.rank ∧
        p.remoteOrder.rank ≤ v.remoteOrder.rank ∧ p.adminOrder.rank ≤ v.adminOrder.rank
      let tight : Prop := levels ∧ hours p.checkinPeriod v.checkinPeriod ∧
        p.warningMargin ≤ v.warningMargin ∧ hours p.concealHold v.concealHold ∧
        v.deviceTryLimit ≤ p.deviceTryLimit ∧ v.foreignLimit ≤ p.foreignLimit ∧
        (v.action = .keep ∨ p.wipeDigest = none)
      (¬inUse → exec .commitComplete s = answer .setPolicy .state) ∧
      (inUse → p.frozen = true → ¬tight → exec .commitComplete s = answer .setPolicy .frozen) ∧
      (inUse → p.frozen = false ∨ tight →
        (s.supplyWarning = true → exec .commitComplete s = answer .setPolicy .deferred) ∧
        (s.supplyWarning = false → exec .commitComplete s =
          enters .setPolicy
            ⟨v.tryExhaustion, v.checkinExpired, v.foreignStart, v.remoteOrder, v.adminOrder,
              v.checkinPeriod, v.warningMargin, v.concealHold, v.deviceTryLimit, v.foreignLimit,
              match v.action with
              | .keep => p.wipeDigest
              | .set => some (Config.digest (leBytes 32 v.secret.toNat))
              | .remove => none,
              p.frozen⟩))) ∧
    (s.AtRefund .freezePolicy tag 0 .freezePolicy t →
      (¬inUse → exec .commitComplete s = answer .freezePolicy .state) ∧
      (inUse → p.frozen = true → exec .commitComplete s = answer .freezePolicy .ok) ∧
      (inUse → p.frozen = false → s.supplyWarning = false → exec .commitComplete s =
        enters .freezePolicy { p with frozen := true }))

/-- A Policy record commit completes: its values are in force; where no cause follows nothing else changes;
a foreign-start count at the new limit, a counting clock at the new expiry point and a device count at the
new limit each take their trigger, at the level the new values give (R72, R111).  A second response queues its
CUSTODY_CHANGED behind the first's PRESENTATION_CHANGED, with the new epoch (R129, R180; the order of the causes and
of these notices is the model's reading, log entries 21 and 25).  That a new conceal hold takes no escalation in
this event is the model's choice, log entry 54. -/
def Obligations.PolicyTakesEffect : Prop :=
  ∀ (s : State) (k : ReqKind) (tag : Byte) (p : PolicyRec),
    s.AtCommit .drive k tag ⟨.single .policy, [.policy p], [.policyStored, .answer .drive .ok]⟩ →
    let inUse : Prop := s.custody.state = .guarded ∨ s.custody.state = .warned
    let counting : Prop := inUse ∧ p.checkinPeriod ≠ 0 ∧ s.pairing.isSome = true
    let margin := min p.warningMargin p.checkinPeriod
    let foreign : Prop := inUse ∧ p.foreignLimit ≤ s.custody.foreignCount
    let expired : Prop := counting ∧ p.checkinPeriod * 60 ≤ s.custody.checkin
    let warned : Prop := counting ∧ s.custody.state = .guarded ∧
      (p.checkinPeriod - margin) * 60 ≤ s.custody.checkin
    let tries : Prop := p.deviceTryLimit ≤ s.tries.device
    (¬foreign → ¬expired → ¬warned → ¬tries → exec .commitComplete s =
      .next { s with
        store := { s.store with policy := p }
        policy := p, queue := []
        drive := s.drive.finished k tag (.code .ok) }) ∧
    (∃ t, exec .commitComplete s = .next t ∧ t.policy = p ∧
      t.tries.device = min s.tries.device p.deviceTryLimit ∧
      (foreign → p.foreignStart.target.strength ≤ t.custody.state.strength) ∧
      (expired → p.checkinExpired.target.strength ≤ t.custody.state.strength) ∧
      (inUse → tries → p.tryExhaustion.target.strength ≤ t.custody.state.strength) ∧
      (warned → ¬foreign → ¬expired → ¬tries → t.custody.state = .warned)) ∧
    (foreign → tries → ¬expired → p.foreignStart = .conceal → p.tryExhaustion ≠ .conceal →
      s.drive.notices = [] → s.platform.notices = [] →
      ∃ t, exec .commitComplete s = .next t ∧
        let c := p.tryExhaustion.target
        let moves (e : Epoch) : Notice := ⟨.custodyChanged, none, none, e, c⟩
        t.custody.state = c ∧ t.epoch = s.epoch + 1 ∧
        t.platform.notices = [moves s.epoch, moves (s.epoch + 1)] ∧
        t.drive.notices = moves s.epoch ::
          (if s.lane.link = .held then [⟨.laneLinkUp, none, none, s.epoch, c⟩] else []) ++
          [changed (s.epoch + 1) c, moves (s.epoch + 1)])

/-- PAIR in OPEN and GUARDED: the pairing key is the digest of the secret and the verdict PAIRED at once,
in GUARDED the check-in clock and the foreign count 0, with the entries behind them; elsewhere STATE, FROZEN
under a frozen policy; the completion of its last entry brings the reply OK (R114). -/
def Obligations.PairTiesTheDrive : Prop :=
  (∀ (s : State) (tag : Byte) (pl : List Byte), s.Ready .platform → pl.length = 32 →
    let k := Config.digest (leBytes 32 (leNat pl))
    let answer (r : Result) : Host.Outcome State Fault Refusal :=
      .next { s with platform := s.platform.answered .pair tag (.code r) }
    let flying := s.platform.flying .pair tag .committing
    let pairing (acts : List Act) : Entry := ⟨.single .pairing, [.pairing (some k)], acts⟩
    (s.custody.state ≠ .opened → s.custody.state ≠ .guarded →
      exec (.pair .platform tag pl) s = answer .state) ∧
    ((s.custody.state = .opened ∨ s.custody.state = .guarded) →
      (s.policy.frozen = true → exec (.pair .platform tag pl) s = answer .frozen) ∧
      (s.policy.frozen = false → s.supplyWarning = true →
        exec (.pair .platform tag pl) s = answer .deferred)) ∧
    (s.policy.frozen = false → s.supplyWarning = false → s.queue = [] → s.held = [] →
      (s.custody.state = .opened → exec (.pair .platform tag pl) s =
        .next { s with
          pairing := some k, custody := { s.custody with verdict := .paired }
          queue := [pairing [.answer .platform .ok]], platform := flying }) ∧
      (s.custody.state = .guarded → exec (.pair .platform tag pl) s =
        .next { s with
          pairing := some k
          custody := { s.custody with
            verdict := .paired, checkin := 0, checkinSecs := 0, foreignCount := 0 }
          queue := [pairing [], ⟨.single .custody,
            [.custody ⟨.guarded, 0, 0, true, s.custody.escalation, true, s.custody.target⟩],
            [.answer .platform .ok]⟩]
          platform := flying }))) ∧
  ∀ (s : State) (tag : Byte) (k : Option Secret) (c : CustodyRec),
    let ended := s.platform.finished .pair tag (.code .ok)
    (s.AtCommit .platform .pair tag ⟨.single .pairing, [.pairing k], [.answer .platform .ok]⟩ →
      exec .commitComplete s = .next { s with
        store := { s.store with pairing := k }, queue := [], platform := ended }) ∧
    (s.AtCommit .platform .pair tag ⟨.single .custody, [.custody c], [.answer .platform .ok]⟩ →
      exec .commitComplete s = .next { s with
        store := { s.store with custody := c }, queue := [], platform := ended })

/-- CHALLENGE in every custody state draws a nonce, keeps it as the outstanding challenge in place of any
earlier one and replies OK with it, with no commit; RESTART keeps it and a start has none (R115). -/
def Obligations.ChallengeIssuesANonce : Prop :=
  ∀ s : State,
    (∀ tag, s.Ready .platform → exec (.challenge .platform tag []) s =
      .next { s with
        draws := s.draws + 1
        challenge := some (Config.randomNonce s.draws)
        platform := s.platform.answered .challenge tag
          (.nonce (Config.randomNonce s.draws)) }) ∧
    (∃ t, exec .restartTakesEffect s = .next t ∧ t.challenge = s.challenge) ∧
    (∀ kept, ∃ t, exec (.startInstant kept) s = .next t ∧ t.challenge = none)

/-- CHECK_IN: STATE without a pairing record or beyond WARNED, DENIED without a challenge, each keeping the
challenge; a mismatch consumes it and makes a PENDING verdict FOREIGN; a match in GUARDED or WARNED sets
clock and count to 0, makes WARNED GUARDED with its notices and PENDING PAIRED, and enters the Custody
record, whose completion brings the reply OK with the custody state; in OPEN it needs no commit (R116,
R117). -/
def Obligations.CheckInAnswersTheChallenge : Prop :=
  (∀ (s : State) (tag : Byte) (pl : List Byte), s.Ready .platform → pl.length = 32 →
    let inUse : Prop := s.custody.state = .guarded ∨ s.custody.state = .warned
    let run := exec (.checkIn .platform tag pl) s
    let reply (b : ReplyBody) : PortState := s.platform.answered .checkIn tag b
    let verdict := if s.custody.verdict = .pending then Verdict.paired else s.custody.verdict
    (s.pairing = none → run = .next { s with platform := reply (.code .state) }) ∧
    (∀ k, s.pairing = some k →
      (s.custody.state ≠ .opened → ¬inUse → run = .next { s with platform := reply (.code .state) }) ∧
      (s.custody.state = .opened ∨ inUse →
        (s.challenge = none → run = .next { s with platform := reply (.code .denied) }) ∧
        (∀ n, s.challenge = some n →
          let proof := Config.digest (leBytes 32 k.toNat ++ leBytes 16 n.toNat)
          (BitVec.ofNat 256 (leNat pl) ≠ proof →
            (s.custody.verdict ≠ .pending → run =
              .next { s with challenge := none, platform := reply (.code .denied) }) ∧
            (s.custody.verdict = .pending → ∃ t, run = .next t ∧ t.challenge = none ∧
              t.platform = reply (.code .denied) ∧ t.custody.verdict = .foreign ∧
              t.custody.foreignCount =
                (if s.custody.state = .opened then s.custody.foreignCount
                 else min (s.custody.foreignCount + 1) 15) ∧
              (s.queue = [] → s.held = [] → (t.queue.map fun e => e.acts) =
                if s.custody.state = .opened then [] else [[.foreignTest]]))) ∧
          (BitVec.ofNat 256 (leNat pl) = proof →
            (s.custody.state = .opened → run =
              .next { s with
                challenge := none, custody := { s.custody with verdict := verdict }
                platform := reply (.custody .opened) }) ∧
            (inUse → s.supplyWarning = true →
              run = .next { s with platform := reply (.code .deferred) }) ∧
            (inUse → s.supplyWarning = false → s.queue = [] → s.held = [] →
              let note : Notice := ⟨.custodyChanged, none, none, s.epoch, .guarded⟩
              let flying := s.platform.flying .checkIn tag .committing
              run = .next { s with
                challenge := none
                custody := { s.custody with
                  state := .guarded, checkin := 0, checkinSecs := 0, foreignCount := 0
                  verdict := verdict }
                queue := [⟨.single .custody,
                  [.custody ⟨.guarded, 0, 0, true, s.custody.escalation, true, s.custody.target⟩],
                  [.answer .platform .custody]⟩]
                platform := if s.custody.state = .warned then flying.push note else flying
                drive := if s.custody.state = .warned then s.drive.push note else s.drive })))))) ∧
  ∀ (s : State) (tag : Byte) (c : CustodyRec),
    s.AtCommit .platform .checkIn tag ⟨.single .custody, [.custody c], [.answer .platform .custody]⟩ →
    exec .commitComplete s = .next { s with
      store := { s.store with custody := c }, queue := []
      platform := s.platform.finished .checkIn tag (.custody s.custody.state) }

/-- A wipe order from either port: WIPE_ORDER's refusals in their order, the challenge kept until it is
compared; a match, and a WIPE at its refund, take a response of the higher of the order's level and the
policy's, answered OK at once where it changes nothing and in flight until it is stored where it does; the
completion of the entry that stores it brings the reply OK with the custody state (R121, R123 to R125, R133),
the state of that instant also where a further response has come since: the model's reading, log entry 55.
That a WIPE whose refund finds CONCEALED goes on only where its check began there, and is answered STATE
otherwise, is R80's row and R126 followed against R124 step 4, log entry 44. -/
def Obligations.WipeOrders : Prop :=
  (∀ (s : State) (tag : Byte),
    let after (l p : Level) : Level := if l.rank ≤ p.rank then p else l
    let changes (l : Level) : Prop :=
      s.custody.state ≠ .opened ∧ s.custody.state.strength < l.target.strength
    let waits (l : Level) (p : Port) : List Act := (match l with
      | .conceal => []
      | .erase => [.keysErased]
      | .scrub => if s.custody.state = .erased then [.custodyJobStored] else [.keysErased, .custodyJobStored]) ++
        [.answer p .custody]
    (∀ pl, s.Ready .platform → pl.length = 33 →
      let run := exec (.wipeOrder .platform tag pl) s
      let reply (b : ReplyBody) : PortState := s.platform.answered .wipeOrder tag b
      let l := Level.ofCode (byteAt pl 0)
      (l = none → run = .next { s with platform := reply (.code .badValue) }) ∧
      (∀ x, l = some x →
        (s.policy.wipeDigest = none → run = .next { s with platform := reply (.code .state) }) ∧
        (∀ d, s.policy.wipeDigest = some d →
          (s.challenge = none → run = .next { s with platform := reply (.code .denied) }) ∧
          (∀ n, s.challenge = some n →
            let proof := Config.digest (leBytes 32 d.toNat ++ leBytes 16 n.toNat)
            let sent := BitVec.ofNat 256 (leNat (pl.drop 1))
            (s.supplyWarning = true → run = .next { s with platform := reply (.code .deferred) }) ∧
            (s.supplyWarning = false → sent ≠ proof →
              run = .next { s with challenge := none, platform := reply (.code .denied) }) ∧
            (s.supplyWarning = false → sent = proof →
              (¬changes (after x s.policy.remoteOrder) → run =
                .next { s with
                  challenge := none, platform := reply (.custody s.custody.state) }) ∧
              (changes (after x s.policy.remoteOrder) → ∃ t, run = .next t ∧ t.challenge = none ∧
                t.custody.state = (after x s.policy.remoteOrder).target ∧
                t.platform.inFlight = some ⟨.wipeOrder, tag, .committing⟩ ∧
                t.platform.replySlot = none ∧
                (s.queue = [] → s.held = [] → (t.queue.flatMap fun e => e.acts) =
                  waits (after x s.policy.remoteOrder) .platform))))))) ∧
    (∀ a l hidden x, s.AtRefund .wipe tag a (.wipe l hidden) x →
      let admitted : Prop := s.custody.state = .guarded ∨ s.custody.state = .warned ∨
        s.custody.state = .concealed ∧ hidden = true
      let s1 := s.refundTaken a x
      (¬admitted → exec .commitComplete s =
        .next { s1 with drive := s.drive.finished .wipe tag (.code .state) }) ∧
      (admitted → ¬changes (after l s.policy.adminOrder) → exec .commitComplete s =
        .next { s1 with drive := s.drive.finished .wipe tag (.custody s.custody.state) }) ∧
      (admitted → changes (after l s.policy.adminOrder) → ∃ t, exec .commitComplete s = .next t ∧
        t.custody.state = (after l s.policy.adminOrder).target ∧
        t.drive.inFlight = some ⟨.wipe, tag, .committing⟩ ∧ t.drive.replySlot = none ∧
        (t.queue.flatMap fun e => e.acts) = waits (after l s.policy.adminOrder) .drive))) ∧
  ∀ (s : State) (tag : Byte) (p : Port) (k : ReqKind) (c : CustodyRec),
    let stored : State := { s with store := { s.store with custody := c }, queue := [] }
    let ended := (s.port p).finished k tag (.custody s.custody.state)
    (s.AtCommit p k tag ⟨.single .custody, [.custody c], [.answer p .custody]⟩ →
      exec .commitComplete s = .next (stored.setPort p ended)) ∧
    (∀ g, s.geometry = some g →
      s.AtCommit p k tag ⟨.single .custody, [.custody c], [.custodyJobStored, .answer p .custody]⟩ →
      exec .commitComplete s = .next ({ stored with
        scrub := { s.scrub with
          job := some ⟨⟨.custody, none, 0, g.capacity, 0, false⟩, 0, [], 0⟩, waiting := [] } }.setPort p
            ended))

/-- A response changes nothing in OPEN or at or above its target.  Otherwise custody becomes the target;
from GUARDED or WARNED every range loses its rights, every lane is released, a hold ends, the mode is BLANK
with one epoch increment, the escalation clock starts and a LANE_HOLD in flight is withdrawn; the notices are
CUSTODY_CHANGED on both ports, then LANE_LINK_UP for a hold ended, both with the epoch before, then
PRESENTATION_CHANGED for the entry to CONCEALED; a job discarded leaves no cursor in a waiting final checkpoint; the
storing entry is entered (R65, R122, R123, R129 to R133, R157, R180). -/
def Obligations.ResponsesMoveCustody : Prop :=
  ∀ (s : State) (l : Level) (acts : List Act),
    let c := s.custody.state
    let t := s.respond l acts
    (c = .opened ∨ l.target.strength ≤ c.strength → t = s) ∧
    (c ≠ .opened → c.strength < l.target.strength →
      t.custody.state = l.target ∧ t.store = s.store ∧ t.keys = s.keys ∧ t.rootKey = s.rootKey ∧
      t.authorities = s.authorities ∧ t.tries = s.tries ∧ t.policy = s.policy ∧
      (∀ r, (t.range r).stored = (s.range r).stored ∧ (t.range r).lane = (s.range r).lane) ∧
      (c.strength = 0 →
        t.mode = .blank ∧ t.epoch = s.epoch + 1 ∧
        (∀ r, (t.range r).hasRight = false ∧ (t.range r).holder = none) ∧
        t.lane.lanes = s.lane.lanes.map LaneRec.release ∧
        t.lane.link = (if s.lane.link = .held then .up else s.lane.link) ∧
        t.custody.escalation = 0 ∧ t.custody.target = s.policy.escalationTarget ∧
        ∀ k tag b, s.drive.inFlight = some ⟨k, tag, .holding b⟩ →
          t.drive.inFlight = some ⟨k, tag, .holding true⟩) ∧
      (0 < c.strength → t.mode = s.mode ∧ t.epoch = s.epoch ∧ t.ranges = s.ranges ∧ t.lane = s.lane) ∧
      (l = .conceal → t.scrub = s.scrub) ∧
      (l ≠ .conceal → c ≠ .erased → t.scrub.job = none ∧ t.scrub.waiting = [] ∧
        ∀ e ∈ t.queue.tail, e.key = .final → ∀ k r n, RecordWrite.finalCursor k r n ∉ e.writes) ∧
      (s.queue = [] → s.held = [] → s.drive.notices = [] → s.platform.notices = [] →
        t.platform.notices.map (fun n => n.kind) = [.custodyChanged] ∧
        t.drive.notices.map (fun n => n.kind) =
          .custodyChanged :: (if c.strength = 0 ∧ s.lane.link = .held then [.laneLinkUp] else []) ++
            (if c.strength = 0 then [.presentationChanged] else []) ∧
        (∀ n ∈ t.drive.notices ++ t.platform.notices, n.custody = l.target ∧
          n.epoch = if n.kind = .presentationChanged then t.epoch else s.epoch) ∧
        t.queue.map (fun e => e.key) =
          match l with
          | .conceal => [.single .custody]
          | .erase => [.eraseGroup]
          | .scrub => if c = .erased then [.single .journal, .single .custody] else [.eraseGroup]))

/-- The Key-erase group of an entry to ERASED or SCRUBBING: when it completes, every present range is VOID,
every key slot keeps its generation and no key, the root key is the one drawn for the group, every
authority is UNSET with backoff 0 and its try limit kept, no range has a lane and no lane record names a range,
each lane otherwise as it was; the store holds the same.  A
custody job, where the group carries one, becomes current at cursor 0, and a WIPE or WIPE_ORDER that waits on
the group is answered OK with the custody state, which is the state of that instant also where a further response
has come since: the model's reading, log entry 55 (R124, R131 to R133). -/
def Obligations.KeyEraseDestroysTheKeys : Prop :=
  ∀ (s : State) (root : Secret) (c : CustodyRec) (j : JournalRec) (acts : List Act),
    s.powered = true → s.held = [] → s.queue = [eraseGroupEntry root c j (.keysErased :: acts)] →
    (∀ x ∈ acts, x = .custodyJobStored ∨ ∃ p, x = .answer p .custody) →
    ∃ t, exec .commitComplete s = .next t ∧ t.queue = [] ∧ t.rootKey = root ∧
      (∀ r, (t.range r).stored = (s.range r).stored.map (fun x => { x with state := .void }) ∧
        (t.range r).lane = none ∧
        t.keys[r.val] = ⟨s.keys[r.val].generation, none⟩) ∧
      (∀ a : AuthId, t.authorities[a.val] = ⟨.unset, none, none, s.authorities[a.val].tryLimit⟩ ∧
        t.backoff[a.val] = 0) ∧
      t.store.identity = ⟨s.store.identity.geometry, root⟩ ∧ t.store.custody = c ∧
      t.store.journal = j ∧ t.store.policy = s.store.policy ∧ t.store.tries = s.store.tries ∧
      t.store.pairing = s.store.pairing ∧
      (∀ r : RangeId,
        t.store.keys[r.val] = ⟨s.store.keys[r.val].generation, none⟩ ∧
        t.store.ranges[r.val] = s.store.ranges[r.val].map fun x => { x with state := .void }) ∧
      (∀ a : AuthId, t.store.authorities[a.val] =
        ⟨.unset, none, none, s.store.authorities[a.val].tryLimit⟩) ∧
      t.lane = { s.lane with lanes := s.lane.lanes.map fun l => { l with range := none } } ∧
      t.custody = s.custody ∧ t.epoch = s.epoch ∧ t.mode = s.mode ∧
      (.custodyJobStored ∉ acts → t.scrub = s.scrub) ∧
      (∀ g, .custodyJobStored ∈ acts → s.geometry = some g →
        t.scrub.job = some ⟨⟨.custody, none, 0, g.capacity, 0, false⟩, 0, [], 0⟩ ∧ t.scrub.waiting = []) ∧
      (∀ p, .answer p .custody ∉ acts → t.port p = s.port p) ∧
      ∀ p k tag, .answer p .custody ∈ acts → (s.port p).inFlight = some ⟨k, tag, .committing⟩ →
        (s.port p).replySlot = none →
        t.port p = (s.port p).finished k tag (.custody s.custody.state)

/-- REVERT: STATE outside ERASED and SPENT, DEFERRED under Supply Warning, BUSY with no free entry, else its
first Policy entry; each completion enters the next of its commits, in the rule's order, that of the Policy
commit after a Tries write where the stored limit is at or below the device failure count, which becomes that
limit (R72; that it does so here is the model's reading, log entry 18); it stops with STATE
where custody has left ERASED and SPENT and with DEFERRED under Supply Warning, what its commits wrote taken
into the live state, range 0 keeping its state and losing the drawn key again; and when its Custody record
completes the drive is OPEN with range 0 ACTIVE under its new key, the explicit ranges and the pairing gone,
the mode NORMAL, the epoch one higher, CUSTODY_CHANGED on both ports and PRESENTATION_CHANGED behind it on the
Drive Port (R128, R180).  That the seconds of both clocks are 0 with the clocks is the model's choice, log entry
57. -/
def Obligations.RevertReturnsToOpen : Prop :=
  ∀ (s : State) (tag : Byte),
    let spent : Prop := s.custody.state = .erased ∨ s.custody.state = .spent
    let answer (r : Result) : Host.Outcome State Fault Refusal :=
      .next { s with drive := s.drive.answered .revert tag (.code r) }
    (s.Ready .drive →
      (¬spent → exec (.revert .drive tag []) s = answer .state) ∧
      (spent → s.supplyWarning = true → exec (.revert .drive tag []) s = answer .deferred) ∧
      (spent → s.supplyWarning = false →
        (4 ≤ nonFinal s.queue ∨ s.held ≠ [] → exec (.revert .drive tag []) s = answer .busy) ∧
        (s.queue = [] → s.held = [] → exec (.revert .drive tag []) s =
          .next { s with
            queue := [⟨.single .policy, [.policy .default], [.reverted .policy]⟩]
            drive := s.drive.flying .revert tag .committing }))) ∧
    (∀ step key ws, s.AtCommit .drive .revert tag ⟨key, ws, [.reverted step]⟩ →
      let st := s.store.commit ws
      let global : RangeRec := ⟨0, 0, .shown, .active, adminOnly, .lockOnStandby⟩
      let limit := st.policy.deviceTryLimit
      let lowers : Prop := step = .policy ∧ limit ≤ s.tries.device
      let tries : TriesRec := if lowers then { s.tries with device := limit } else s.tries
      let lowered : List Entry := if lowers then [⟨.single .tries, [.tries tries], []⟩] else []
      let enters (draws : Nat) (r : RecordId) (w : RecordWrite) (next : RevertStep) : Prop :=
        exec .commitComplete s = .next { s with
          store := st, tries := tries, draws := draws
          queue := lowered ++ [⟨.single r, [w], [.reverted next]⟩] }
      (spent → s.supplyWarning = false →
        let k := Config.randomSecret s.draws
        let fresh : KeyRec :=
          ⟨s.keys[0].generation + 1, some (Config.wrapKey s.rootKey k, Config.checkFunction k)⟩
        let behind (q : RangeId) : Prop := match step with
          | .pairing => q ≠ 0
          | .absent p => q ≠ 0 ∧ p < q
          | _ => False
        (step = .policy → enters s.draws .pairing (.pairing none) .pairing) ∧
        (step = .pairing ∨ (∃ p, step = .absent p) →
          (∀ r, behind r → (s.range r).stored.isSome = true →
            (∀ q, behind q → q < r → (s.range q).stored = none) →
            enters s.draws (.range r) (.range r none) (.absent r)) ∧
          ((∀ q, behind q → (s.range q).stored = none) →
            enters (s.draws + 1) (.key 0) (.key 0 fresh) .key)) ∧
        (step = .key → enters s.draws (.range 0) (.range 0 (some global)) .range) ∧
        (step = .range →
          enters s.draws .custody (.custody ⟨.opened, 0, 0, true, 0, true, .erase⟩) .custody)) ∧
      (¬spent ∨ s.supplyWarning = true ∧ step ≠ .custody →
        let erased : Entry := ⟨.single (.key 0), [.eraseKey 0], []⟩
        let gone (r : RangeId) : Prop :=
          r ≠ 0 ∧ (s.range r).stored.isSome = true ∧ st.ranges[r.val] = none
        let keyed : Prop := step = .key ∨ step = .range ∨ step = .custody
        ∃ t, exec .commitComplete s = .next t ∧ t.store = st ∧ t.policy = st.policy ∧ t.tries = tries ∧
          t.drive.replySlot = some ⟨0x92, tag, .code (if spent then .deferred else .state)⟩ ∧
          t.drive.inFlight = none ∧ t.mode = s.mode ∧ t.rootKey = s.rootKey ∧
          (step = .policy →
            t.pairing = s.pairing ∧ t.challenge = s.challenge ∧ t.custody = s.custody) ∧
          (step ≠ .policy →
            t.pairing = none ∧ t.challenge = none ∧ t.custody = { s.custody with verdict := .absent }) ∧
          (∀ r, gone r → t.range r = ⟨none, false, false, none, none⟩) ∧
          (∀ r, r ≠ 0 → ¬gone r → t.range r = s.range r) ∧
          ((∃ r, gone r) → t.epoch = s.epoch + 1) ∧ ((∀ r, ¬gone r) → t.epoch = s.epoch) ∧
          (¬keyed → t.keys = s.keys ∧ t.range 0 = s.range 0 ∧ t.queue = lowered) ∧
          (keyed → t.keys = s.keys.set 0 ⟨st.keys[0].generation, none⟩) ∧
          (step = .key → t.range 0 = s.range 0 ∧ t.queue = [erased]) ∧
          (∀ old c, step = .range ∨ step = .custody → (s.range 0).stored = some old →
            st.ranges[0] = some c →
            let kept : RangeRec := { c with state := old.state }
            t.range 0 = { s.range 0 with stored := some kept } ∧
            t.queue = [erased, ⟨.single (.range 0), [.range 0 (some kept)], []⟩]))) ∧
    (s.AtCommit .drive .revert tag
        ⟨.single .custody, [.custody ⟨.opened, 0, 0, true, 0, true, .erase⟩], [.reverted .custody]⟩ →
      spent → (∀ r, (s.range r).lane = none) →
      ∃ t, exec .commitComplete s = .next t ∧
        t.policy = s.store.policy ∧ t.pairing = none ∧ t.challenge = none ∧ t.mode = .normal ∧
        t.epoch = s.epoch + 1 ∧
        t.custody = ⟨.opened, 0, 0, 0, 0, 0, .erase, .absent, s.custody.window⟩ ∧
        (∀ r, r ≠ 0 → t.range r = ⟨none, false, false, none, none⟩) ∧
        (t.range 0).stored = some ⟨0, 0, .shown, .active, adminOnly, .lockOnStandby⟩ ∧
        t.keys = s.keys.set 0 s.store.keys[0] ∧
        (∀ n l, s.laneAt n = some l → l.state = .free →
          (∀ m < n, ∀ l', s.laneAt m = some l' → l'.state ≠ .free) →
          (t.range 0).read = true ∧ (t.range 0).write = true ∧ (t.range 0).holder = none ∧
            (t.range 0).lane = some n ∧ t.lane.lanes = s.lane.lanes.set n { l with
              state := .loading, range := some 0
              expected := s.store.keys[0].key.map fun k => k.2
              plan := .load, votes := [], attempts := 0 }) ∧
        ((∀ l ∈ s.lane.lanes, l.state ≠ .free) → (t.range 0).hasRight = false ∧
          (t.range 0).lane = none) ∧
        t.rootKey = s.rootKey ∧ t.geometry = s.geometry ∧ t.authorities = s.authorities ∧
        t.tries = s.tries ∧
        let opened : Notice := ⟨.custodyChanged, none, none, s.epoch, .opened⟩
        t.platform = s.platform.push opened ∧
        t.drive = ((s.drive.finished .revert tag (.epoch .ok (s.epoch + 1))).push opened).push
          (changed (s.epoch + 1) .opened))

/-! ## Scrubbing -/

/-- SCRUB_TAKE answers the first reason that holds or issues the next chunk with the counter's id;
SCRUB_DONE of an id not outstanding is STALE, of an order done already OK with no change, and otherwise
marks it, removes the done orders that stand oldest, however many, and moves the cursor to the end of the last
of them, counting a chunk for each; the 64th enters a Scrub journal commit with the cursor, the job and the
waiting list (R139 to R141).  Where one SCRUB_DONE removes orders behind the 64th chunk, that the commit carries
the cursor at which the 64th was reached, and that the chunks behind it count from 0, is the model's reading, log
entry 39. -/
def Obligations.OrdersAreIssuedAndDone : Prop :=
  ∀ (s : State) (tag : Byte), s.Ready .drive →
    let take := exec (.scrubTake .drive tag []) s
    let none_ (r : NoneReason) : Host.Outcome State Fault Refusal :=
      .next { s with drive := s.drive.answered .scrubTake tag (.noOrder r) }
    let done (pl : List Byte) := exec (.scrubDone .drive tag pl) s
    let stale : Host.Outcome State Fault Refusal :=
      .next { s with drive := s.drive.answered .scrubDone tag (.code .stale) }
    (s.scrub.job = none → take = none_ .noJob ∧ ∀ pl, pl.length = 2 → done pl = stale) ∧
    (∀ j, s.scrub.job = some j →
      (j.journal.paused = true → take = none_ .paused) ∧
      (j.journal.paused = false →
        (s.supplyWarning = true → take = none_ .supply) ∧
        (s.supplyWarning = false →
          (4 ≤ j.orders.length → take = none_ .windowFull) ∧
          (j.orders.length < 4 →
            (j.issue = j.journal.stop → take = none_ .allIssued) ∧
            (j.issue < j.journal.stop →
              let n := min 2048 (j.journal.stop - j.issue)
              let id := s.scrub.nextId
              take = .next { s with
                scrub := { s.scrub with
                  job := some { j with
                    issue := j.issue + n, orders := j.orders ++ [⟨id, j.issue, n, false⟩] }
                  nextId := if id = 65535 then 1 else id + 1 }
                drive := s.drive.answered .scrubTake tag
                  (.order id j.journal.kind j.journal.range j.issue n) })))) ∧
      (∀ pl, pl.length = 2 →
        ((∀ o ∈ j.orders, o.id ≠ leNat pl) → done pl = stale) ∧
        (∀ o ∈ j.orders, o.id = leNat pl → (∀ o' ∈ j.orders, o'.id = leNat pl → o' = o) →
          (o.done = true → done pl = .next { s with
            drive := s.drive.answered .scrubDone tag (.scrubbed j.journal.cursor false) }) ∧
          (o.done = false → j.orders.head? ≠ some o → (∀ o', j.orders.head? = some o' → o'.done = false) →
            j.journal.cursor ≠ j.journal.stop → ∃ t, done pl = .next t ∧
              t.scrub.job = some { j with
                orders := j.orders.map fun x => if x.id = leNat pl then { x with done := true } else x } ∧
              t.drive = s.drive.answered .scrubDone tag (.scrubbed j.journal.cursor false)) ∧
          (∀ (d u : List Order) (e : Order), o.done = false →
            (j.orders.map fun x => if x.id = leNat pl then { x with done := true } else x) = d ++ u →
            (∀ x ∈ d, x.done = true) → (∀ x, u.head? = some x → x.done = false) →
            d.getLast? = some e → e.start + e.length ≠ j.journal.stop →
            let moved (chunks : Nat) (t : State) : Prop :=
              t.scrub = { s.scrub with job := some { j with
                journal := { j.journal with cursor := e.start + e.length }
                orders := u, chunks := chunks } } ∧
              t.drive = s.drive.answered .scrubDone tag (.scrubbed (e.start + e.length) false) ∧
              t.custody = s.custody ∧ t.ranges = s.ranges
            (j.chunks + d.length < 64 → ∃ t, done pl = .next t ∧ moved (j.chunks + d.length) t ∧
              ((∀ e ∈ s.queue.tail, e.key ≠ .final) → t.queue = s.queue)) ∧
            (∀ d1 x d2, d = d1 ++ x :: d2 → j.chunks + d1.length = 63 → d2.length < 64 →
              ∃ t, done pl = .next t ∧ moved d2.length t ∧
                (s.queue = [] → s.held = [] → t.queue = [⟨.single .journal,
                  [.journal ⟨some { j.journal with cursor := x.start + x.length }, s.scrub.waiting⟩
                    .checkpoint], []⟩]))))))

/-- RETIRE at its refund: STATE unless GUARDED or WARNED and the range is ACTIVE; else the range loses its
rights and its lane is released and the RETIRE group is entered, the range as current job where none runs and
appended to the list otherwise.  When the group completes the range is VOID without key and lane, its lane as it
was but for the binding, and the reply says whether it is the current job; in ERASED or beyond nothing is
appended and no job starts (R134, R135, R137). -/
def Obligations.RetireDestroysARangeKey : Prop :=
  ∀ (s : State) (tag : Byte) (r : RangeId),
    (∀ x, s.AtRefund .retire tag 0 (.retire r) x →
      let inUse : Prop := s.custody.state = .guarded ∨ s.custody.state = .warned
      let active : Prop := (s.range r).stored.map (fun c => c.state) = some .active
      let s1 := s.refundTaken 0 x
      (¬(inUse ∧ active) → exec .commitComplete s =
        .next { s1 with drive := s.drive.finished .retire tag (.code .state) }) ∧
      (∀ c, inUse → (s.range r).stored = some c → c.state = .active → s.supplyWarning = false →
        ∃ t, exec .commitComplete s = .next t ∧
          t.range r = { s.range r with read := false, write := false, holder := none } ∧
          (∀ q, q ≠ r → t.range q = s.range q) ∧
          (∀ n, (s.range r).lane = some n → t.laneAt n = (s.laneAt n).map LaneRec.release) ∧
          (∀ n, (s.range r).lane ≠ some n → t.laneAt n = s.laneAt n) ∧
          t.epoch = (if t.concealedSet = s.concealedSet then s.epoch else s.epoch + 1) ∧
          t.drive.inFlight = some ⟨.retire, tag, .committing⟩ ∧ t.drive.replySlot = none ∧
          (∃ how, t.queue = [⟨.retireGroup r,
            [.eraseKey r, .rangeState r .void,
              .journal (match s.scrub.job with
                | none => ⟨some ⟨.retire, some r, c.start * 8, (c.start + c.length) * 8,
                    c.start * 8, false⟩, s.scrub.waiting⟩
                | some j => ⟨some j.journal, s.scrub.waiting ++ [r]⟩) how], [.rangeRetired r]⟩]) ∧
          t = { s1 with
            ranges := t.ranges, lane := t.lane, epoch := t.epoch, queue := t.queue
            drive := t.drive })) ∧
    (∀ c j how, (s.range r).stored = some c → s.AtCommit .drive .retire tag
        ⟨.retireGroup r, [.eraseKey r, .rangeState r .void, .journal j how], [.rangeRetired r]⟩ →
      ∃ t, exec .commitComplete s = .next t ∧
        t.range r = { s.range r with stored := some { c with state := .void }, lane := none } ∧
        (∀ q, q ≠ r → t.range q = s.range q) ∧
        (∀ n, t.laneAt n = if (s.range r).lane = some n then (s.laneAt n).map fun l => { l with range := none }
          else s.laneAt n) ∧
        t.keys[r.val] = ⟨s.keys[r.val].generation, none⟩ ∧
        t.store.journal = j ∧ t.epoch = s.epoch ∧ t.queue = [] ∧ t.custody = s.custody ∧
        (2 ≤ s.custody.state.strength → (∀ q, s.scrub.job = some q → q.journal.range ≠ some r) →
          t.scrub = s.scrub ∧
          t.drive = s.drive.finished .retire tag (.retired r false s.scrub.waiting.length)) ∧
        (s.custody.state.strength < 2 → s.scrub.job = none → s.scrub.waiting = [] →
          t.scrub.job = some ⟨⟨.retire, some r, c.start * 8, (c.start + c.length) * 8, c.start * 8,
            false⟩, c.start * 8, [], 0⟩ ∧
          t.drive = s.drive.finished .retire tag (.retired r true 0)) ∧
        (∀ q, s.custody.state.strength < 2 → s.scrub.job = some q → q.journal.range ≠ some r →
          t.scrub = { s.scrub with waiting := s.scrub.waiting ++ [r] } ∧
          t.drive = s.drive.finished .retire tag (.retired r false (s.scrub.waiting.length + 1))))

/-- SCRUB_PAUSE and SCRUB_RESUME: STATE without a RETIRE job, OK at once where the mark stands already, else
a Scrub journal commit with the new mark, which changes when the commit completes, or DEFERRED under Supply
Warning (R144, R146, R158).  That a request which needs no commit is answered STATE or OK under Supply Warning
too is the model's choice, log entry 53. -/
def Obligations.PauseAndResume : Prop :=
  ∀ (s : State) (tag : Byte) (paused : Bool),
    let k : ReqKind := if paused then .scrubPause else .scrubResume
    let c : Instr := if paused then .scrubPause .drive tag [] else .scrubResume .drive tag []
    let answer (r : Result) : Host.Outcome State Fault Refusal :=
      .next { s with drive := s.drive.answered k tag (.code r) }
    let retiring (j : Job) (r : RangeId) : Prop :=
      s.scrub.job = some j ∧ j.journal.kind = .retire ∧ j.journal.range = some r
    let entry (j : Job) (r : RangeId) : Entry :=
      ⟨.single .journal,
        [.journal ⟨some { j.journal with paused := paused }, s.scrub.waiting⟩ (.mark paused)],
        [.pauseStored r paused]⟩
    (s.Ready .drive →
      (s.scrub.job = none → exec c s = answer .state) ∧
      (∀ j, s.scrub.job = some j → j.journal.kind = .custody → exec c s = answer .state) ∧
      (∀ j r, retiring j r →
        (j.journal.paused = paused → exec c s = answer .ok) ∧
        (j.journal.paused ≠ paused →
          (s.supplyWarning = true → exec c s = answer .deferred) ∧
          (s.supplyWarning = false → s.queue = [] → s.held = [] →
            exec c s = .next { s with
              queue := [entry j r], drive := s.drive.flying k tag .committing })))) ∧
    (∀ j r, retiring j r → s.AtCommit .drive k tag (entry j r) → exec .commitComplete s =
      .next { s with
        store := { s.store with
          journal := ⟨some { j.journal with paused := paused }, s.scrub.waiting⟩ }
        scrub := { s.scrub with job := some { j with journal := { j.journal with paused := paused } } }
        queue := []
        drive := s.drive.finished k tag (.code .ok) })

/-- The SCRUB_DONE that leaves every order done, the last of them at the job's end, completes the job in the same
event: a RETIRE job's range becomes BLANK with SCRUB_JOB_DONE, the next range of the list starts and a RETIRE group
is entered; a CUSTODY job makes every present range BLANK and custody SPENT with CUSTODY_CHANGED on both ports and
enters the journal without a job; that commit's completion enters the Custody record, and each later one the Range
record of the next present range, in ascending range id (R140, R142, R143, R154).  The model's own: the reply carries
the end of the job that ended (log entry 58), and a range whose absence a REVERT has written is passed over (log
entry 52). -/
def Obligations.LastOrderCompletesTheJob : Prop :=
  (∀ (s : State) (key : EntryKey) (ws : List RecordWrite) (step : SpendStep), s.powered = true →
    s.held = [] → s.queue = [⟨key, ws, [.spending step]⟩] →
    let st := s.store.commit ws
    let c := s.custody
    let owed (r : RangeId) : Prop := (s.range r).stored.isSome = true ∧ st.ranges[r.val].isSome = true
    let behind (r : RangeId) : Prop := match step with
      | .journal => False
      | .custody => True
      | .range p => p < r
    let enters (q : List Entry) : Prop := exec .commitComplete s = .next { s with store := st, queue := q }
    (step = .journal → enters [⟨.single .custody,
      [.custody ⟨c.state, c.foreignCount, c.checkin, !s.checkinCounting, c.escalation,
        !s.escalationCounting, c.target⟩], [.spending .custody]⟩]) ∧
    (step ≠ .journal →
      (∀ r, behind r → owed r → (∀ q, behind q → q < r → ¬owed q) →
        enters [⟨.single (.range r), [.range r (s.range r).stored], [.spending (.range r)]⟩]) ∧
      ((∀ q, behind q → ¬owed q) → enters []))) ∧
  ∀ (s : State) (tag : Byte) (pl : List Byte) (j : Job) (o e : Order), s.Ready .drive → pl.length = 2 →
    s.scrub.job = some j → (j.orders.find? fun x => decide (x.id = leNat pl)) = some o → o.done = false →
    (∀ x ∈ j.orders, x.id = leNat pl ∨ x.done = true) → j.orders.getLast? = some e →
    e.start + e.length = j.journal.stop → s.queue = [] → s.held = [] →
    let reply := s.drive.answered .scrubDone tag (.scrubbed j.journal.stop true)
    (∀ r c, j.journal.kind = .retire → j.journal.range = some r → (s.range r).stored = some c →
      let ranges := s.ranges.set r.val { s.range r with stored := some { c with state := .blank } } r.isLt
      let ends (x : ScrubCtl) (next : Option JournalJob) : Host.Outcome State Fault Refusal :=
        .next { s with
          ranges := ranges
          scrub := x
          queue := [⟨.retireGroup r,
            [.eraseKey r, .rangeState r .blank, .journal ⟨next, x.waiting⟩ .setsJob], []⟩]
          drive := reply.push ⟨.scrubJobDone, some r, none, s.epoch, s.custody.state⟩ }
      (s.scrub.waiting = [] → exec (.scrubDone .drive tag pl) s =
        ends { s.scrub with job := none } none) ∧
      (∀ q rest d, s.scrub.waiting = q :: rest → q ≠ r → (s.range q).stored = some d →
        let next : JournalJob :=
          ⟨.retire, some q, d.start * 8, (d.start + d.length) * 8, d.start * 8, false⟩
        exec (.scrubDone .drive tag pl) s =
          ends { s.scrub with job := some ⟨next, d.start * 8, [], 0⟩, waiting := rest } (some next))) ∧
    (j.journal.kind = .custody → ∃ t, exec (.scrubDone .drive tag pl) s = .next t ∧
      t.custody = { s.custody with state := .spent } ∧ t.scrub.job = none ∧
      t.mode = s.mode ∧ t.epoch = s.epoch ∧
      (∀ r, t.range r = { s.range r with
        stored := (s.range r).stored.map fun c => { c with state := .blank } }) ∧
      t.drive = reply.push ⟨.custodyChanged, none, none, s.epoch, .spent⟩ ∧
      t.platform = s.platform.push ⟨.custodyChanged, none, none, s.epoch, .spent⟩ ∧
      t.queue = [⟨.single .journal, [.journal ⟨none, s.scrub.waiting⟩ .plain], [.spending .journal]⟩] ∧
      t.held = [])

/-! ## The Record Store -/

/-- Records change at the completion of an entry and by no other command (R150, R155): the head entry's
writes are made, the next entry becomes the head, and an entry on which nothing waits changes nothing else.
Without an entry, or without power, COMMIT_COMPLETE changes nothing (log entry 4).  A write merges into the
waiting entry nearest the tail that contains its record, with all that waited on either, and moves it to the
tail where an earlier write of its request or sequence stands behind it; it replaces a held write of its
record; it takes a free entry, and is held where there is none (R152, R154). -/
def Obligations.StoreChangesAtCompletions : Prop :=
  (∀ (s : State) (earlier : List EntryKey) (r : RecordId) (w : RecordWrite) (acts : List Act),
    w.record = some r → (∀ j, w ≠ .journal j .checkpoint) →
    let t := s.enter earlier ⟨.single r, [w], acts⟩
    let has (e : Entry) : Prop := e.key ≠ .final ∧ ∃ x ∈ e.writes, x.record = some r
    let merged (e : Entry) : Entry := { e with
      writes := e.writes.map fun x => if x.record = some r then w else x, acts := e.acts ++ acts }
    (∀ b x a, s.held = b ++ x :: a → has x → (∀ e ∈ a, ¬has e) → earlier = [] →
      t = { s with held := b ++ merged x :: a }) ∧
    ((∀ e ∈ s.held, ¬has e) →
      (∀ h b x a, s.queue = h :: (b ++ x :: a) → has x → (∀ e ∈ a, ¬has e) →
        ((∀ e ∈ a ++ s.held, ∀ k ∈ earlier, e.holds k = false) →
          t = { s with queue := h :: (b ++ merged x :: a) }) ∧
        (s.held = [] → (∃ e ∈ a, ∃ k ∈ earlier, e.holds k = true) →
          t = { s with queue := h :: (b ++ a ++ [merged x]) })) ∧
      ((∀ e ∈ s.queue.tail, ¬has e) →
        (s.held = [] → nonFinal s.queue < 4 →
          t = { s with queue := s.queue ++ [⟨.single r, [w], acts⟩] }) ∧
        (s.held ≠ [] ∨ 4 ≤ nonFinal s.queue →
          t = { s with held := s.held ++ [⟨.single r, [w], acts⟩] })))) ∧
  (∀ (n : JournalRec) (j : JournalRec) (r : RangeId) (b : Bool),
    let merge (how : JournalWrite) : RecordWrite := mergeWrite (.journal j how) (.journal n .checkpoint)
    merge (.appends r) = .journal
      { n with waiting := if r ∈ n.waiting then n.waiting else n.waiting ++ [r] } (.appends r) ∧
    merge .setsJob = .journal { n with job := j.job } .setsJob ∧
    merge (.mark b) = .journal { n with job := n.job.map fun x => { x with paused := b } } (.mark b) ∧
    merge .plain = .journal n .checkpoint ∧ merge .checkpoint = .journal n .checkpoint) ∧
  (∀ (c : Instr) (s t : State), exec c s = .next t → c ≠ .commitComplete → t.store = s.store) ∧
  ∀ s : State,
    (s.queue = [] ∨ s.powered = false → exec .commitComplete s = .next s) ∧
    (∀ e rest, s.powered = true → s.queue = e :: rest →
      (∃ t, exec .commitComplete s = .next t ∧ t.store = s.store.commit e.writes) ∧
      (e.acts = [] → s.held = [] → exec .commitComplete s =
        .next { s with store := s.store.commit e.writes, queue := rest }) ∧
      (∀ h, e.acts = [] → s.held = [h] → nonFinal rest < 4 → (∀ x ∈ rest.tail, x.holds h.key = false) →
        exec .commitComplete s =
          .next { s with store := s.store.commit e.writes, queue := rest ++ [h], held := [] }))

/-- Supply Warning asserted places the final checkpoint, with both live clocks exact and the live cursor,
directly behind the entry under way, and none where one waits; its completion writes those fields and no
others.  A SCRUB_DONE while it waits leaves it with the live cursor of the job then current, and with none
where the job has ended.  Deasserted, it queues SUPPLY_RECOVERED and makes the counting clocks inexact again,
in the waiting checkpoint or by a Custody write (R146, R157, R158).  The model's own: a further assertion is
one (log entry 10), an assertion over a waiting checkpoint leaves its exact marks as they stand, also where a
deassertion cleared them (log entry 50), a deassertion without an assertion changes nothing (log entry 4), and
the sameness of the jobs is decided when the checkpoint is written (log entry 15). -/
def Obligations.SupplyWarningPlacesTheFinalCheckpoint : Prop :=
  ∀ s : State, s.powered = true →
    let waits : Prop := ∃ e ∈ s.queue.tail, e.key = .final
    let c := s.custody
    let clocks (cx ex : Bool) : RecordWrite := .finalClocks c.checkin c.escalation cx ex
    let cursor : List RecordWrite := match s.scrub.job with
      | none => []
      | some j => [.finalCursor j.journal.kind j.journal.range j.journal.cursor]
    let recovered := s.drive.push ⟨.supplyRecovered, none, none, s.epoch, c.state⟩
    (∀ tag pl e f t, s.Ready .drive → pl.length = 2 → f = clocks true true →
      s.queue = [e, ⟨.final, f :: cursor, []⟩] → s.held = [] →
      exec (.scrubDone .drive tag pl) s = .next t →
      t.queue[1]? = some ⟨.final, f :: (match t.scrub.job with
        | none => []
        | some j => [.finalCursor j.journal.kind j.journal.range j.journal.cursor]), []⟩) ∧
    (waits → exec .supplyWarningAsserted s = .next { s with supplyWarning := true }) ∧
    (¬waits → exec .supplyWarningAsserted s = .next { s with
      supplyWarning := true
      queue := s.queue.take 1 ++ [⟨.final, clocks true true :: cursor, []⟩] ++ s.queue.drop 1 }) ∧
    (s.queue = [⟨.final, clocks true true :: cursor, []⟩] → s.held = [] →
      ∃ t, exec .commitComplete s = .next t ∧
        t.store.custody = { s.store.custody with
          checkin := c.checkin, checkinExact := true
          escalation := c.escalation, escalationExact := true } ∧
        (∀ j b, s.scrub.job = some j → s.store.journal.job = some b →
          t.store.journal = (if b.kind = j.journal.kind ∧ b.range = j.journal.range
            then { s.store.journal with job := some { b with cursor := j.journal.cursor } }
            else s.store.journal)) ∧
        (s.scrub.job = none ∨ s.store.journal.job = none → t.store.journal = s.store.journal) ∧
        t = { s with
          store := { s.store with custody := t.store.custody, journal := t.store.journal }
          queue := [] }) ∧
    (s.supplyWarning = false → exec .supplyWarningDeasserted s = .next s) ∧
    (s.supplyWarning = true →
      let s1 : State := { s with supplyWarning := false, drive := recovered }
      (¬waits → s.checkinCounting = false → s.escalationCounting = false →
        exec .supplyWarningDeasserted s = .next s1) ∧
      (s.queue = [] → s.held = [] → s.checkinCounting = true ∨ s.escalationCounting = true →
        exec .supplyWarningDeasserted s = .next { s1 with
          queue := [⟨.single .custody, [.custody ⟨c.state, c.foreignCount, c.checkin, !s.checkinCounting,
            c.escalation, !s.escalationCounting, c.target⟩], []⟩] }) ∧
      (∀ e ws, s.queue = [e, ⟨.final, clocks true true :: ws, []⟩] →
        (∀ w ∈ ws, ∃ k r n, w = .finalCursor k r n) →
        exec .supplyWarningDeasserted s = .next { s1 with
          queue :=
            [e, ⟨.final, clocks (!s.checkinCounting) (!s.escalationCounting) :: ws, []⟩] }))

/-! ## Start-up and RESTART -/

/-- The start instant (R160 to R165): stored state from the records, corrected, volatile state at its start
values, the mode and range 0's rights from the custody state, and the causes still present taken, the escalation
of R120 among them.  A key of a range that is not ACTIVE is erased; a range 0 left ACTIVE is VOID, or BLANK in
SPENT, without its key; SCRUBBING without a job is SPENT with every range BLANK; SPENT has no VOID range; a
CUSTODY job below SCRUBBING goes; each with its commits, in that order (R23, R147, R159).  POWER_LOSS leaves
no power, no entry and no request, and the records as they stand (R179).  That a START_INSTANT is a loss and a
return on a device that has power, that its operand says whether the marker's cell kept its value, and what a
device without power shows of its volatile state, are the model's choices, log entries 8, 9 and 35.  Its readings:
the causes are found after the corrections (20), a CUSTODY job found in OPEN goes too (36), the order of the
corrections and of their commits (40), these all entered at once, the first 4 queued and the rest held (48), and
no Tries write for a capped count (45). -/
def Obligations.StartRebuildsTheDevice : Prop :=
  ∀ s : State,
    let st := s.store
    let inUse : Prop := st.custody.state = .guarded ∨ st.custody.state = .warned
    let restored (v limit : Nat) (exact : Bool) : Nat :=
      if exact = true ∨ limit = 0 then v else min (v + 15) limit
    let failures (a : AuthId) := min st.tries.failures[a.val] st.authorities[a.val].tryLimit
    let p := st.policy
    let clock := restored st.custody.checkin (p.checkinPeriod * 60) st.custody.checkinExact
    let counting : Prop := inUse ∧ p.checkinPeriod ≠ 0 ∧ st.pairing.isSome = true
    let margin := min p.warningMargin p.checkinPeriod
    let tries : Prop := inUse ∧ p.deviceTryLimit ≤ st.tries.device
    let expired : Prop := counting ∧ p.checkinPeriod * 60 ≤ clock
    let foreign : Prop := inUse ∧ p.foreignLimit ≤ st.custody.foreignCount
    let c := st.custody
    let hold := restored c.escalation (p.concealHold * 60) c.escalationExact
    let escalates : Prop := c.state = .concealed ∧ p.concealHold ≠ 0 ∧ p.concealHold * 60 ≤ hold
    let warns : Prop := counting ∧ c.state = .guarded ∧ (p.checkinPeriod - margin) * 60 ≤ clock
    let found (r : RangeId) : Option RangeState := st.ranges[r.val].map fun x => x.state
    let orphan (r : RangeId) : Bool := st.keys[r.val].key.isSome && decide (found r ≠ some .active)
    let left : Prop := found 0 = some .active ∧ 2 ≤ c.state.strength
    let ended : Prop := c.state = .scrubbing ∧ st.journal.job = none
    let corrected (r : RangeId) : Option RangeRec := st.ranges[r.val].map fun x => { x with state :=
      if ended ∨ c.state = .spent ∧ (x.state = .void ∨ r = 0 ∧ left) then .blank
      else if r = 0 ∧ left then .void else x.state }
    let present (f : RangeId → Bool) : List RecordWrite :=
      ((List.finRange 16).filter f).map fun r => .range r (corrected r)
    let stale : Prop := c.state ≠ .scrubbing ∧ c.state ≠ .spent ∧
      st.journal.job.map (fun x => x.kind) = some .custody
    let writes : List RecordWrite := (((List.finRange 16).filter orphan).map .eraseKey) ++
      (if left then .eraseKey 0 :: (if ended then [] else [.range 0 (corrected 0)]) else []) ++
      (if ended then .journal ⟨none, st.journal.waiting⟩ .plain ::
        .custody ⟨.spent, c.foreignCount, clock, true, hold, true, c.target⟩ ::
          present fun r => st.ranges[r.val].isSome
      else if c.state = .spent then present fun r => decide (found r = some .void)
      else if stale then [.journal ⟨none, st.journal.waiting⟩ .plain] else [])
    (∀ kept, ∃ t, exec (.startInstant kept) s = .next t ∧
      t.powered = true ∧ t.startMarker = true ∧
      t.startCause = (if kept = true ∧ s.startMarker = true then .supplyDip else .powerOn) ∧
      (∀ p, (t.port p).rxBuffer = [] ∧ (t.port p).replySlot = none ∧ (t.port p).inFlight = none ∧
        (t.port p).deferred = none ∧ ∀ n ∈ (t.port p).notices, n.kind ≠ .presentationChanged) ∧
      t.challenge = none ∧ t.geometry = st.identity.geometry ∧ t.rootKey = st.identity.rootKey ∧
      t.authorities = st.authorities ∧ t.policy = p ∧ t.pairing = st.pairing ∧ t.store = st ∧
      t.tries.lockout = st.tries.lockout ∧
      (∀ a : AuthId, t.tries.failures[a.val] = failures a ∧
        t.backoff[a.val] = if failures a < 3 then 0 else min (2 ^ (failures a - 3)) 256) ∧
      t.custody.verdict = (if st.pairing.isSome then .pending else .absent) ∧ t.custody.window = 0 ∧
      t.custody.checkin = clock ∧ t.custody.checkinSecs = 0 ∧ t.custody.escalationSecs = 0 ∧
      t.custody.foreignCount = st.custody.foreignCount ∧
      t.lane.lanes.length = 4 ∧ t.lane.link = .down ∧ t.lane.silence = 0 ∧
      t.lane.position = .lane 0 ∧ t.lane.sent = none ∧ t.scrub.nextId = 1 ∧
      t.mode = .ofCustody t.custody.state ∧
      (∀ r, (t.range r).holder = none ∧
        (r ≠ 0 ∨ st.custody.state ≠ .opened → (t.range r).hasRight = false ∧ (t.range r).lane = none)) ∧
      (st.custody.state = .opened → t.epoch = 0 ∧ t.custody.state = .opened ∧
        (t.range 0).read = true ∧ (t.range 0).write = true ∧ (t.range 0).lane = some 0 ∧
        (∀ l, t.laneAt 0 = some l → l.state = .loading ∧ l.plan = .load ∧ l.range = some 0)) ∧
      (inUse →
        (tries → p.tryExhaustion.target.strength ≤ t.custody.state.strength) ∧
        (expired → p.checkinExpired.target.strength ≤ t.custody.state.strength) ∧
        (foreign → p.foreignStart.target.strength ≤ t.custody.state.strength) ∧
        (¬tries → ¬expired → ¬foreign → t.epoch = 0 ∧
          t.custody.state =
            if st.custody.state = .warned ∨ counting ∧ (p.checkinPeriod - margin) * 60 ≤ clock
            then .warned else .guarded)) ∧
      (c.state = .erased ∨ c.state = .spent ∨ c.state = .scrubbing ∨ c.state = .concealed → ¬escalates →
        t.custody.state = (if ended then .spent else c.state) ∧ t.custody.escalation = hold ∧
          t.epoch = 0) ∧
      (escalates → c.target ≠ .conceal →
        t.custody.state = c.target.target ∧ t.custody.escalation = hold ∧ t.epoch = 0 ∧
        t.scrub.job = none ∧ t.scrub.waiting = [] ∧
        (∀ p, (t.port p).notices.map (fun n => n.kind) = [.custodyChanged]) ∧
        ∃ e ∈ t.queue ++ t.held, e.key = .eraseGroup) ∧
      (∀ r : RangeId, (t.range r).stored = corrected r ∧
        t.keys[r.val] = if orphan r = true ∨ r = 0 ∧ left then ⟨st.keys[r.val].generation, none⟩
          else st.keys[r.val]) ∧
      (stale ∨ ended → t.scrub.job = none) ∧
      (¬stale → t.custody.state.strength < 2 ∨ c.state = .scrubbing → ∀ j, st.journal.job = some j →
        t.scrub.job = some ⟨j, j.cursor, [], 0⟩ ∧ t.scrub.waiting = st.journal.waiting) ∧
      (s.supplyWarning = false → ¬tries → ¬expired → ¬foreign → ¬escalates → ¬warns →
        (t.queue ++ t.held).flatMap (fun e => e.writes) = writes ∧ nonFinal t.queue = min 4 writes.length)) ∧
    (s.powered = true → ∃ t, exec .powerLoss s = .next t ∧ t.powered = false ∧ t.store = st ∧
      t.startMarker = s.startMarker ∧ t.queue = [] ∧ t.held = [] ∧ t.challenge = none ∧
      (∀ p, t.port p = .empty) ∧ ∀ r, (t.range r).hasRight = false)

/-- The start values do not depend on what the device held before the loss, except through the records
(R162): two states with the same records, marker, Supply Warning level, random values and commands waiting
start alike, whatever each was doing. -/
def Obligations.StartForgetsWhatWasHeld : Prop :=
  ∀ (s t : State) (kept : Bool), s.store = t.store → s.startMarker = t.startMarker →
    s.supplyWarning = t.supplyWarning → s.draws = t.draws → s.pending = t.pending →
    exec (.startInstant kept) s = exec (.startInstant kept) t ∧
    (∀ u, exec .powerLoss s = .next u →
      exec (.startInstant kept) u = exec (.startInstant kept) s)

/-- RESTART is never in flight: it makes its reply OK with the epoch and the custody state it was taken at.  In
the event that sends it, the reply is in the slot and the rights and holders go, every lane is released, the
epoch rises once, notices, orders and a hold end, no plaintext key stays, the cause is RESTART, and the rest
stands; in OPEN range 0 has its rights again, a LOADING lane of it left as it is.  A Drive Port transaction meets
that state: a read takes the reply, any other is discarded (R48, R69, R168, R169, R172, R174).  The model's
choices: log entries 11, 41, 42 and 43. -/
def Obligations.RestartWithdrawsTheRights : Prop :=
  ∀ (s : State) (tag : Byte),
    (s.Ready .drive → exec (.restart .drive tag []) s = .next { s with
      restartPending := some ⟨0x99, tag, .restarted s.epoch s.custody.state⟩
      drive := s.drive.heard }) ∧
    (s.restartPending = none ∨ s.powered = false → exec .restartTakesEffect s = .next s) ∧
    (∀ reply, s.powered = true → s.restartPending = some reply →
      let quiet : PortState := { s.drive with notices := [], overflow := false }
      ∃ t, exec .restartTakesEffect s = .next t ∧
        t.mode = .ofCustody s.custody.state ∧ t.epoch = s.epoch + 1 ∧ t.startCause = .restart ∧
        t.restartPending = none ∧
        (∀ r, (t.range r).stored = (s.range r).stored ∧ (t.range r).holder = none ∧
          (r ≠ 0 ∨ s.custody.state ≠ .opened →
            (t.range r).hasRight = false ∧ (t.range r).lane = (s.range r).lane)) ∧
        (s.custody.state ≠ .opened → t.lane.lanes = s.lane.lanes.map LaneRec.release) ∧
        (∀ n l, s.custody.state = .opened → (s.range 0).lane = some n → s.laneAt n = some l →
          l.state = .loaded ∨ l.state = .loading ∨ l.state = .clearing →
          (t.range 0).read = true ∧ (t.range 0).write = true ∧ (t.range 0).lane = some n ∧
            t.laneAt n = some (if l.state = .loading then l else { l with
              state := .loading, range := some 0, expected := s.keys[0].key.map fun k => k.2
              plan := .load, votes := [], attempts := 0 }) ∧
            ∀ m, m ≠ n → t.laneAt m = (s.laneAt m).map LaneRec.release) ∧
        t.lane.lanes.length = s.lane.lanes.length ∧ t.lane.silence = s.lane.silence ∧
        t.lane.position = s.lane.position ∧
        t.lane.link = (if s.lane.link = .held then .up else s.lane.link) ∧
        (∀ k, t.lane.sent = some (.load k) → k = none) ∧ t.lane.sent.isSome = s.lane.sent.isSome ∧
        t.drive = { quiet with replySlot := some reply } ∧
        t.platform = { s.platform with notices := [], overflow := false } ∧
        t.scrub = { s.scrub with job := s.scrub.job.map fun j =>
          { j with orders := [], issue := j.journal.cursor } } ∧
        t.custody = s.custody ∧ t.challenge = s.challenge ∧ t.policy = s.policy ∧
        t.pairing = s.pairing ∧ t.backoff = s.backoff ∧ t.tries = s.tries ∧
        t.authorities = s.authorities ∧ t.keys = s.keys ∧ t.rootKey = s.rootKey ∧
        t.geometry = s.geometry ∧ t.store = s.store ∧ t.queue = s.queue ∧ t.held = s.held ∧
        let discarded : Host.Outcome State Fault Refusal := .next { t with drive := t.drive.heard }
        (∀ n, exec (.readTransaction .drive n) s = exec (.readTransaction .drive n) t) ∧
        (∀ k g pl, exec (requestCommand k .drive g pl) s = discarded) ∧
        (∀ k g pl, exec (.unknownKind .drive k g pl) s = discarded) ∧
        ∀ bytes, exec (.garbledFrame .drive bytes) s = discarded ∧ exec (.linkBreak .drive bytes) s = discarded ∧
          exec (.frameOverUnreadReply .drive bytes) s = discarded)

/-! ## Timers -/

/-- The custody clocks, the pairing window and the backoff timers: an advance short of every point moves
the clock alone; the warning point makes custody WARNED, the expiry point and the escalation limit take
their responses; the window makes PENDING FOREIGN with the count raised, and the commit of that count takes
FOREIGN_START where custody is in use and the count at its limit as they then stand; a backoff ends (R81, R117,
R118, R120, R121).  The model's own: CHECKIN_WARNING, CHECKIN_EXPIRED and ESCALATION are the advance with that
outcome (log entry 7), a periodic checkpoint stands behind the entry of the same event (38), and a clock that a
lowered hold finds at or past its limit escalates at its next advance (54). -/
def Obligations.TimersAdvanceAndExpire : Prop :=
  (∀ (s : State) (x : CustodyRec), s.powered = true → s.held = [] →
    s.queue = [⟨.single .custody, [.custody x], [.foreignTest]⟩] →
    let s1 : State := { s with store := { s.store with custody := x }, queue := [] }
    let due : Prop := (s.custody.state = .guarded ∨ s.custody.state = .warned) ∧
      s.policy.foreignLimit ≤ s.custody.foreignCount
    (¬due → exec .commitComplete s = .next s1) ∧
    (due → ∃ t, exec .commitComplete s = .next t ∧ t.store = s1.store ∧
      t.custody.state = s.policy.foreignStart.target ∧ t.mode = .blank ∧ t.epoch = s.epoch + 1 ∧
      t.custody.foreignCount = s.custody.foreignCount ∧ t.custody.verdict = s.custody.verdict ∧
      (∀ r, (t.range r).hasRight = false ∧ (t.range r).stored = (s.range r).stored) ∧
      (s.platform.notices = [] → t.platform.notices.map (fun n => n.kind) = [.custodyChanged]) ∧
      (s.drive.notices = [] → t.drive.notices.map (fun n => n.kind) = .custodyChanged ::
        (if s.lane.link = .held then [.laneLinkUp] else []) ++ [.presentationChanged]) ∧
      t.queue.map (fun e => e.key) =
        [if s.policy.foreignStart = .conceal then .single .custody else .eraseGroup])) ∧
  ∀ s : State, s.powered = true → s.queue = [] → s.held = [] →
    let c := s.custody
    let p := s.policy
    let margin := min p.warningMargin p.checkinPeriod
    let next := min (c.checkin + 1) (p.checkinPeriod * 60)
    let later := min (c.escalation + 1) (p.concealHold * 60)
    let clocked (v : Nat) : State := { s with custody := { c with checkin := v, checkinSecs := 0 } }
    let held (v : Nat) : State := { s with custody := { c with escalation := v, escalationSecs := 0 } }
    let periodic (v : Nat) (x : State) (cx ex : Bool) : State :=
      if v % 15 = 0 then { x with queue := [⟨.single .custody,
        [.custody ⟨x.custody.state, x.custody.foreignCount, x.custody.checkin, cx, x.custody.escalation,
          ex, x.custody.target⟩], []⟩] }
      else x
    let expires : Prop := p.checkinPeriod * 60 ≤ next
    let warns : Prop := ¬expires ∧ c.state = .guarded ∧ (p.checkinPeriod - margin) * 60 ≤ next
    (∀ a, exec (.backoffExpiry a) s = .next { s with backoff := s.backoff.set a.val 0 a.isLt }) ∧
    (c.window < 120 → ∃ t, exec .pairingWindowExpiry s = .next t ∧ t.custody.window = 120 ∧
      t.custody.verdict = (if c.verdict = .pending then .foreign else c.verdict) ∧
      t.custody.state = c.state ∧
      t.custody.foreignCount =
        (if c.verdict = .pending ∧ c.state.inUse = true then min (c.foreignCount + 1) 15
         else c.foreignCount) ∧
      (t.queue.map fun e => e.acts) =
        (if c.verdict = .pending ∧ c.state.inUse = true then [[.foreignTest]] else [])) ∧
    (s.checkinCounting = false → exec .checkinClockAdvance s = .next s) ∧
    (s.checkinCounting = true →
      (¬expires → ¬warns → exec .checkinClockAdvance s =
        .next (periodic next (clocked next) false true)) ∧
      (warns →
        let due : Notice := ⟨.checkinDue, none, none, s.epoch, .warned⟩
        let e : Entry := ⟨.single .custody,
          [.custody ⟨.warned, c.foreignCount, next, false, c.escalation, true, c.target⟩], []⟩
        let t : State := { s with
          custody := { c with state := .warned, checkin := next, checkinSecs := 0 }
          drive := s.drive.push due, platform := s.platform.push due
          queue := if next % 15 = 0 then [e, e] else [e] }
        exec .checkinWarning s = .next t ∧ exec .checkinClockAdvance s = .next t) ∧
      (expires → ∃ t, exec .checkinExpired s = .next t ∧ exec .checkinClockAdvance s = .next t ∧
        t.custody.state = p.checkinExpired.target ∧ t.custody.checkin = next ∧ t.mode = .blank ∧
        t.epoch = s.epoch + 1 ∧ ∀ r, (t.range r).hasRight = false)) ∧
    (s.escalationCounting = false → exec .escalationClockAdvance s = .next s) ∧
    (s.escalationCounting = true →
      (later < p.concealHold * 60 → exec .escalationClockAdvance s =
        .next (periodic later (held later) true false)) ∧
      (later = p.concealHold * 60 → c.target.target.strength ≥ 2 →
        ∃ t, exec .escalation s = .next t ∧ exec .escalationClockAdvance s = .next t ∧
          t.custody.state = c.target.target ∧ t.custody.escalation = later ∧ t.mode = s.mode ∧
          t.epoch = s.epoch))

/-! ## Bounds -/

/-- Every step keeps the bounds of the notice queues and of the commit queue (R151, R154, R180, R181). -/
def Obligations.EveryStepKeepsTheQueuesBounded : Prop :=
  ∀ s t : State, s.queuesBounded → step s = .next t → t.queuesBounded

/-- Every step keeps the bounds of the Lane Table, the rule of holders, the bound of the orders outstanding,
range 0 SHOWN and the Administrator in every access list (R2, R7, R10, R51, R138).  A step from a state whose
entry under way, if any, brings in no record that SET_RANGE's checks would refuse keeps explicit ranges apart
and inside [0, U), live and stored; and SET_RANGE enters no such record (R10, R11).  That the entry under way is
such a one is a condition of the second clause: it is not stated here as kept by every step. -/
def Obligations.EveryStepKeepsTheTablesBounded : Prop :=
  (∀ s t : State, s.tablesBounded → step s = .next t → t.tablesBounded) ∧
  (∀ s t : State, s.placed → (∀ e, s.queue.head? = some e → e.settled s) → step s = .next t → t.placed) ∧
  ∀ (s t : State) (tag : Byte) (x : TriesRec) (r : RangeId) (start length : Nat) (v : Visibility)
    (p : SleepPolicy), s.AtRefund .setRange tag 0 (.setRange r start length v p) x → s.placed →
    s.storedAreLive → exec .commitComplete s = .next t → ∀ e ∈ t.queue, e.settled t

/-- The state after reset meets every bound that the steps keep. -/
def Obligations.ResetMeetsTheBounds : Prop :=
  State.reset.queuesBounded ∧ State.reset.tablesBounded ∧ State.reset.placed
end

