-- ==== Sys2Proof/Laws/State.lean ====
section
/-!
SUPPORT. One lemma per field per update of State: what an update leaves unchanged, and what it sets.
-/

namespace Sys2Proof.Machine

open Sys2Proof

variable (s : State)

/-! ## Updates of one field -/

@[simp] theorem State.setRange_powered (r : RangeId) (e : RangeEntry) : (s.setRange r e).powered = s.powered := rfl
@[simp] theorem State.setRange_startMarker (r : RangeId) (e : RangeEntry) : (s.setRange r e).startMarker = s.startMarker := rfl
@[simp] theorem State.setRange_startCause (r : RangeId) (e : RangeEntry) : (s.setRange r e).startCause = s.startCause := rfl
@[simp] theorem State.setRange_restartPending (r : RangeId) (e : RangeEntry) : (s.setRange r e).restartPending = s.restartPending := rfl
@[simp] theorem State.setRange_supplyWarning (r : RangeId) (e : RangeEntry) : (s.setRange r e).supplyWarning = s.supplyWarning := rfl
@[simp] theorem State.setRange_drive (r : RangeId) (e : RangeEntry) : (s.setRange r e).drive = s.drive := rfl
@[simp] theorem State.setRange_platform (r : RangeId) (e : RangeEntry) : (s.setRange r e).platform = s.platform := rfl
@[simp] theorem State.setRange_challenge (r : RangeId) (e : RangeEntry) : (s.setRange r e).challenge = s.challenge := rfl
@[simp] theorem State.setRange_geometry (r : RangeId) (e : RangeEntry) : (s.setRange r e).geometry = s.geometry := rfl
@[simp] theorem State.setRange_mode (r : RangeId) (e : RangeEntry) : (s.setRange r e).mode = s.mode := rfl
@[simp] theorem State.setRange_epoch (r : RangeId) (e : RangeEntry) : (s.setRange r e).epoch = s.epoch := rfl
@[simp] theorem State.setRange_authorities (r : RangeId) (e : RangeEntry) : (s.setRange r e).authorities = s.authorities := rfl
@[simp] theorem State.setRange_backoff (r : RangeId) (e : RangeEntry) : (s.setRange r e).backoff = s.backoff := rfl
@[simp] theorem State.setRange_tries (r : RangeId) (e : RangeEntry) : (s.setRange r e).tries = s.tries := rfl
@[simp] theorem State.setRange_keys (r : RangeId) (e : RangeEntry) : (s.setRange r e).keys = s.keys := rfl
@[simp] theorem State.setRange_rootKey (r : RangeId) (e : RangeEntry) : (s.setRange r e).rootKey = s.rootKey := rfl
@[simp] theorem State.setRange_lane (r : RangeId) (e : RangeEntry) : (s.setRange r e).lane = s.lane := rfl
@[simp] theorem State.setRange_custody (r : RangeId) (e : RangeEntry) : (s.setRange r e).custody = s.custody := rfl
@[simp] theorem State.setRange_policy (r : RangeId) (e : RangeEntry) : (s.setRange r e).policy = s.policy := rfl
@[simp] theorem State.setRange_pairing (r : RangeId) (e : RangeEntry) : (s.setRange r e).pairing = s.pairing := rfl
@[simp] theorem State.setRange_scrub (r : RangeId) (e : RangeEntry) : (s.setRange r e).scrub = s.scrub := rfl
@[simp] theorem State.setRange_store (r : RangeId) (e : RangeEntry) : (s.setRange r e).store = s.store := rfl
@[simp] theorem State.setRange_queue (r : RangeId) (e : RangeEntry) : (s.setRange r e).queue = s.queue := rfl
@[simp] theorem State.setRange_held (r : RangeId) (e : RangeEntry) : (s.setRange r e).held = s.held := rfl
@[simp] theorem State.setRange_draws (r : RangeId) (e : RangeEntry) : (s.setRange r e).draws = s.draws := rfl
@[simp] theorem State.setRange_pending (r : RangeId) (e : RangeEntry) : (s.setRange r e).pending = s.pending := rfl

@[simp] theorem State.setBackoff_powered (a : AuthId) (n : Nat) : (s.setBackoff a n).powered = s.powered := rfl
@[simp] theorem State.setBackoff_startMarker (a : AuthId) (n : Nat) : (s.setBackoff a n).startMarker = s.startMarker := rfl
@[simp] theorem State.setBackoff_startCause (a : AuthId) (n : Nat) : (s.setBackoff a n).startCause = s.startCause := rfl
@[simp] theorem State.setBackoff_restartPending (a : AuthId) (n : Nat) : (s.setBackoff a n).restartPending = s.restartPending := rfl
@[simp] theorem State.setBackoff_supplyWarning (a : AuthId) (n : Nat) : (s.setBackoff a n).supplyWarning = s.supplyWarning := rfl
@[simp] theorem State.setBackoff_drive (a : AuthId) (n : Nat) : (s.setBackoff a n).drive = s.drive := rfl
@[simp] theorem State.setBackoff_platform (a : AuthId) (n : Nat) : (s.setBackoff a n).platform = s.platform := rfl
@[simp] theorem State.setBackoff_challenge (a : AuthId) (n : Nat) : (s.setBackoff a n).challenge = s.challenge := rfl
@[simp] theorem State.setBackoff_ranges (a : AuthId) (n : Nat) : (s.setBackoff a n).ranges = s.ranges := rfl
@[simp] theorem State.setBackoff_geometry (a : AuthId) (n : Nat) : (s.setBackoff a n).geometry = s.geometry := rfl
@[simp] theorem State.setBackoff_mode (a : AuthId) (n : Nat) : (s.setBackoff a n).mode = s.mode := rfl
@[simp] theorem State.setBackoff_epoch (a : AuthId) (n : Nat) : (s.setBackoff a n).epoch = s.epoch := rfl
@[simp] theorem State.setBackoff_authorities (a : AuthId) (n : Nat) : (s.setBackoff a n).authorities = s.authorities := rfl
@[simp] theorem State.setBackoff_tries (a : AuthId) (n : Nat) : (s.setBackoff a n).tries = s.tries := rfl
@[simp] theorem State.setBackoff_keys (a : AuthId) (n : Nat) : (s.setBackoff a n).keys = s.keys := rfl
@[simp] theorem State.setBackoff_rootKey (a : AuthId) (n : Nat) : (s.setBackoff a n).rootKey = s.rootKey := rfl
@[simp] theorem State.setBackoff_lane (a : AuthId) (n : Nat) : (s.setBackoff a n).lane = s.lane := rfl
@[simp] theorem State.setBackoff_custody (a : AuthId) (n : Nat) : (s.setBackoff a n).custody = s.custody := rfl
@[simp] theorem State.setBackoff_policy (a : AuthId) (n : Nat) : (s.setBackoff a n).policy = s.policy := rfl
@[simp] theorem State.setBackoff_pairing (a : AuthId) (n : Nat) : (s.setBackoff a n).pairing = s.pairing := rfl
@[simp] theorem State.setBackoff_scrub (a : AuthId) (n : Nat) : (s.setBackoff a n).scrub = s.scrub := rfl
@[simp] theorem State.setBackoff_store (a : AuthId) (n : Nat) : (s.setBackoff a n).store = s.store := rfl
@[simp] theorem State.setBackoff_queue (a : AuthId) (n : Nat) : (s.setBackoff a n).queue = s.queue := rfl
@[simp] theorem State.setBackoff_held (a : AuthId) (n : Nat) : (s.setBackoff a n).held = s.held := rfl
@[simp] theorem State.setBackoff_draws (a : AuthId) (n : Nat) : (s.setBackoff a n).draws = s.draws := rfl
@[simp] theorem State.setBackoff_pending (a : AuthId) (n : Nat) : (s.setBackoff a n).pending = s.pending := rfl

@[simp] theorem State.setKey_powered (r : RangeId) (k : KeyRec) : (s.setKey r k).powered = s.powered := rfl
@[simp] theorem State.setKey_startMarker (r : RangeId) (k : KeyRec) : (s.setKey r k).startMarker = s.startMarker := rfl
@[simp] theorem State.setKey_startCause (r : RangeId) (k : KeyRec) : (s.setKey r k).startCause = s.startCause := rfl
@[simp] theorem State.setKey_restartPending (r : RangeId) (k : KeyRec) : (s.setKey r k).restartPending = s.restartPending := rfl
@[simp] theorem State.setKey_supplyWarning (r : RangeId) (k : KeyRec) : (s.setKey r k).supplyWarning = s.supplyWarning := rfl
@[simp] theorem State.setKey_drive (r : RangeId) (k : KeyRec) : (s.setKey r k).drive = s.drive := rfl
@[simp] theorem State.setKey_platform (r : RangeId) (k : KeyRec) : (s.setKey r k).platform = s.platform := rfl
@[simp] theorem State.setKey_challenge (r : RangeId) (k : KeyRec) : (s.setKey r k).challenge = s.challenge := rfl
@[simp] theorem State.setKey_ranges (r : RangeId) (k : KeyRec) : (s.setKey r k).ranges = s.ranges := rfl
@[simp] theorem State.setKey_geometry (r : RangeId) (k : KeyRec) : (s.setKey r k).geometry = s.geometry := rfl
@[simp] theorem State.setKey_mode (r : RangeId) (k : KeyRec) : (s.setKey r k).mode = s.mode := rfl
@[simp] theorem State.setKey_epoch (r : RangeId) (k : KeyRec) : (s.setKey r k).epoch = s.epoch := rfl
@[simp] theorem State.setKey_authorities (r : RangeId) (k : KeyRec) : (s.setKey r k).authorities = s.authorities := rfl
@[simp] theorem State.setKey_backoff (r : RangeId) (k : KeyRec) : (s.setKey r k).backoff = s.backoff := rfl
@[simp] theorem State.setKey_tries (r : RangeId) (k : KeyRec) : (s.setKey r k).tries = s.tries := rfl
@[simp] theorem State.setKey_rootKey (r : RangeId) (k : KeyRec) : (s.setKey r k).rootKey = s.rootKey := rfl
@[simp] theorem State.setKey_lane (r : RangeId) (k : KeyRec) : (s.setKey r k).lane = s.lane := rfl
@[simp] theorem State.setKey_custody (r : RangeId) (k : KeyRec) : (s.setKey r k).custody = s.custody := rfl
@[simp] theorem State.setKey_policy (r : RangeId) (k : KeyRec) : (s.setKey r k).policy = s.policy := rfl
@[simp] theorem State.setKey_pairing (r : RangeId) (k : KeyRec) : (s.setKey r k).pairing = s.pairing := rfl
@[simp] theorem State.setKey_scrub (r : RangeId) (k : KeyRec) : (s.setKey r k).scrub = s.scrub := rfl
@[simp] theorem State.setKey_store (r : RangeId) (k : KeyRec) : (s.setKey r k).store = s.store := rfl
@[simp] theorem State.setKey_queue (r : RangeId) (k : KeyRec) : (s.setKey r k).queue = s.queue := rfl
@[simp] theorem State.setKey_held (r : RangeId) (k : KeyRec) : (s.setKey r k).held = s.held := rfl
@[simp] theorem State.setKey_draws (r : RangeId) (k : KeyRec) : (s.setKey r k).draws = s.draws := rfl
@[simp] theorem State.setKey_pending (r : RangeId) (k : KeyRec) : (s.setKey r k).pending = s.pending := rfl

@[simp] theorem State.setAuthority_powered (a : AuthId) (c : AuthorityRec) : (s.setAuthority a c).powered = s.powered := rfl
@[simp] theorem State.setAuthority_startMarker (a : AuthId) (c : AuthorityRec) : (s.setAuthority a c).startMarker = s.startMarker := rfl
@[simp] theorem State.setAuthority_startCause (a : AuthId) (c : AuthorityRec) : (s.setAuthority a c).startCause = s.startCause := rfl
@[simp] theorem State.setAuthority_restartPending (a : AuthId) (c : AuthorityRec) : (s.setAuthority a c).restartPending = s.restartPending := rfl
@[simp] theorem State.setAuthority_supplyWarning (a : AuthId) (c : AuthorityRec) : (s.setAuthority a c).supplyWarning = s.supplyWarning := rfl
@[simp] theorem State.setAuthority_drive (a : AuthId) (c : AuthorityRec) : (s.setAuthority a c).drive = s.drive := rfl
@[simp] theorem State.setAuthority_platform (a : AuthId) (c : AuthorityRec) : (s.setAuthority a c).platform = s.platform := rfl
@[simp] theorem State.setAuthority_challenge (a : AuthId) (c : AuthorityRec) : (s.setAuthority a c).challenge = s.challenge := rfl
@[simp] theorem State.setAuthority_ranges (a : AuthId) (c : AuthorityRec) : (s.setAuthority a c).ranges = s.ranges := rfl
@[simp] theorem State.setAuthority_geometry (a : AuthId) (c : AuthorityRec) : (s.setAuthority a c).geometry = s.geometry := rfl
@[simp] theorem State.setAuthority_mode (a : AuthId) (c : AuthorityRec) : (s.setAuthority a c).mode = s.mode := rfl
@[simp] theorem State.setAuthority_epoch (a : AuthId) (c : AuthorityRec) : (s.setAuthority a c).epoch = s.epoch := rfl
@[simp] theorem State.setAuthority_backoff (a : AuthId) (c : AuthorityRec) : (s.setAuthority a c).backoff = s.backoff := rfl
@[simp] theorem State.setAuthority_tries (a : AuthId) (c : AuthorityRec) : (s.setAuthority a c).tries = s.tries := rfl
@[simp] theorem State.setAuthority_keys (a : AuthId) (c : AuthorityRec) : (s.setAuthority a c).keys = s.keys := rfl
@[simp] theorem State.setAuthority_rootKey (a : AuthId) (c : AuthorityRec) : (s.setAuthority a c).rootKey = s.rootKey := rfl
@[simp] theorem State.setAuthority_lane (a : AuthId) (c : AuthorityRec) : (s.setAuthority a c).lane = s.lane := rfl
@[simp] theorem State.setAuthority_custody (a : AuthId) (c : AuthorityRec) : (s.setAuthority a c).custody = s.custody := rfl
@[simp] theorem State.setAuthority_policy (a : AuthId) (c : AuthorityRec) : (s.setAuthority a c).policy = s.policy := rfl
@[simp] theorem State.setAuthority_pairing (a : AuthId) (c : AuthorityRec) : (s.setAuthority a c).pairing = s.pairing := rfl
@[simp] theorem State.setAuthority_scrub (a : AuthId) (c : AuthorityRec) : (s.setAuthority a c).scrub = s.scrub := rfl
@[simp] theorem State.setAuthority_store (a : AuthId) (c : AuthorityRec) : (s.setAuthority a c).store = s.store := rfl
@[simp] theorem State.setAuthority_queue (a : AuthId) (c : AuthorityRec) : (s.setAuthority a c).queue = s.queue := rfl
@[simp] theorem State.setAuthority_held (a : AuthId) (c : AuthorityRec) : (s.setAuthority a c).held = s.held := rfl
@[simp] theorem State.setAuthority_draws (a : AuthId) (c : AuthorityRec) : (s.setAuthority a c).draws = s.draws := rfl
@[simp] theorem State.setAuthority_pending (a : AuthId) (c : AuthorityRec) : (s.setAuthority a c).pending = s.pending := rfl

@[simp] theorem State.setLanes_powered (l : List LaneRec) : (s.setLanes l).powered = s.powered := rfl
@[simp] theorem State.setLanes_startMarker (l : List LaneRec) : (s.setLanes l).startMarker = s.startMarker := rfl
@[simp] theorem State.setLanes_startCause (l : List LaneRec) : (s.setLanes l).startCause = s.startCause := rfl
@[simp] theorem State.setLanes_restartPending (l : List LaneRec) : (s.setLanes l).restartPending = s.restartPending := rfl
@[simp] theorem State.setLanes_supplyWarning (l : List LaneRec) : (s.setLanes l).supplyWarning = s.supplyWarning := rfl
@[simp] theorem State.setLanes_drive (l : List LaneRec) : (s.setLanes l).drive = s.drive := rfl
@[simp] theorem State.setLanes_platform (l : List LaneRec) : (s.setLanes l).platform = s.platform := rfl
@[simp] theorem State.setLanes_challenge (l : List LaneRec) : (s.setLanes l).challenge = s.challenge := rfl
@[simp] theorem State.setLanes_ranges (l : List LaneRec) : (s.setLanes l).ranges = s.ranges := rfl
@[simp] theorem State.setLanes_geometry (l : List LaneRec) : (s.setLanes l).geometry = s.geometry := rfl
@[simp] theorem State.setLanes_mode (l : List LaneRec) : (s.setLanes l).mode = s.mode := rfl
@[simp] theorem State.setLanes_epoch (l : List LaneRec) : (s.setLanes l).epoch = s.epoch := rfl
@[simp] theorem State.setLanes_authorities (l : List LaneRec) : (s.setLanes l).authorities = s.authorities := rfl
@[simp] theorem State.setLanes_backoff (l : List LaneRec) : (s.setLanes l).backoff = s.backoff := rfl
@[simp] theorem State.setLanes_tries (l : List LaneRec) : (s.setLanes l).tries = s.tries := rfl
@[simp] theorem State.setLanes_keys (l : List LaneRec) : (s.setLanes l).keys = s.keys := rfl
@[simp] theorem State.setLanes_rootKey (l : List LaneRec) : (s.setLanes l).rootKey = s.rootKey := rfl
@[simp] theorem State.setLanes_custody (l : List LaneRec) : (s.setLanes l).custody = s.custody := rfl
@[simp] theorem State.setLanes_policy (l : List LaneRec) : (s.setLanes l).policy = s.policy := rfl
@[simp] theorem State.setLanes_pairing (l : List LaneRec) : (s.setLanes l).pairing = s.pairing := rfl
@[simp] theorem State.setLanes_scrub (l : List LaneRec) : (s.setLanes l).scrub = s.scrub := rfl
@[simp] theorem State.setLanes_store (l : List LaneRec) : (s.setLanes l).store = s.store := rfl
@[simp] theorem State.setLanes_queue (l : List LaneRec) : (s.setLanes l).queue = s.queue := rfl
@[simp] theorem State.setLanes_held (l : List LaneRec) : (s.setLanes l).held = s.held := rfl
@[simp] theorem State.setLanes_draws (l : List LaneRec) : (s.setLanes l).draws = s.draws := rfl
@[simp] theorem State.setLanes_pending (l : List LaneRec) : (s.setLanes l).pending = s.pending := rfl

@[simp] theorem State.raiseEpoch_powered : (s.raiseEpoch).powered = s.powered := rfl
@[simp] theorem State.raiseEpoch_startMarker : (s.raiseEpoch).startMarker = s.startMarker := rfl
@[simp] theorem State.raiseEpoch_startCause : (s.raiseEpoch).startCause = s.startCause := rfl
@[simp] theorem State.raiseEpoch_restartPending : (s.raiseEpoch).restartPending = s.restartPending := rfl
@[simp] theorem State.raiseEpoch_supplyWarning : (s.raiseEpoch).supplyWarning = s.supplyWarning := rfl
@[simp] theorem State.raiseEpoch_platform : (s.raiseEpoch).platform = s.platform := rfl
@[simp] theorem State.raiseEpoch_challenge : (s.raiseEpoch).challenge = s.challenge := rfl
@[simp] theorem State.raiseEpoch_ranges : (s.raiseEpoch).ranges = s.ranges := rfl
@[simp] theorem State.raiseEpoch_geometry : (s.raiseEpoch).geometry = s.geometry := rfl
@[simp] theorem State.raiseEpoch_mode : (s.raiseEpoch).mode = s.mode := rfl
@[simp] theorem State.raiseEpoch_authorities : (s.raiseEpoch).authorities = s.authorities := rfl
@[simp] theorem State.raiseEpoch_backoff : (s.raiseEpoch).backoff = s.backoff := rfl
@[simp] theorem State.raiseEpoch_tries : (s.raiseEpoch).tries = s.tries := rfl
@[simp] theorem State.raiseEpoch_keys : (s.raiseEpoch).keys = s.keys := rfl
@[simp] theorem State.raiseEpoch_rootKey : (s.raiseEpoch).rootKey = s.rootKey := rfl
@[simp] theorem State.raiseEpoch_lane : (s.raiseEpoch).lane = s.lane := rfl
@[simp] theorem State.raiseEpoch_custody : (s.raiseEpoch).custody = s.custody := rfl
@[simp] theorem State.raiseEpoch_policy : (s.raiseEpoch).policy = s.policy := rfl
@[simp] theorem State.raiseEpoch_pairing : (s.raiseEpoch).pairing = s.pairing := rfl
@[simp] theorem State.raiseEpoch_scrub : (s.raiseEpoch).scrub = s.scrub := rfl
@[simp] theorem State.raiseEpoch_store : (s.raiseEpoch).store = s.store := rfl
@[simp] theorem State.raiseEpoch_queue : (s.raiseEpoch).queue = s.queue := rfl
@[simp] theorem State.raiseEpoch_held : (s.raiseEpoch).held = s.held := rfl
@[simp] theorem State.raiseEpoch_draws : (s.raiseEpoch).draws = s.draws := rfl
@[simp] theorem State.raiseEpoch_pending : (s.raiseEpoch).pending = s.pending := rfl

/-! ## What the updates set -/

@[simp] theorem State.setRange_ranges (r : RangeId) (e : RangeEntry) :
    (s.setRange r e).ranges = s.ranges.set r.val e r.isLt := rfl
@[simp] theorem State.setBackoff_backoff (a : AuthId) (n : Nat) :
    (s.setBackoff a n).backoff = s.backoff.set a.val n a.isLt := rfl
@[simp] theorem State.setKey_keys (r : RangeId) (k : KeyRec) :
    (s.setKey r k).keys = s.keys.set r.val k r.isLt := rfl
@[simp] theorem State.setAuthority_authorities (a : AuthId) (c : AuthorityRec) :
    (s.setAuthority a c).authorities = s.authorities.set a.val c a.isLt := rfl
@[simp] theorem State.setLanes_lane (l : List LaneRec) :
    (s.setLanes l).lane = { s.lane with lanes := l } := rfl
@[simp] theorem State.raiseEpoch_epoch : s.raiseEpoch.epoch = s.epoch + 1 := rfl
@[simp] theorem State.raiseEpoch_drive : s.raiseEpoch.drive =
    s.drive.push ⟨.presentationChanged, none, none, s.epoch + 1, s.custody.state⟩ := rfl

@[simp] theorem State.range_setRange_self (r : RangeId) (e : RangeEntry) :
    (s.setRange r e).range r = e := by
  simp [State.range]

theorem State.range_setRange (r q : RangeId) (e : RangeEntry) :
    (s.setRange r e).range q = if r = q then e else s.range q := by
  simp only [State.range, State.setRange_ranges, Vector.getElem_set, Fin.ext_iff]

@[simp] theorem State.range_setRange_of_ne {r q : RangeId} (h : r ≠ q) (e : RangeEntry) :
    (s.setRange r e).range q = s.range q := by
  simp [State.range_setRange, h]

@[simp] theorem State.port_setPort_self (p : Port) (q : PortState) : (s.setPort p q).port p = q := by
  cases p <;> rfl

@[simp] theorem State.port_setPort_of_ne {p p' : Port} (h : p ≠ p') (q : PortState) :
    (s.setPort p q).port p' = s.port p' := by
  cases p <;> cases p' <;> first | rfl | exact absurd rfl h

@[simp] theorem State.setPort_setPort (p : Port) (q q' : PortState) :
    (s.setPort p q).setPort p q' = s.setPort p q' := by
  cases p <;> rfl

@[simp] theorem State.setPort_drive_self (q : PortState) : (s.setPort .drive q).drive = q := rfl
@[simp] theorem State.setPort_platform_self (q : PortState) : (s.setPort .platform q).platform = q := rfl
@[simp] theorem State.setPort_drive_other (q : PortState) : (s.setPort .platform q).drive = s.drive := rfl
@[simp] theorem State.setPort_platform_other (q : PortState) :
    (s.setPort .drive q).platform = s.platform := rfl
@[simp] theorem State.port_drive : s.port .drive = s.drive := rfl
@[simp] theorem State.port_platform : s.port .platform = s.platform := rfl

/-! ## Updates of a port -/

@[simp] theorem State.setPort_powered (p : Port) (q : PortState) : (s.setPort p q).powered = s.powered := by cases p <;> rfl
@[simp] theorem State.setPort_startMarker (p : Port) (q : PortState) : (s.setPort p q).startMarker = s.startMarker := by cases p <;> rfl
@[simp] theorem State.setPort_startCause (p : Port) (q : PortState) : (s.setPort p q).startCause = s.startCause := by cases p <;> rfl
@[simp] theorem State.setPort_restartPending (p : Port) (q : PortState) : (s.setPort p q).restartPending = s.restartPending := by cases p <;> rfl
@[simp] theorem State.setPort_supplyWarning (p : Port) (q : PortState) : (s.setPort p q).supplyWarning = s.supplyWarning := by cases p <;> rfl
@[simp] theorem State.setPort_challenge (p : Port) (q : PortState) : (s.setPort p q).challenge = s.challenge := by cases p <;> rfl
@[simp] theorem State.setPort_ranges (p : Port) (q : PortState) : (s.setPort p q).ranges = s.ranges := by cases p <;> rfl
@[simp] theorem State.setPort_geometry (p : Port) (q : PortState) : (s.setPort p q).geometry = s.geometry := by cases p <;> rfl
@[simp] theorem State.setPort_mode (p : Port) (q : PortState) : (s.setPort p q).mode = s.mode := by cases p <;> rfl
@[simp] theorem State.setPort_epoch (p : Port) (q : PortState) : (s.setPort p q).epoch = s.epoch := by cases p <;> rfl
@[simp] theorem State.setPort_authorities (p : Port) (q : PortState) : (s.setPort p q).authorities = s.authorities := by cases p <;> rfl
@[simp] theorem State.setPort_backoff (p : Port) (q : PortState) : (s.setPort p q).backoff = s.backoff := by cases p <;> rfl
@[simp] theorem State.setPort_tries (p : Port) (q : PortState) : (s.setPort p q).tries = s.tries := by cases p <;> rfl
@[simp] theorem State.setPort_keys (p : Port) (q : PortState) : (s.setPort p q).keys = s.keys := by cases p <;> rfl
@[simp] theorem State.setPort_rootKey (p : Port) (q : PortState) : (s.setPort p q).rootKey = s.rootKey := by cases p <;> rfl
@[simp] theorem State.setPort_lane (p : Port) (q : PortState) : (s.setPort p q).lane = s.lane := by cases p <;> rfl
@[simp] theorem State.setPort_custody (p : Port) (q : PortState) : (s.setPort p q).custody = s.custody := by cases p <;> rfl
@[simp] theorem State.setPort_policy (p : Port) (q : PortState) : (s.setPort p q).policy = s.policy := by cases p <;> rfl
@[simp] theorem State.setPort_pairing (p : Port) (q : PortState) : (s.setPort p q).pairing = s.pairing := by cases p <;> rfl
@[simp] theorem State.setPort_scrub (p : Port) (q : PortState) : (s.setPort p q).scrub = s.scrub := by cases p <;> rfl
@[simp] theorem State.setPort_store (p : Port) (q : PortState) : (s.setPort p q).store = s.store := by cases p <;> rfl
@[simp] theorem State.setPort_queue (p : Port) (q : PortState) : (s.setPort p q).queue = s.queue := by cases p <;> rfl
@[simp] theorem State.setPort_held (p : Port) (q : PortState) : (s.setPort p q).held = s.held := by cases p <;> rfl
@[simp] theorem State.setPort_draws (p : Port) (q : PortState) : (s.setPort p q).draws = s.draws := by cases p <;> rfl
@[simp] theorem State.setPort_pending (p : Port) (q : PortState) : (s.setPort p q).pending = s.pending := by cases p <;> rfl

@[simp] theorem State.notify_powered (p : Port) (k : NoticeKind) (r : Option RangeId) (l : Option Nat) : (s.notify p k r l).powered = s.powered := by simp [State.notify]
@[simp] theorem State.notify_startMarker (p : Port) (k : NoticeKind) (r : Option RangeId) (l : Option Nat) : (s.notify p k r l).startMarker = s.startMarker := by simp [State.notify]
@[simp] theorem State.notify_startCause (p : Port) (k : NoticeKind) (r : Option RangeId) (l : Option Nat) : (s.notify p k r l).startCause = s.startCause := by simp [State.notify]
@[simp] theorem State.notify_restartPending (p : Port) (k : NoticeKind) (r : Option RangeId) (l : Option Nat) : (s.notify p k r l).restartPending = s.restartPending := by simp [State.notify]
@[simp] theorem State.notify_supplyWarning (p : Port) (k : NoticeKind) (r : Option RangeId) (l : Option Nat) : (s.notify p k r l).supplyWarning = s.supplyWarning := by simp [State.notify]
@[simp] theorem State.notify_challenge (p : Port) (k : NoticeKind) (r : Option RangeId) (l : Option Nat) : (s.notify p k r l).challenge = s.challenge := by simp [State.notify]
@[simp] theorem State.notify_ranges (p : Port) (k : NoticeKind) (r : Option RangeId) (l : Option Nat) : (s.notify p k r l).ranges = s.ranges := by simp [State.notify]
@[simp] theorem State.notify_geometry (p : Port) (k : NoticeKind) (r : Option RangeId) (l : Option Nat) : (s.notify p k r l).geometry = s.geometry := by simp [State.notify]
@[simp] theorem State.notify_mode (p : Port) (k : NoticeKind) (r : Option RangeId) (l : Option Nat) : (s.notify p k r l).mode = s.mode := by simp [State.notify]
@[simp] theorem State.notify_epoch (p : Port) (k : NoticeKind) (r : Option RangeId) (l : Option Nat) : (s.notify p k r l).epoch = s.epoch := by simp [State.notify]
@[simp] theorem State.notify_authorities (p : Port) (k : NoticeKind) (r : Option RangeId) (l : Option Nat) : (s.notify p k r l).authorities = s.authorities := by simp [State.notify]
@[simp] theorem State.notify_backoff (p : Port) (k : NoticeKind) (r : Option RangeId) (l : Option Nat) : (s.notify p k r l).backoff = s.backoff := by simp [State.notify]
@[simp] theorem State.notify_tries (p : Port) (k : NoticeKind) (r : Option RangeId) (l : Option Nat) : (s.notify p k r l).tries = s.tries := by simp [State.notify]
@[simp] theorem State.notify_keys (p : Port) (k : NoticeKind) (r : Option RangeId) (l : Option Nat) : (s.notify p k r l).keys = s.keys := by simp [State.notify]
@[simp] theorem State.notify_rootKey (p : Port) (k : NoticeKind) (r : Option RangeId) (l : Option Nat) : (s.notify p k r l).rootKey = s.rootKey := by simp [State.notify]
@[simp] theorem State.notify_lane (p : Port) (k : NoticeKind) (r : Option RangeId) (l : Option Nat) : (s.notify p k r l).lane = s.lane := by simp [State.notify]
@[simp] theorem State.notify_custody (p : Port) (k : NoticeKind) (r : Option RangeId) (l : Option Nat) : (s.notify p k r l).custody = s.custody := by simp [State.notify]
@[simp] theorem State.notify_policy (p : Port) (k : NoticeKind) (r : Option RangeId) (l : Option Nat) : (s.notify p k r l).policy = s.policy := by simp [State.notify]
@[simp] theorem State.notify_pairing (p : Port) (k : NoticeKind) (r : Option RangeId) (l : Option Nat) : (s.notify p k r l).pairing = s.pairing := by simp [State.notify]
@[simp] theorem State.notify_scrub (p : Port) (k : NoticeKind) (r : Option RangeId) (l : Option Nat) : (s.notify p k r l).scrub = s.scrub := by simp [State.notify]
@[simp] theorem State.notify_store (p : Port) (k : NoticeKind) (r : Option RangeId) (l : Option Nat) : (s.notify p k r l).store = s.store := by simp [State.notify]
@[simp] theorem State.notify_queue (p : Port) (k : NoticeKind) (r : Option RangeId) (l : Option Nat) : (s.notify p k r l).queue = s.queue := by simp [State.notify]
@[simp] theorem State.notify_held (p : Port) (k : NoticeKind) (r : Option RangeId) (l : Option Nat) : (s.notify p k r l).held = s.held := by simp [State.notify]
@[simp] theorem State.notify_draws (p : Port) (k : NoticeKind) (r : Option RangeId) (l : Option Nat) : (s.notify p k r l).draws = s.draws := by simp [State.notify]
@[simp] theorem State.notify_pending (p : Port) (k : NoticeKind) (r : Option RangeId) (l : Option Nat) : (s.notify p k r l).pending = s.pending := by simp [State.notify]

@[simp] theorem State.notifyBoth_powered (k : NoticeKind) : (s.notifyBoth k).powered = s.powered := by simp [State.notifyBoth]
@[simp] theorem State.notifyBoth_startMarker (k : NoticeKind) : (s.notifyBoth k).startMarker = s.startMarker := by simp [State.notifyBoth]
@[simp] theorem State.notifyBoth_startCause (k : NoticeKind) : (s.notifyBoth k).startCause = s.startCause := by simp [State.notifyBoth]
@[simp] theorem State.notifyBoth_restartPending (k : NoticeKind) : (s.notifyBoth k).restartPending = s.restartPending := by simp [State.notifyBoth]
@[simp] theorem State.notifyBoth_supplyWarning (k : NoticeKind) : (s.notifyBoth k).supplyWarning = s.supplyWarning := by simp [State.notifyBoth]
@[simp] theorem State.notifyBoth_challenge (k : NoticeKind) : (s.notifyBoth k).challenge = s.challenge := by simp [State.notifyBoth]
@[simp] theorem State.notifyBoth_ranges (k : NoticeKind) : (s.notifyBoth k).ranges = s.ranges := by simp [State.notifyBoth]
@[simp] theorem State.notifyBoth_geometry (k : NoticeKind) : (s.notifyBoth k).geometry = s.geometry := by simp [State.notifyBoth]
@[simp] theorem State.notifyBoth_mode (k : NoticeKind) : (s.notifyBoth k).mode = s.mode := by simp [State.notifyBoth]
@[simp] theorem State.notifyBoth_epoch (k : NoticeKind) : (s.notifyBoth k).epoch = s.epoch := by simp [State.notifyBoth]
@[simp] theorem State.notifyBoth_authorities (k : NoticeKind) : (s.notifyBoth k).authorities = s.authorities := by simp [State.notifyBoth]
@[simp] theorem State.notifyBoth_backoff (k : NoticeKind) : (s.notifyBoth k).backoff = s.backoff := by simp [State.notifyBoth]
@[simp] theorem State.notifyBoth_tries (k : NoticeKind) : (s.notifyBoth k).tries = s.tries := by simp [State.notifyBoth]
@[simp] theorem State.notifyBoth_keys (k : NoticeKind) : (s.notifyBoth k).keys = s.keys := by simp [State.notifyBoth]
@[simp] theorem State.notifyBoth_rootKey (k : NoticeKind) : (s.notifyBoth k).rootKey = s.rootKey := by simp [State.notifyBoth]
@[simp] theorem State.notifyBoth_lane (k : NoticeKind) : (s.notifyBoth k).lane = s.lane := by simp [State.notifyBoth]
@[simp] theorem State.notifyBoth_custody (k : NoticeKind) : (s.notifyBoth k).custody = s.custody := by simp [State.notifyBoth]
@[simp] theorem State.notifyBoth_policy (k : NoticeKind) : (s.notifyBoth k).policy = s.policy := by simp [State.notifyBoth]
@[simp] theorem State.notifyBoth_pairing (k : NoticeKind) : (s.notifyBoth k).pairing = s.pairing := by simp [State.notifyBoth]
@[simp] theorem State.notifyBoth_scrub (k : NoticeKind) : (s.notifyBoth k).scrub = s.scrub := by simp [State.notifyBoth]
@[simp] theorem State.notifyBoth_store (k : NoticeKind) : (s.notifyBoth k).store = s.store := by simp [State.notifyBoth]
@[simp] theorem State.notifyBoth_queue (k : NoticeKind) : (s.notifyBoth k).queue = s.queue := by simp [State.notifyBoth]
@[simp] theorem State.notifyBoth_held (k : NoticeKind) : (s.notifyBoth k).held = s.held := by simp [State.notifyBoth]
@[simp] theorem State.notifyBoth_draws (k : NoticeKind) : (s.notifyBoth k).draws = s.draws := by simp [State.notifyBoth]
@[simp] theorem State.notifyBoth_pending (k : NoticeKind) : (s.notifyBoth k).pending = s.pending := by simp [State.notifyBoth]

@[simp] theorem State.reply_powered (p : Port) (k t : Byte) (b : ReplyBody) : (s.reply p k t b).powered = s.powered := by simp [State.reply]
@[simp] theorem State.reply_startMarker (p : Port) (k t : Byte) (b : ReplyBody) : (s.reply p k t b).startMarker = s.startMarker := by simp [State.reply]
@[simp] theorem State.reply_startCause (p : Port) (k t : Byte) (b : ReplyBody) : (s.reply p k t b).startCause = s.startCause := by simp [State.reply]
@[simp] theorem State.reply_restartPending (p : Port) (k t : Byte) (b : ReplyBody) : (s.reply p k t b).restartPending = s.restartPending := by simp [State.reply]
@[simp] theorem State.reply_supplyWarning (p : Port) (k t : Byte) (b : ReplyBody) : (s.reply p k t b).supplyWarning = s.supplyWarning := by simp [State.reply]
@[simp] theorem State.reply_challenge (p : Port) (k t : Byte) (b : ReplyBody) : (s.reply p k t b).challenge = s.challenge := by simp [State.reply]
@[simp] theorem State.reply_ranges (p : Port) (k t : Byte) (b : ReplyBody) : (s.reply p k t b).ranges = s.ranges := by simp [State.reply]
@[simp] theorem State.reply_geometry (p : Port) (k t : Byte) (b : ReplyBody) : (s.reply p k t b).geometry = s.geometry := by simp [State.reply]
@[simp] theorem State.reply_mode (p : Port) (k t : Byte) (b : ReplyBody) : (s.reply p k t b).mode = s.mode := by simp [State.reply]
@[simp] theorem State.reply_epoch (p : Port) (k t : Byte) (b : ReplyBody) : (s.reply p k t b).epoch = s.epoch := by simp [State.reply]
@[simp] theorem State.reply_authorities (p : Port) (k t : Byte) (b : ReplyBody) : (s.reply p k t b).authorities = s.authorities := by simp [State.reply]
@[simp] theorem State.reply_backoff (p : Port) (k t : Byte) (b : ReplyBody) : (s.reply p k t b).backoff = s.backoff := by simp [State.reply]
@[simp] theorem State.reply_tries (p : Port) (k t : Byte) (b : ReplyBody) : (s.reply p k t b).tries = s.tries := by simp [State.reply]
@[simp] theorem State.reply_keys (p : Port) (k t : Byte) (b : ReplyBody) : (s.reply p k t b).keys = s.keys := by simp [State.reply]
@[simp] theorem State.reply_rootKey (p : Port) (k t : Byte) (b : ReplyBody) : (s.reply p k t b).rootKey = s.rootKey := by simp [State.reply]
@[simp] theorem State.reply_lane (p : Port) (k t : Byte) (b : ReplyBody) : (s.reply p k t b).lane = s.lane := by simp [State.reply]
@[simp] theorem State.reply_custody (p : Port) (k t : Byte) (b : ReplyBody) : (s.reply p k t b).custody = s.custody := by simp [State.reply]
@[simp] theorem State.reply_policy (p : Port) (k t : Byte) (b : ReplyBody) : (s.reply p k t b).policy = s.policy := by simp [State.reply]
@[simp] theorem State.reply_pairing (p : Port) (k t : Byte) (b : ReplyBody) : (s.reply p k t b).pairing = s.pairing := by simp [State.reply]
@[simp] theorem State.reply_scrub (p : Port) (k t : Byte) (b : ReplyBody) : (s.reply p k t b).scrub = s.scrub := by simp [State.reply]
@[simp] theorem State.reply_store (p : Port) (k t : Byte) (b : ReplyBody) : (s.reply p k t b).store = s.store := by simp [State.reply]
@[simp] theorem State.reply_queue (p : Port) (k t : Byte) (b : ReplyBody) : (s.reply p k t b).queue = s.queue := by simp [State.reply]
@[simp] theorem State.reply_held (p : Port) (k t : Byte) (b : ReplyBody) : (s.reply p k t b).held = s.held := by simp [State.reply]
@[simp] theorem State.reply_draws (p : Port) (k t : Byte) (b : ReplyBody) : (s.reply p k t b).draws = s.draws := by simp [State.reply]
@[simp] theorem State.reply_pending (p : Port) (k t : Byte) (b : ReplyBody) : (s.reply p k t b).pending = s.pending := by simp [State.reply]

@[simp] theorem State.replyTo_powered (k : ReqKind) (p : Port) (t : Byte) (b : ReplyBody) : (s.replyTo k p t b).powered = s.powered := by simp [State.replyTo]
@[simp] theorem State.replyTo_startMarker (k : ReqKind) (p : Port) (t : Byte) (b : ReplyBody) : (s.replyTo k p t b).startMarker = s.startMarker := by simp [State.replyTo]
@[simp] theorem State.replyTo_startCause (k : ReqKind) (p : Port) (t : Byte) (b : ReplyBody) : (s.replyTo k p t b).startCause = s.startCause := by simp [State.replyTo]
@[simp] theorem State.replyTo_restartPending (k : ReqKind) (p : Port) (t : Byte) (b : ReplyBody) : (s.replyTo k p t b).restartPending = s.restartPending := by simp [State.replyTo]
@[simp] theorem State.replyTo_supplyWarning (k : ReqKind) (p : Port) (t : Byte) (b : ReplyBody) : (s.replyTo k p t b).supplyWarning = s.supplyWarning := by simp [State.replyTo]
@[simp] theorem State.replyTo_challenge (k : ReqKind) (p : Port) (t : Byte) (b : ReplyBody) : (s.replyTo k p t b).challenge = s.challenge := by simp [State.replyTo]
@[simp] theorem State.replyTo_ranges (k : ReqKind) (p : Port) (t : Byte) (b : ReplyBody) : (s.replyTo k p t b).ranges = s.ranges := by simp [State.replyTo]
@[simp] theorem State.replyTo_geometry (k : ReqKind) (p : Port) (t : Byte) (b : ReplyBody) : (s.replyTo k p t b).geometry = s.geometry := by simp [State.replyTo]
@[simp] theorem State.replyTo_mode (k : ReqKind) (p : Port) (t : Byte) (b : ReplyBody) : (s.replyTo k p t b).mode = s.mode := by simp [State.replyTo]
@[simp] theorem State.replyTo_epoch (k : ReqKind) (p : Port) (t : Byte) (b : ReplyBody) : (s.replyTo k p t b).epoch = s.epoch := by simp [State.replyTo]
@[simp] theorem State.replyTo_authorities (k : ReqKind) (p : Port) (t : Byte) (b : ReplyBody) : (s.replyTo k p t b).authorities = s.authorities := by simp [State.replyTo]
@[simp] theorem State.replyTo_backoff (k : ReqKind) (p : Port) (t : Byte) (b : ReplyBody) : (s.replyTo k p t b).backoff = s.backoff := by simp [State.replyTo]
@[simp] theorem State.replyTo_tries (k : ReqKind) (p : Port) (t : Byte) (b : ReplyBody) : (s.replyTo k p t b).tries = s.tries := by simp [State.replyTo]
@[simp] theorem State.replyTo_keys (k : ReqKind) (p : Port) (t : Byte) (b : ReplyBody) : (s.replyTo k p t b).keys = s.keys := by simp [State.replyTo]
@[simp] theorem State.replyTo_rootKey (k : ReqKind) (p : Port) (t : Byte) (b : ReplyBody) : (s.replyTo k p t b).rootKey = s.rootKey := by simp [State.replyTo]
@[simp] theorem State.replyTo_lane (k : ReqKind) (p : Port) (t : Byte) (b : ReplyBody) : (s.replyTo k p t b).lane = s.lane := by simp [State.replyTo]
@[simp] theorem State.replyTo_custody (k : ReqKind) (p : Port) (t : Byte) (b : ReplyBody) : (s.replyTo k p t b).custody = s.custody := by simp [State.replyTo]
@[simp] theorem State.replyTo_policy (k : ReqKind) (p : Port) (t : Byte) (b : ReplyBody) : (s.replyTo k p t b).policy = s.policy := by simp [State.replyTo]
@[simp] theorem State.replyTo_pairing (k : ReqKind) (p : Port) (t : Byte) (b : ReplyBody) : (s.replyTo k p t b).pairing = s.pairing := by simp [State.replyTo]
@[simp] theorem State.replyTo_scrub (k : ReqKind) (p : Port) (t : Byte) (b : ReplyBody) : (s.replyTo k p t b).scrub = s.scrub := by simp [State.replyTo]
@[simp] theorem State.replyTo_store (k : ReqKind) (p : Port) (t : Byte) (b : ReplyBody) : (s.replyTo k p t b).store = s.store := by simp [State.replyTo]
@[simp] theorem State.replyTo_queue (k : ReqKind) (p : Port) (t : Byte) (b : ReplyBody) : (s.replyTo k p t b).queue = s.queue := by simp [State.replyTo]
@[simp] theorem State.replyTo_held (k : ReqKind) (p : Port) (t : Byte) (b : ReplyBody) : (s.replyTo k p t b).held = s.held := by simp [State.replyTo]
@[simp] theorem State.replyTo_draws (k : ReqKind) (p : Port) (t : Byte) (b : ReplyBody) : (s.replyTo k p t b).draws = s.draws := by simp [State.replyTo]
@[simp] theorem State.replyTo_pending (k : ReqKind) (p : Port) (t : Byte) (b : ReplyBody) : (s.replyTo k p t b).pending = s.pending := by simp [State.replyTo]

@[simp] theorem State.startWork_powered (k : ReqKind) (p : Port) (t : Byte) (w : Work) : (s.startWork k p t w).powered = s.powered := by simp [State.startWork]
@[simp] theorem State.startWork_startMarker (k : ReqKind) (p : Port) (t : Byte) (w : Work) : (s.startWork k p t w).startMarker = s.startMarker := by simp [State.startWork]
@[simp] theorem State.startWork_startCause (k : ReqKind) (p : Port) (t : Byte) (w : Work) : (s.startWork k p t w).startCause = s.startCause := by simp [State.startWork]
@[simp] theorem State.startWork_restartPending (k : ReqKind) (p : Port) (t : Byte) (w : Work) : (s.startWork k p t w).restartPending = s.restartPending := by simp [State.startWork]
@[simp] theorem State.startWork_supplyWarning (k : ReqKind) (p : Port) (t : Byte) (w : Work) : (s.startWork k p t w).supplyWarning = s.supplyWarning := by simp [State.startWork]
@[simp] theorem State.startWork_challenge (k : ReqKind) (p : Port) (t : Byte) (w : Work) : (s.startWork k p t w).challenge = s.challenge := by simp [State.startWork]
@[simp] theorem State.startWork_ranges (k : ReqKind) (p : Port) (t : Byte) (w : Work) : (s.startWork k p t w).ranges = s.ranges := by simp [State.startWork]
@[simp] theorem State.startWork_geometry (k : ReqKind) (p : Port) (t : Byte) (w : Work) : (s.startWork k p t w).geometry = s.geometry := by simp [State.startWork]
@[simp] theorem State.startWork_mode (k : ReqKind) (p : Port) (t : Byte) (w : Work) : (s.startWork k p t w).mode = s.mode := by simp [State.startWork]
@[simp] theorem State.startWork_epoch (k : ReqKind) (p : Port) (t : Byte) (w : Work) : (s.startWork k p t w).epoch = s.epoch := by simp [State.startWork]
@[simp] theorem State.startWork_authorities (k : ReqKind) (p : Port) (t : Byte) (w : Work) : (s.startWork k p t w).authorities = s.authorities := by simp [State.startWork]
@[simp] theorem State.startWork_backoff (k : ReqKind) (p : Port) (t : Byte) (w : Work) : (s.startWork k p t w).backoff = s.backoff := by simp [State.startWork]
@[simp] theorem State.startWork_tries (k : ReqKind) (p : Port) (t : Byte) (w : Work) : (s.startWork k p t w).tries = s.tries := by simp [State.startWork]
@[simp] theorem State.startWork_keys (k : ReqKind) (p : Port) (t : Byte) (w : Work) : (s.startWork k p t w).keys = s.keys := by simp [State.startWork]
@[simp] theorem State.startWork_rootKey (k : ReqKind) (p : Port) (t : Byte) (w : Work) : (s.startWork k p t w).rootKey = s.rootKey := by simp [State.startWork]
@[simp] theorem State.startWork_lane (k : ReqKind) (p : Port) (t : Byte) (w : Work) : (s.startWork k p t w).lane = s.lane := by simp [State.startWork]
@[simp] theorem State.startWork_custody (k : ReqKind) (p : Port) (t : Byte) (w : Work) : (s.startWork k p t w).custody = s.custody := by simp [State.startWork]
@[simp] theorem State.startWork_policy (k : ReqKind) (p : Port) (t : Byte) (w : Work) : (s.startWork k p t w).policy = s.policy := by simp [State.startWork]
@[simp] theorem State.startWork_pairing (k : ReqKind) (p : Port) (t : Byte) (w : Work) : (s.startWork k p t w).pairing = s.pairing := by simp [State.startWork]
@[simp] theorem State.startWork_scrub (k : ReqKind) (p : Port) (t : Byte) (w : Work) : (s.startWork k p t w).scrub = s.scrub := by simp [State.startWork]
@[simp] theorem State.startWork_store (k : ReqKind) (p : Port) (t : Byte) (w : Work) : (s.startWork k p t w).store = s.store := by simp [State.startWork]
@[simp] theorem State.startWork_queue (k : ReqKind) (p : Port) (t : Byte) (w : Work) : (s.startWork k p t w).queue = s.queue := by simp [State.startWork]
@[simp] theorem State.startWork_held (k : ReqKind) (p : Port) (t : Byte) (w : Work) : (s.startWork k p t w).held = s.held := by simp [State.startWork]
@[simp] theorem State.startWork_draws (k : ReqKind) (p : Port) (t : Byte) (w : Work) : (s.startWork k p t w).draws = s.draws := by simp [State.startWork]
@[simp] theorem State.startWork_pending (k : ReqKind) (p : Port) (t : Byte) (w : Work) : (s.startWork k p t w).pending = s.pending := by simp [State.startWork]

@[simp] theorem State.setWork_powered (p : Port) (w : Work) : (s.setWork p w).powered = s.powered := by simp [State.setWork]
@[simp] theorem State.setWork_startMarker (p : Port) (w : Work) : (s.setWork p w).startMarker = s.startMarker := by simp [State.setWork]
@[simp] theorem State.setWork_startCause (p : Port) (w : Work) : (s.setWork p w).startCause = s.startCause := by simp [State.setWork]
@[simp] theorem State.setWork_restartPending (p : Port) (w : Work) : (s.setWork p w).restartPending = s.restartPending := by simp [State.setWork]
@[simp] theorem State.setWork_supplyWarning (p : Port) (w : Work) : (s.setWork p w).supplyWarning = s.supplyWarning := by simp [State.setWork]
@[simp] theorem State.setWork_challenge (p : Port) (w : Work) : (s.setWork p w).challenge = s.challenge := by simp [State.setWork]
@[simp] theorem State.setWork_ranges (p : Port) (w : Work) : (s.setWork p w).ranges = s.ranges := by simp [State.setWork]
@[simp] theorem State.setWork_geometry (p : Port) (w : Work) : (s.setWork p w).geometry = s.geometry := by simp [State.setWork]
@[simp] theorem State.setWork_mode (p : Port) (w : Work) : (s.setWork p w).mode = s.mode := by simp [State.setWork]
@[simp] theorem State.setWork_epoch (p : Port) (w : Work) : (s.setWork p w).epoch = s.epoch := by simp [State.setWork]
@[simp] theorem State.setWork_authorities (p : Port) (w : Work) : (s.setWork p w).authorities = s.authorities := by simp [State.setWork]
@[simp] theorem State.setWork_backoff (p : Port) (w : Work) : (s.setWork p w).backoff = s.backoff := by simp [State.setWork]
@[simp] theorem State.setWork_tries (p : Port) (w : Work) : (s.setWork p w).tries = s.tries := by simp [State.setWork]
@[simp] theorem State.setWork_keys (p : Port) (w : Work) : (s.setWork p w).keys = s.keys := by simp [State.setWork]
@[simp] theorem State.setWork_rootKey (p : Port) (w : Work) : (s.setWork p w).rootKey = s.rootKey := by simp [State.setWork]
@[simp] theorem State.setWork_lane (p : Port) (w : Work) : (s.setWork p w).lane = s.lane := by simp [State.setWork]
@[simp] theorem State.setWork_custody (p : Port) (w : Work) : (s.setWork p w).custody = s.custody := by simp [State.setWork]
@[simp] theorem State.setWork_policy (p : Port) (w : Work) : (s.setWork p w).policy = s.policy := by simp [State.setWork]
@[simp] theorem State.setWork_pairing (p : Port) (w : Work) : (s.setWork p w).pairing = s.pairing := by simp [State.setWork]
@[simp] theorem State.setWork_scrub (p : Port) (w : Work) : (s.setWork p w).scrub = s.scrub := by simp [State.setWork]
@[simp] theorem State.setWork_store (p : Port) (w : Work) : (s.setWork p w).store = s.store := by simp [State.setWork]
@[simp] theorem State.setWork_queue (p : Port) (w : Work) : (s.setWork p w).queue = s.queue := by simp [State.setWork]
@[simp] theorem State.setWork_held (p : Port) (w : Work) : (s.setWork p w).held = s.held := by simp [State.setWork]
@[simp] theorem State.setWork_draws (p : Port) (w : Work) : (s.setWork p w).draws = s.draws := by simp [State.setWork]
@[simp] theorem State.setWork_pending (p : Port) (w : Work) : (s.setWork p w).pending = s.pending := by simp [State.setWork]

@[simp] theorem State.answer_powered (p : Port) (b : ReplyBody) : (s.answer p b).powered = s.powered := by
  unfold State.answer; split <;> [rfl; (split <;> simp)]
@[simp] theorem State.answer_startMarker (p : Port) (b : ReplyBody) : (s.answer p b).startMarker = s.startMarker := by
  unfold State.answer; split <;> [rfl; (split <;> simp)]
@[simp] theorem State.answer_startCause (p : Port) (b : ReplyBody) : (s.answer p b).startCause = s.startCause := by
  unfold State.answer; split <;> [rfl; (split <;> simp)]
@[simp] theorem State.answer_restartPending (p : Port) (b : ReplyBody) : (s.answer p b).restartPending = s.restartPending := by
  unfold State.answer; split <;> [rfl; (split <;> simp)]
@[simp] theorem State.answer_supplyWarning (p : Port) (b : ReplyBody) : (s.answer p b).supplyWarning = s.supplyWarning := by
  unfold State.answer; split <;> [rfl; (split <;> simp)]
@[simp] theorem State.answer_challenge (p : Port) (b : ReplyBody) : (s.answer p b).challenge = s.challenge := by
  unfold State.answer; split <;> [rfl; (split <;> simp)]
@[simp] theorem State.answer_ranges (p : Port) (b : ReplyBody) : (s.answer p b).ranges = s.ranges := by
  unfold State.answer; split <;> [rfl; (split <;> simp)]
@[simp] theorem State.answer_geometry (p : Port) (b : ReplyBody) : (s.answer p b).geometry = s.geometry := by
  unfold State.answer; split <;> [rfl; (split <;> simp)]
@[simp] theorem State.answer_mode (p : Port) (b : ReplyBody) : (s.answer p b).mode = s.mode := by
  unfold State.answer; split <;> [rfl; (split <;> simp)]
@[simp] theorem State.answer_epoch (p : Port) (b : ReplyBody) : (s.answer p b).epoch = s.epoch := by
  unfold State.answer; split <;> [rfl; (split <;> simp)]
@[simp] theorem State.answer_authorities (p : Port) (b : ReplyBody) : (s.answer p b).authorities = s.authorities := by
  unfold State.answer; split <;> [rfl; (split <;> simp)]
@[simp] theorem State.answer_backoff (p : Port) (b : ReplyBody) : (s.answer p b).backoff = s.backoff := by
  unfold State.answer; split <;> [rfl; (split <;> simp)]
@[simp] theorem State.answer_tries (p : Port) (b : ReplyBody) : (s.answer p b).tries = s.tries := by
  unfold State.answer; split <;> [rfl; (split <;> simp)]
@[simp] theorem State.answer_keys (p : Port) (b : ReplyBody) : (s.answer p b).keys = s.keys := by
  unfold State.answer; split <;> [rfl; (split <;> simp)]
@[simp] theorem State.answer_rootKey (p : Port) (b : ReplyBody) : (s.answer p b).rootKey = s.rootKey := by
  unfold State.answer; split <;> [rfl; (split <;> simp)]
@[simp] theorem State.answer_lane (p : Port) (b : ReplyBody) : (s.answer p b).lane = s.lane := by
  unfold State.answer; split <;> [rfl; (split <;> simp)]
@[simp] theorem State.answer_custody (p : Port) (b : ReplyBody) : (s.answer p b).custody = s.custody := by
  unfold State.answer; split <;> [rfl; (split <;> simp)]
@[simp] theorem State.answer_policy (p : Port) (b : ReplyBody) : (s.answer p b).policy = s.policy := by
  unfold State.answer; split <;> [rfl; (split <;> simp)]
@[simp] theorem State.answer_pairing (p : Port) (b : ReplyBody) : (s.answer p b).pairing = s.pairing := by
  unfold State.answer; split <;> [rfl; (split <;> simp)]
@[simp] theorem State.answer_scrub (p : Port) (b : ReplyBody) : (s.answer p b).scrub = s.scrub := by
  unfold State.answer; split <;> [rfl; (split <;> simp)]
@[simp] theorem State.answer_store (p : Port) (b : ReplyBody) : (s.answer p b).store = s.store := by
  unfold State.answer; split <;> [rfl; (split <;> simp)]
@[simp] theorem State.answer_queue (p : Port) (b : ReplyBody) : (s.answer p b).queue = s.queue := by
  unfold State.answer; split <;> [rfl; (split <;> simp)]
@[simp] theorem State.answer_held (p : Port) (b : ReplyBody) : (s.answer p b).held = s.held := by
  unfold State.answer; split <;> [rfl; (split <;> simp)]
@[simp] theorem State.answer_draws (p : Port) (b : ReplyBody) : (s.answer p b).draws = s.draws := by
  unfold State.answer; split <;> [rfl; (split <;> simp)]
@[simp] theorem State.answer_pending (p : Port) (b : ReplyBody) : (s.answer p b).pending = s.pending := by
  unfold State.answer; split <;> [rfl; (split <;> simp)]

@[simp] theorem State.endTransaction_powered (p : Port) : (s.endTransaction p).powered = s.powered := by simp [State.endTransaction]
@[simp] theorem State.endTransaction_startMarker (p : Port) : (s.endTransaction p).startMarker = s.startMarker := by simp [State.endTransaction]
@[simp] theorem State.endTransaction_startCause (p : Port) : (s.endTransaction p).startCause = s.startCause := by simp [State.endTransaction]
@[simp] theorem State.endTransaction_restartPending (p : Port) : (s.endTransaction p).restartPending = s.restartPending := by simp [State.endTransaction]
@[simp] theorem State.endTransaction_supplyWarning (p : Port) : (s.endTransaction p).supplyWarning = s.supplyWarning := by simp [State.endTransaction]
@[simp] theorem State.endTransaction_challenge (p : Port) : (s.endTransaction p).challenge = s.challenge := by simp [State.endTransaction]
@[simp] theorem State.endTransaction_ranges (p : Port) : (s.endTransaction p).ranges = s.ranges := by simp [State.endTransaction]
@[simp] theorem State.endTransaction_geometry (p : Port) : (s.endTransaction p).geometry = s.geometry := by simp [State.endTransaction]
@[simp] theorem State.endTransaction_mode (p : Port) : (s.endTransaction p).mode = s.mode := by simp [State.endTransaction]
@[simp] theorem State.endTransaction_epoch (p : Port) : (s.endTransaction p).epoch = s.epoch := by simp [State.endTransaction]
@[simp] theorem State.endTransaction_authorities (p : Port) : (s.endTransaction p).authorities = s.authorities := by simp [State.endTransaction]
@[simp] theorem State.endTransaction_backoff (p : Port) : (s.endTransaction p).backoff = s.backoff := by simp [State.endTransaction]
@[simp] theorem State.endTransaction_tries (p : Port) : (s.endTransaction p).tries = s.tries := by simp [State.endTransaction]
@[simp] theorem State.endTransaction_keys (p : Port) : (s.endTransaction p).keys = s.keys := by simp [State.endTransaction]
@[simp] theorem State.endTransaction_rootKey (p : Port) : (s.endTransaction p).rootKey = s.rootKey := by simp [State.endTransaction]
@[simp] theorem State.endTransaction_lane (p : Port) : (s.endTransaction p).lane = s.lane := by simp [State.endTransaction]
@[simp] theorem State.endTransaction_custody (p : Port) : (s.endTransaction p).custody = s.custody := by simp [State.endTransaction]
@[simp] theorem State.endTransaction_policy (p : Port) : (s.endTransaction p).policy = s.policy := by simp [State.endTransaction]
@[simp] theorem State.endTransaction_pairing (p : Port) : (s.endTransaction p).pairing = s.pairing := by simp [State.endTransaction]
@[simp] theorem State.endTransaction_scrub (p : Port) : (s.endTransaction p).scrub = s.scrub := by simp [State.endTransaction]
@[simp] theorem State.endTransaction_store (p : Port) : (s.endTransaction p).store = s.store := by simp [State.endTransaction]
@[simp] theorem State.endTransaction_queue (p : Port) : (s.endTransaction p).queue = s.queue := by simp [State.endTransaction]
@[simp] theorem State.endTransaction_held (p : Port) : (s.endTransaction p).held = s.held := by simp [State.endTransaction]
@[simp] theorem State.endTransaction_draws (p : Port) : (s.endTransaction p).draws = s.draws := by simp [State.endTransaction]
@[simp] theorem State.endTransaction_pending (p : Port) : (s.endTransaction p).pending = s.pending := by simp [State.endTransaction]

end Sys2Proof.Machine
end

