-- ==== Sys2Proof/Laws/Ports.lean ====
section
/-!
SUPPORT. The message ports: replies and requests in flight (R174, R177, R178), notices and the end of an
event (R180, R181), and the cases of a taken frame (R173, R176).
-/

namespace Sys2Proof.Machine

open Sys2Proof

/-! ## One port changed -/

/-- A port changed changes the two ports' states alone. -/
theorem State.setPort_frame (s : State) (p : Port) (q : PortState) :
    ∃ d f, s.setPort p q = { s with drive := d, platform := f } := by
  cases p <;> exact ⟨_, _, rfl⟩

theorem State.reply_frame (s : State) (p : Port) (k t : Byte) (b : ReplyBody) :
    ∃ d f, s.reply p k t b = { s with drive := d, platform := f } := State.setPort_frame ..

theorem State.startWork_frame (s : State) (k : ReqKind) (p : Port) (t : Byte) (w : Work) :
    ∃ d f, s.startWork k p t w = { s with drive := d, platform := f } := State.setPort_frame ..

theorem State.setWork_frame (s : State) (p : Port) (w : Work) :
    ∃ d f, s.setWork p w = { s with drive := d, platform := f } := State.setPort_frame ..

theorem State.endTransaction_frame (s : State) (p : Port) :
    ∃ d f, s.endTransaction p = { s with drive := d, platform := f } := State.setPort_frame ..

/-! ## Answers -/

/-- The end of a request's work changes its port's reply slot, deferred reply and marker alone. -/
theorem State.answer_frame (s : State) (p : Port) (b : ReplyBody) :
    ∃ r i d, s.answer p b =
      s.setPort p { s.port p with replySlot := r, inFlight := i, deferred := d } := by
  unfold State.answer
  split
  · exact ⟨(s.port p).replySlot, (s.port p).inFlight, (s.port p).deferred, by cases p <;> rfl⟩
  · split <;> exact ⟨_, _, _, rfl⟩

/-- With the slot empty the reply enters it and the request is no longer in flight (R178). -/
theorem State.answer_of_empty {s : State} {p : Port} {f : InFlight} (hf : (s.port p).inFlight = some f)
    (hs : (s.port p).replySlot = none) (b : ReplyBody) :
    s.answer p b = s.setPort p
      { s.port p with replySlot := some ⟨replyKind f.kind, f.tag, b⟩, inFlight := none } := by
  simp [State.answer, hf, hs]

/-- With the slot full the reply is deferred (R178). -/
theorem State.answer_of_full {s : State} {p : Port} {f : InFlight} {r : Reply}
    (hf : (s.port p).inFlight = some f) (hs : (s.port p).replySlot = some r) (b : ReplyBody) :
    s.answer p b = s.setPort p
      { s.port p with
        deferred := some ⟨replyKind f.kind, f.tag, b⟩
        inFlight := some { f with work := .answered } } := by
  simp [State.answer, hf, hs]

/-! ## Notices -/

/-- A notice queued changes its port's notice queue and mark alone. -/
theorem PortState.push_frame (q : PortState) (n : Notice) :
    ∃ l o, q.push n = { q with notices := l, overflow := o } := by
  unfold PortState.push; split <;> exact ⟨_, _, rfl⟩

theorem PortState.push_bound (q : PortState) (n : Notice) (h : q.notices.length ≤ 8) :
    (q.push n).notices.length ≤ 8 := by
  unfold PortState.push
  split
  · rename_i hlt; simp only [Config.noticeCapacity] at hlt; simp; omega
  · exact h

/-- Fewer than 8 notices: the new one stands last. -/
theorem PortState.push_of_room (q : PortState) (n : Notice) (h : q.notices.length < 8) :
    q.push n = { q with notices := q.notices ++ [n] } := by
  simp [PortState.push, Config.noticeCapacity, h]

theorem State.notify_frame (s : State) (p : Port) (k : NoticeKind) (r : Option RangeId) (l : Option Nat) :
    ∃ d f, s.notify p k r l = { s with drive := d, platform := f } := State.setPort_frame ..

theorem State.notifyBoth_frame (s : State) (k : NoticeKind) :
    ∃ d f, s.notifyBoth k = { s with drive := d, platform := f } := ⟨_, _, rfl⟩

@[simp] theorem stampNotices_length (old : Nat) (c : Custody) (q : PortState) :
    (stampNotices old c q).notices.length = q.notices.length := by
  simp [stampNotices]; omega

/-- Where an event queued nothing, nothing is stamped. -/
theorem stampNotices_of_none_new {old : Nat} {c : Custody} {q : PortState}
    (h : q.notices.length ≤ old) : stampNotices old c q = q := by
  have hd : q.notices.drop old = [] := List.drop_eq_nil_of_le h
  have ht : q.notices.take old = q.notices := List.take_of_length_le h
  simp only [stampNotices, hd, ht, List.map_nil, List.append_nil]

/-- Where an event queued one notice with the custody state it leaves, the stamp changes nothing. -/
theorem stampNotices_push (q : PortState) (n : Notice) :
    stampNotices q.notices.length n.custody (q.push n) = q.push n := by
  unfold PortState.push
  split
  · simp [stampNotices]
  · exact stampNotices_of_none_new (Nat.le_refl _)

/-! ## Events -/

/-- The end of an event changes the two notice queues alone. -/
theorem State.sealEvent_frame (b s : State) :
    ∃ d f, State.sealEvent b s = { s with drive := d, platform := f } := ⟨_, _, rfl⟩

/-- An event that queued no notice ends as it stands. -/
theorem State.sealEvent_of_quiet {b s : State}
    (hd : s.drive.notices.length ≤ b.drive.notices.length)
    (hp : s.platform.notices.length ≤ b.platform.notices.length) : State.sealEvent b s = s := by
  rw [State.sealEvent, stampNotices_of_none_new hd, stampNotices_of_none_new hp]

/-- An event that raised the epoch at its end, and queued nothing else, ends with PRESENTATION_CHANGED (R22). -/
theorem State.sealEvent_raiseEpoch {b s : State}
    (hd : s.drive.notices.length = b.drive.notices.length)
    (hp : s.platform.notices.length ≤ b.platform.notices.length) :
    State.sealEvent b s.raiseEpoch = s.raiseEpoch := by
  have h := stampNotices_push s.drive
    ⟨.presentationChanged, none, none, s.epoch + 1, s.custody.state⟩
  rw [hd] at h
  simp only [State.sealEvent, State.raiseEpoch_drive, State.raiseEpoch_custody, State.raiseEpoch_platform]
  rw [h, stampNotices_of_none_new hp]
  rfl

/-- The bound of the notice queues outlives the end of an event. -/
theorem State.sealEvent_notices (b s : State) (h : s.noticesFit) : (State.sealEvent b s).noticesFit := by
  obtain ⟨hd, hp⟩ := h
  exact ⟨by simpa [State.sealEvent] using hd, by simpa [State.sealEvent] using hp⟩

/-! ## Taken frames -/

/-- With no RESTART to take effect a port's next transaction meets the state as it stands. -/
theorem State.settle_of_none {s : State} {p : Port} (h : s.restartOn p = none) : s.settle p = s := by
  cases p
  · simp only [State.restartOn] at h
    simp [State.settle, State.restartTakesEffect, h]
  · rfl

/-- With a RESTART to take effect its reply stands in the slot (R172, R174). -/
theorem State.settle_slot {s : State} {p : Port} {r : Reply} (h : s.restartOn p = some r) :
    ((s.settle p).port p).replySlot = some r := by
  cases p
  · simp only [State.restartOn] at h
    simp [State.settle, State.restartTakesEffect, h, State.port]
  · exact absurd h nofun

/-- A frame taken past the port's checks is its owner's event. -/
theorem takeRequest_of_taken {s : State} {p : Port} (hs : s.Hears p) {k : ReqKind} {pl : List Byte}
    (h : frameRefusal s k p pl = none) (tag : Byte) (owner : State → State) :
    takeRequest k p tag pl owner s =
      State.sealEvent (s.endTransaction p) (owner (s.endTransaction p)) := by
  simp [takeRequest, State.settle_of_none hs.2.2, hs.1, hs.2.1, h]

/-- A frame that a check refuses is answered by the check's code alone. -/
theorem takeRequest_of_refused {s : State} {p : Port} (hs : s.Hears p) {k : ReqKind} {pl : List Byte}
    {r : Result} (h : frameRefusal s k p pl = some r) (tag : Byte) (owner : State → State) :
    takeRequest k p tag pl owner s =
      s.setPort p ((s.port p).answered k tag (.code r)) := by
  simp [takeRequest, State.settle_of_none hs.2.2, hs.1, hs.2.1, h, State.endTransaction, State.replyTo,
    State.reply, PortState.answered, PortState.heard, replyKind]

/-- A frame over an unread reply is discarded. -/
theorem takeRequest_of_unread {s : State} {p : Port} (hp : s.powered = true)
    (h : (s.port p).replySlot.isSome = true) (hr : s.restartOn p = none) (k : ReqKind) (tag : Byte)
    (pl : List Byte) (owner : State → State) :
    takeRequest k p tag pl owner s = s.setPort p ((s.port p).heard) := by
  simp [takeRequest, State.settle_of_none hr, hp, h, State.endTransaction, PortState.heard]

/-- A frame that finds a RESTART to take effect is discarded over its reply. -/
theorem takeRequest_of_restart {s : State} {p : Port} {r : Reply} (hp : s.powered = true)
    (h : s.restartOn p = some r) (k : ReqKind) (tag : Byte) (pl : List Byte) (owner : State → State) :
    takeRequest k p tag pl owner s = (s.settle p).endTransaction p := by
  simp [takeRequest, hp, State.settle_slot h]

/-- Every taken frame: nothing without power, one transaction's end, a refusal, or the owner's event, on the
state as settled. -/
theorem takeRequest_cases (k : ReqKind) (p : Port) (tag : Byte) (pl : List Byte) (owner : State → State)
    (s : State) :
    takeRequest k p tag pl owner s = s ∨
      takeRequest k p tag pl owner s = (s.settle p).endTransaction p ∨
      (∃ r, takeRequest k p tag pl owner s =
        ((s.settle p).endTransaction p).replyTo k p tag (.code r)) ∨
      takeRequest k p tag pl owner s =
        State.sealEvent ((s.settle p).endTransaction p)
          (owner ((s.settle p).endTransaction p)) := by
  unfold takeRequest
  split
  · exact .inl rfl
  · dsimp only
    split
    · exact .inr (.inl rfl)
    · split
      · exact .inr (.inr (.inl ⟨_, rfl⟩))
      · exact .inr (.inr (.inr rfl))

/-- An event that no frame brings. -/
theorem deviceEvent_of_powered {s : State} (h : s.powered = true) (f : State → State) :
    deviceEvent f s = State.sealEvent s (f s) := by simp [deviceEvent, h]

end Sys2Proof.Machine
end

