-- ==== Sys2Proof/Laws/Store.lean ====
section
/-!
SUPPORT. The commit queue: where a write of a request or a block can go, what entering it leaves unchanged,
and the bound of the queue that every operation on it keeps (R151 to R154, R157).
-/

namespace Sys2Proof.Machine

open Sys2Proof

/-! ## Lists of entries -/

theorem Entry.merge_key (x w : Entry) : (x.merge w).key = x.key := by
  unfold Entry.merge; split <;> rfl

theorem nonFinal_append (a b : List Entry) : nonFinal (a ++ b) = nonFinal a + nonFinal b := by
  simp [nonFinal]

theorem nonFinal_cons (e : Entry) (l : List Entry) :
    nonFinal (e :: l) = (if e.key = .final then 0 else 1) + nonFinal l := by
  by_cases h : e.key = .final <;> simp [nonFinal, h]; omega

theorem nonFinal_nil : nonFinal [] = 0 := rfl

/-- A list mapped with every name kept counts the same. -/
theorem nonFinal_map (f : Entry → Entry) (hf : ∀ e, (f e).key = e.key) (l : List Entry) :
    nonFinal (l.map f) = nonFinal l := by
  induction l with
  | nil => rfl
  | cons e l ih => simp [nonFinal_cons, hf, ih]

theorem nonFinal_take_drop (n : Nat) (l : List Entry) :
    nonFinal (l.take n) + nonFinal (l.drop n) = nonFinal l := by
  rw [← nonFinal_append, List.take_append_drop]

theorem nonFinal_tail (l : List Entry) : nonFinal (l.take 1) + nonFinal l.tail = nonFinal l := by
  rw [← List.drop_one]; exact nonFinal_take_drop 1 l

/-- The last entry that meets a test, in its place. -/
theorem splitLast_some {m : Entry → Bool} {l b a : List Entry} {x : Entry}
    (h : splitLast m l = some (b, x, a)) : l = b ++ x :: a ∧ m x = true ∧ ∀ e ∈ a, m e = false := by
  induction l generalizing b with
  | nil => simp [splitLast] at h
  | cons e l ih =>
    unfold splitLast at h
    split at h
    · rename_i b' x' a' h'
      obtain ⟨rfl, rfl, rfl⟩ : e :: b' = b ∧ x' = x ∧ a' = a := by simpa using h
      obtain ⟨rfl, hx, ha⟩ := ih h'
      exact ⟨by simp, hx, ha⟩
    · rename_i h'
      split at h
      · rename_i hm
        obtain ⟨rfl, rfl, rfl⟩ : [] = b ∧ e = x ∧ l = a := by simpa using h
        refine ⟨rfl, hm, fun y hy => ?_⟩
        clear ih h hm
        induction l with
        | nil => simp at hy
        | cons z l ih =>
          unfold splitLast at h'
          split at h'
          · simp at h'
          · split at h'
            · simp at h'
            · rcases List.mem_cons.mp hy with rfl | hy
              · simp_all
              · exact ih (by assumption) hy
      · simp at h

theorem splitLast_none {m : Entry → Bool} {l : List Entry} (h : ∀ e ∈ l, m e = false) :
    splitLast m l = none := by
  induction l with
  | nil => rfl
  | cons e l ih => simp [splitLast, ih (fun x hx => h x (by simp [hx])), h e (by simp)]

/-! ## Entering writes -/

/-- Held writes that take freed entries change the queue and the held writes alone. -/
theorem State.promoteHeld_frame (n : Nat) (s : State) :
    ∃ q h, State.promoteHeld n s = { s with queue := q, held := h } := by
  induction n generalizing s with
  | zero => exact ⟨_, _, rfl⟩
  | succ n ih =>
    unfold State.promoteHeld
    split
    · exact ⟨_, _, rfl⟩
    · split
      · split
        · obtain ⟨q, h, e⟩ := ih _; exact ⟨q, h, by rw [e]⟩
        · obtain ⟨q, h, e⟩ := ih _; exact ⟨q, h, by rw [e]⟩
      · exact ⟨_, _, rfl⟩

/-- A write entered changes the queue and the held writes alone. -/
theorem State.enter_frame (earlier : List EntryKey) (w : Entry) (s : State) :
    ∃ q h, s.enter earlier w = { s with queue := q, held := h } := by
  unfold State.enter
  dsimp only
  split
  · split <;> exact ⟨_, _, rfl⟩
  · split
    · split
      · split
        · exact ⟨_, _, rfl⟩
        · obtain ⟨q, h, e⟩ := State.promoteHeld_frame (s.held.length + 1)
            { s with queue := _, held := _ }
          exact ⟨q, h, by rw [e]⟩
      · exact ⟨_, _, rfl⟩
    · split <;> exact ⟨_, _, rfl⟩

/-- Several writes entered change the queue and the held writes alone. -/
theorem State.enterAll_frame (ws : List Entry) (s : State) :
    ∃ q h, s.enterAll ws = { s with queue := q, held := h } := by
  have fold : ∀ (ws : List Entry) (ks : List EntryKey) (s : State), ∃ q h,
      (ws.foldl (fun (acc : List EntryKey × State) w => (w.key :: acc.1, acc.2.enter acc.1 w))
        (ks, s)).2 = { s with queue := q, held := h } := by
    intro ws
    induction ws with
    | nil => exact fun _ s => ⟨s.queue, s.held, rfl⟩
    | cons w ws ih =>
      intro ks s
      obtain ⟨q, h, e⟩ := State.enter_frame ks w s
      obtain ⟨q', h', e'⟩ := ih (w.key :: ks) (s.enter ks w)
      exact ⟨q', h', by rw [List.foldl_cons, e', e]⟩
  exact fold ws [] s

theorem State.storeCustody_frame (s : State) (b c : Bool) (acts : List Act) :
    ∃ q h, s.storeCustody b c acts = { s with queue := q, held := h } := State.enter_frame _ _ _

/-- The operations on the final checkpoint change the queue alone. -/
theorem State.placeFinal_frame (s : State) : ∃ q, s.placeFinal = { s with queue := q } := by
  unfold State.placeFinal; split <;> exact ⟨_, rfl⟩

theorem State.updateFinalCursor_frame (s : State) : ∃ q, s.updateFinalCursor = { s with queue := q } := by
  exact ⟨_, rfl⟩

/-! ## Into an empty queue -/

/-- A write entered into a store with nothing queued or held is under way at once. -/
theorem State.enter_of_empty {s : State} (hq : s.queue = []) (hh : s.held = []) (earlier : List EntryKey)
    (w : Entry) : s.enter earlier w = { s with queue := [w] } := by
  simp [State.enter, State.freeEntries, hq, hh, splitLast, nonFinal, Config.queueCapacity]

theorem State.enterAll_one_of_empty {s : State} (hq : s.queue = []) (hh : s.held = []) (w : Entry) :
    s.enterAll [w] = { s with queue := [w] } := by
  simp [State.enterAll, State.enter_of_empty hq hh]

/-- A write that finds its record under way alone stands behind it. -/
theorem State.enter_of_one {s : State} {e : Entry} (hq : s.queue = [e]) (hh : s.held = [])
    (earlier : List EntryKey) (w : Entry) : s.enter earlier w = { s with queue := [e, w] } := by
  have h : nonFinal [e] ≤ 1 := by rw [nonFinal_cons, nonFinal_nil]; split <;> omega
  have : 0 < Config.queueCapacity - nonFinal [e] := by simp only [Config.queueCapacity]; omega
  simp [State.enter, State.freeEntries, hq, hh, splitLast, this]

theorem State.enterAll_two_of_empty {s : State} (hq : s.queue = []) (hh : s.held = []) (v w : Entry) :
    s.enterAll [v, w] = { s with queue := [v, w] } := by
  have h := State.enter_of_one (s := { s with queue := [v] }) rfl hh [v.key] w
  simp [State.enterAll, State.enter_of_empty hq hh, h]

/-- A request's writes are admitted by a store with nothing queued or held and no Supply Warning. -/
theorem State.refusesWrites_of_empty {s : State} (hq : s.queue = []) (hh : s.held = [])
    (hw : s.supplyWarning = false) (keys : List EntryKey) (hk : keys.length ≤ 4) :
    s.refusesWrites keys = none := by
  have h : (keys.filter fun k => !s.willMerge k).length ≤ 4 :=
    (List.length_filter_le _ _).trans hk
  simp only [State.refusesWrites, hw, State.freeEntries, hq, hh, nonFinal, Config.queueCapacity]
  simp
  omega

/-! ## The bound of the queue -/

/-- Replacing an entry by one of its name keeps the count. -/
theorem nonFinal_replace (b a : List Entry) {x y : Entry} (h : y.key = x.key) :
    nonFinal (b ++ y :: a) = nonFinal (b ++ x :: a) := by
  simp [nonFinal_append, nonFinal_cons, h]

/-- Promoting held writes never fills the queue past 4 entries. -/
theorem State.promoteHeld_queue_bound (n : Nat) (s : State) (h : nonFinal s.queue ≤ 4) :
    nonFinal (State.promoteHeld n s).queue ≤ 4 := by
  induction n generalizing s with
  | zero => exact h
  | succ n ih =>
    unfold State.promoteHeld
    split
    · exact h
    · split
      · rename_i hlt
        split
        · rename_i b x a hs
          refine ih _ ?_
          have e := (splitLast_some hs).1
          have t := nonFinal_tail s.queue
          rw [e] at t
          simp only [nonFinal_append, nonFinal_cons, Entry.merge_key] at t ⊢
          omega
        · refine ih _ ?_
          simp only [Config.queueCapacity] at hlt
          simp only [nonFinal_append, nonFinal_cons, nonFinal_nil]
          split <;> omega
      · exact h

/-- Entering a write never fills the queue past 4 entries. -/
theorem State.enter_queue_bound (earlier : List EntryKey) (w : Entry) (s : State)
    (h : nonFinal s.queue ≤ 4) : nonFinal (s.enter earlier w).queue ≤ 4 := by
  unfold State.enter
  dsimp only
  split
  · split <;> exact h
  · split
    · rename_i b x a hs
      have e := (splitLast_some hs).1
      have t := nonFinal_tail s.queue
      rw [e] at t
      simp only [nonFinal_append, nonFinal_cons] at t
      split
      · split
        · simp only [nonFinal_append, nonFinal_cons, nonFinal_nil, Entry.merge_key]; omega
        · refine State.promoteHeld_queue_bound _ _ ?_
          simp only [nonFinal_append]; omega
      · simp only [nonFinal_append, nonFinal_cons, Entry.merge_key]; omega
    · split
      · rename_i hf
        simp only [State.freeEntries, Config.queueCapacity] at hf
        have : nonFinal s.queue < 4 := by
          split at hf <;> omega
        simp only [nonFinal_append, nonFinal_cons, nonFinal_nil]
        split <;> omega
      · exact h

/-- Entering several writes never fills the queue past 4 entries. -/
theorem State.enterAll_queue_bound (ws : List Entry) (s : State) (h : nonFinal s.queue ≤ 4) :
    nonFinal (s.enterAll ws).queue ≤ 4 := by
  have fold : ∀ (ws : List Entry) (ks : List EntryKey) (s : State), nonFinal s.queue ≤ 4 →
      nonFinal (ws.foldl (fun (acc : List EntryKey × State) w => (w.key :: acc.1, acc.2.enter acc.1 w))
        (ks, s)).2.queue ≤ 4 := by
    intro ws
    induction ws with
    | nil => exact fun _ _ h => h
    | cons w ws ih => exact fun ks s h => ih _ _ (State.enter_queue_bound ks w s h)
  exact fold ws [] s h

/-- The final checkpoint is not counted. -/
theorem State.placeFinal_nonFinal (s : State) : nonFinal s.placeFinal.queue = nonFinal s.queue := by
  unfold State.placeFinal
  split
  · rfl
  · have t := nonFinal_tail s.queue
    simp only [nonFinal_append, nonFinal_cons]
    simpa using t

theorem nonFinal_mapFinal (f : List RecordWrite → List RecordWrite) (q : List Entry) :
    nonFinal (mapFinal f q) = nonFinal q := by
  have t := nonFinal_tail q
  unfold mapFinal
  rw [nonFinal_append, nonFinal_map _ (fun e => by split <;> rfl)]
  exact t

end Sys2Proof.Machine
end

