-- ==== Sys2Proof/Laws/Blocks.lean ====
section
/-!
SUPPORT. The operations the blocks share: rights (R103), lanes bound and released (R52, R53), custody
responses (R122, R123); each with what it leaves unchanged.
-/

namespace Sys2Proof.Machine

open Sys2Proof

/-! ## Rights -/

theorem Rights.names_a_right (w : Rights) : w.hasRead = true ∨ w.hasWrite = true := by
  cases w <;> simp [Rights.hasRead, Rights.hasWrite]

@[simp] theorem RangeEntry.locked_hasRight (e : RangeEntry) : e.locked.hasRight = false := rfl

@[simp] theorem RangeEntry.locked_stored (e : RangeEntry) : e.locked.stored = e.stored := rfl

@[simp] theorem RangeEntry.locked_holder (e : RangeEntry) : e.locked.holder = none := rfl

@[simp] theorem RangeEntry.locked_lane (e : RangeEntry) : e.locked.lane = e.lane := rfl

@[simp] theorem RangeEntry.without_stored (e : RangeEntry) (w : Rights) :
    (e.without w).stored = e.stored := rfl

@[simp] theorem RangeEntry.without_lane (e : RangeEntry) (w : Rights) : (e.without w).lane = e.lane := rfl

/-- With its last right off, a range has no holder (R103). -/
theorem RangeEntry.without_holder (e : RangeEntry) (w : Rights) (h : (e.without w).hasRight = false) :
    (e.without w).holder = none := by
  simp_all [RangeEntry.without, RangeEntry.hasRight]

theorem RangeEntry.without_both (e : RangeEntry) : e.without .both = e.locked := by
  simp [RangeEntry.without, RangeEntry.locked, Rights.hasRead, Rights.hasWrite]

@[simp] theorem RangeEntry.voided_hasRight (e : RangeEntry) : e.voided.hasRight = e.hasRight := rfl

@[simp] theorem RangeEntry.voided_holder (e : RangeEntry) : e.voided.holder = e.holder := rfl

@[simp] theorem RangeEntry.voided_lane (e : RangeEntry) : e.voided.lane = none := rfl

@[simp] theorem State.range_lockAll (s : State) (r : RangeId) :
    (s.lockAll).range r = (s.range r).locked := by
  simp [State.lockAll, State.range]

/-! ## Keys -/

/-- What is unwrapped under the root key it was wrapped under is the media key (R45, R48). -/
@[simp] theorem unwrapKey_wrapKey (root key : Secret) :
    Config.unwrapKey root (Config.wrapKey root key) = key :=
  (Config.keyCipher root).symm_apply_apply key

/-! ## Lanes -/

theorem State.updLane_frame (s : State) (n : Nat) (f : LaneRec → LaneRec) :
    ∃ l, s.updLane n f = { s with lane := { s.lane with lanes := l } } := ⟨_, rfl⟩

theorem State.releaseOf_frame (s : State) (r : RangeId) :
    ∃ l, s.releaseOf r = { s with lane := { s.lane with lanes := l } } := by
  unfold State.releaseOf; split <;> exact ⟨_, rfl⟩

theorem State.releaseAll_frame (s : State) :
    ∃ l, s.releaseAll = { s with lane := { s.lane with lanes := l } } := ⟨_, rfl⟩

/-- Releasing keeps a lane's range, code, last outcome, votes and attempts (R53). -/
theorem LaneRec.release_frame (l : LaneRec) :
    ∃ st p, l.release = { l with state := st, plan := p } := by
  unfold LaneRec.release; split <;> exact ⟨_, _, rfl⟩

/-- Binding changes one lane record and the lane field of the range alone. -/
theorem State.bind_frame (s : State) (r : RangeId) :
    ∃ l v, (s.bind r).1 = { s with lane := { s.lane with lanes := l }, ranges := v } := by
  unfold State.bind
  split
  · split <;> exact ⟨_, _, rfl⟩
  · split <;> exact ⟨_, _, rfl⟩

/-- Binding keeps the number of lanes. -/
theorem State.bind_lanes_length (s : State) (r : RangeId) :
    (s.bind r).1.lane.lanes.length = s.lane.lanes.length := by
  unfold State.bind
  split
  · split <;> simp [State.updLane, State.setLanes, State.setRange]
  · split <;> simp [State.updLane, State.setLanes]

/-- Binding changes no range's record, rights or holder. -/
theorem State.bind_ranges (s : State) (r q : RangeId) :
    ∃ n, (s.bind r).1.range q = { s.range q with lane := n } := by
  unfold State.bind
  split
  · split
    · exact ⟨_, rfl⟩
    · by_cases h : r = q
      · subst h; exact ⟨_, by simp only [State.range_setRange_self]; rfl⟩
      · exact ⟨(s.range q).lane, by rw [State.range_setRange_of_ne _ h]; rfl⟩
  · split <;> exact ⟨(s.range q).lane, rfl⟩

theorem State.unbindRange_frame (s : State) (r : RangeId) :
    ∃ l v, s.unbindRange r = { s with lane := { s.lane with lanes := l }, ranges := v } := by
  unfold State.unbindRange; split <;> exact ⟨_, _, rfl⟩

theorem State.unbind_frame (s : State) (n : Nat) :
    ∃ l v, s.unbind n = { s with lane := { s.lane with lanes := l }, ranges := v } := by
  unfold State.unbind; split <;> exact ⟨_, _, rfl⟩

theorem State.restoreGlobal_frame (s : State) :
    ∃ l v, s.restoreGlobal = { s with lane := { s.lane with lanes := l }, ranges := v } := by
  obtain ⟨l, v, e⟩ := State.bind_frame s 0
  unfold State.restoreGlobal
  dsimp only
  split
  · rw [e]; exact ⟨_, _, rfl⟩
  · exact ⟨l, v, e⟩

theorem State.restoreIfUnbound_frame (s : State) :
    ∃ l v, s.restoreIfUnbound = { s with lane := { s.lane with lanes := l }, ranges := v } := by
  unfold State.restoreIfUnbound
  split
  · exact State.restoreGlobal_frame s
  · exact ⟨_, _, rfl⟩

/-- Locking a range changes that range's entry and lane records alone (R98, R103). -/
theorem State.lockRange_frame (s : State) (w : Rights) (r : RangeId) :
    ∃ l, s.lockRange w r =
      { s with
        lane := { s.lane with lanes := l }
        ranges := s.ranges.set r.val ((s.range r).without w) r.isLt } := by
  unfold State.lockRange
  dsimp only
  split
  · exact ⟨_, rfl⟩
  · obtain ⟨l, e⟩ := State.releaseOf_frame (s.setRange r ((s.range r).without w)) r
    exact ⟨l, by rw [e]; rfl⟩

/-- The conditional increment changes the epoch and the Drive Port's notices alone (R22, R103). -/
theorem State.raiseIf_frame (b : Bool) (s : State) :
    ∃ e d, State.raiseIf b s = { s with epoch := e, drive := d } := by
  cases b <;> exact ⟨_, _, rfl⟩

/-- The link comes UP: the Lane Controller, the ranges and the Drive Port alone (R64). -/
theorem State.linkUp_frame (s : State) :
    ∃ l v d, s.linkUp = { s with lane := l, ranges := v, drive := d } := by
  unfold State.linkUp
  dsimp only
  split
  · obtain ⟨l, v, h⟩ := State.restoreGlobal_frame _
    rw [h]
    exact ⟨_, _, _, rfl⟩
  · exact ⟨_, _, _, rfl⟩

/-- What the Key-erase group leaves of each range: its record VOID, and no lane (R132). -/
@[simp] theorem State.range_keysErased (s : State) (r : RangeId) :
    s.keysErased.range r = (s.range r).voided := by
  simp [State.keysErased, State.range]

/-! ## Custody responses -/

theorem State.withdrawHold_frame (s : State) :
    ∃ d f, s.withdrawHold = { s with drive := d, platform := f } := by
  unfold State.withdrawHold
  split
  · exact State.setWork_frame ..
  · exact ⟨_, _, rfl⟩

/-- Entering CONCEALED changes no record, live or stored, and no queue but the ports' own. -/
theorem State.conceal_frame (s : State) :
    ∃ d f v la, s.conceal =
      { s with
        drive := d, platform := f, ranges := v, lane := la, mode := .blank
        custody := { s.custody with
          escalation := 0, escalationSecs := 0, target := s.policy.escalationTarget } } := by
  obtain ⟨d, f, e⟩ := State.withdrawHold_frame s.lockAll.releaseAll
  unfold State.conceal
  dsimp only
  rw [e]
  exact ⟨_, _, _, _, rfl⟩

/-- The storing commit of a response: the job, the draw and the commit queue. -/
theorem State.storeResponse_frame (s : State) (old : Custody) (acts : List Act) :
    ∃ sc n q h, s.storeResponse old acts = { s with scrub := sc, draws := n, queue := q, held := h } := by
  have group : ∀ (j : JournalRec) (acts : List Act), ∃ sc n q h,
      s.discardScrub.enterEraseGroup j acts = { s with scrub := sc, draws := n, queue := q, held := h } := by
    intro j acts
    unfold State.enterEraseGroup
    obtain ⟨q, h, e⟩ := State.enter_frame []
      (eraseGroupEntry s.discardScrub.drawSecret.1 (s.discardScrub.custodyRec false true) j acts)
      s.discardScrub.drawSecret.2
    exact ⟨_, _, q, h, by rw [e]; rfl⟩
  unfold State.storeResponse
  split
  · obtain ⟨q, h, e⟩ := State.storeCustody_frame s false true acts
    exact ⟨_, _, q, h, by rw [e]⟩
  · exact group _ _
  · split
    · unfold State.storeScrubbing
      dsimp only
      split
      · exact ⟨_, _, _, _, rfl⟩
      · obtain ⟨q, h, e⟩ := State.enterAll_frame
          [journalEntry ⟨some s.custodyJob, []⟩ .plain [],
            custodyEntry (s.custodyRec false false) (.custodyJobStored :: acts)] s
        exact ⟨_, _, q, h, by rw [e]⟩
    · exact group _ _
  · exact ⟨_, _, _, _, rfl⟩

/-- What a response leaves unchanged: the records, live and stored, the clocks but escalation, the
store, geometry, power and Supply Warning. -/
theorem State.respond_frame (s : State) (l : Level) (acts : List Act) :
    ∃ d f v la m e c sc n q h, s.respond l acts =
      { s with
        drive := d, platform := f, ranges := v, lane := la, mode := m, epoch := e
        custody := c, scrub := sc, draws := n, queue := q, held := h } := by
  unfold State.respond
  split
  · dsimp only
    have store : ∀ (x : State) (old : Custody),
        (∃ d f v la m e c, x = { s with
          drive := d, platform := f, ranges := v, lane := la, mode := m, epoch := e, custody := c }) →
        ∃ d f v la m e c sc n q h, x.storeResponse old acts =
          { s with
            drive := d, platform := f, ranges := v, lane := la, mode := m, epoch := e
            custody := c, scrub := sc, draws := n, queue := q, held := h } := by
      rintro x old ⟨d, f, v, la, m, e, c, rfl⟩
      obtain ⟨sc, n, q, h, e'⟩ := State.storeResponse_frame
        { s with drive := d, platform := f, ranges := v, lane := la, mode := m, epoch := e, custody := c }
        old acts
      exact ⟨d, f, v, la, m, e, c, sc, n, q, h, e'⟩
    apply store
    by_cases h : s.custody.state.inUse
    · obtain ⟨d, f, v, la, e⟩ := State.conceal_frame s
      simp only [h, if_true, e]
      split <;> exact ⟨_, _, _, _, _, _, _, rfl⟩
    · simp only [h, Bool.false_eq_true, if_false, Bool.false_and]
      exact ⟨_, _, _, _, _, _, _, rfl⟩
  · exact ⟨_, _, _, _, _, _, _, _, _, _, _, rfl⟩

/-- A level at or below the custody state, and any level in OPEN, does nothing (R122). -/
theorem State.respond_of_no_effect {s : State} {l : Level} (h : s.responds l = false) (acts : List Act) :
    s.respond l acts = s := by simp [State.respond, h]

/-! ## Credential checks -/

/-- A request past its check either is refused by the store or has its writes entered (R153). -/
theorem State.commitRequest_cases (s : State) (ws : List Entry) :
    (∃ r, s.refusesWrites (ws.map (·.key)) = some r ∧ s.commitRequest ws = s.answer .drive (.code r)) ∨
      (s.refusesWrites (ws.map (·.key)) = none ∧
        s.commitRequest ws = (s.enterAll ws).setWork .drive .committing) := by
  unfold State.commitRequest
  split
  · rename_i r h; exact .inl ⟨r, h, rfl⟩
  · rename_i h; exact .inr ⟨h, rfl⟩

/-- A credential check taken: a gate's reply, the store's refusal, or the charge entered (R75, R76). -/
theorem State.beginCheck_cases (s : State) (k : ReqKind) (tag : Byte) (a : AuthId) (c : Secret)
    (req : CredReq) :
    (∃ b, gateRefusal s a = some b ∧ s.beginCheck k tag a c req = s.replyTo k .drive tag b) ∨
      (gateRefusal s a = none ∧ ∃ r, s.refusesWrites [.single .tries] = some r ∧
        s.beginCheck k tag a c req = s.replyTo k .drive tag (.code r)) ∨
      (gateRefusal s a = none ∧ s.refusesWrites [.single .tries] = none ∧
        s.beginCheck k tag a c req =
          (s.enterAll [triesEntry (s.chargedTries a) [.charged]]).startWork k .drive tag
            (.charging a c req)) := by
  unfold State.beginCheck
  split
  · rename_i b h; exact .inl ⟨b, h, rfl⟩
  · rename_i h
    split
    · rename_i r h'; exact .inr (.inl ⟨h, r, h', rfl⟩)
    · rename_i h'; exact .inr (.inr ⟨h, h', rfl⟩)

/-! ## The device try limit (R72) -/

/-- Meeting a stored limit changes the Tries record and what waits to be written, and leaves the device failure
count at the smaller of itself and the limit. -/
theorem State.limitDeviceCount_frame (s : State) :
    ∃ q h, s.limitDeviceCount =
      { s with
        tries := { s.tries with device := min s.tries.device s.store.policy.deviceTryLimit }
        queue := q
        held := h } := by
  unfold State.limitDeviceCount
  split
  · rename_i le
    rw [Nat.min_eq_right (by simpa [State.reachesLimit] using le)]
    obtain ⟨q, h, e⟩ := State.enter_frame []
      (triesEntry { s.tries with device := s.store.policy.deviceTryLimit } [])
      { s with tries := { s.tries with device := s.store.policy.deviceTryLimit } }
    exact ⟨q, h, e⟩
  · rename_i le
    rw [Nat.min_eq_left (by simp [State.reachesLimit] at le; omega)]
    exact ⟨s.queue, s.held, rfl⟩

/-- Below the stored limit nothing changes. -/
theorem State.limitDeviceCount_of_lt {s : State} (h : s.tries.device < s.store.policy.deviceTryLimit) :
    s.limitDeviceCount = s := by
  simp [State.limitDeviceCount, State.reachesLimit, Nat.not_le.mpr h]

/-! ## RESTART -/

/-- What RESTART changes when it takes effect: the ranges' rights, the lanes, the mode, the epoch, the notice
queues, the job's orders and the start cause (R169). -/
theorem State.restarted_frame (s : State) :
    ∃ r l, s.restarted =
      { s with
        restartPending := none
        startCause := .restart
        drive := s.drive.withoutNotices
        platform := s.platform.withoutNotices
        ranges := r
        lane := l
        mode := .ofCustody s.custody.state
        epoch := s.epoch + 1
        scrub := { s.scrub with job := s.scrub.job.map Job.forgetOrders } } := by
  unfold State.restarted State.choosePresentation
  dsimp only
  split
  · obtain ⟨l, v, h⟩ := State.restoreGlobal_frame _
    rw [h]
    exact ⟨_, _, rfl⟩
  · exact ⟨_, _, rfl⟩

/-- Once settled, a port has no RESTART left to take effect. -/
theorem State.restartOn_settle (s : State) (p : Port) : (s.settle p).restartOn p = none := by
  cases p
  · simp only [State.restartOn, State.settle, State.restartTakesEffect]
    split
    · obtain ⟨r, l, h⟩ := State.restarted_frame s
      rw [h]
    · assumption
  · rfl

end Sys2Proof.Machine
end

