-- ==== Sys2Proof/Tests/Slice0.lean ====
section
/-!
SUPPORT. Tests: the refusals of WellFormed, frames against the manual's own words and worked example, the
worked cases of chapter 2, one step of each kind of command; and for every statement with hypotheses a
named state that meets them.
-/

namespace Sys2Proof.Tests

-- One test at a time: checked side by side, their threads need more memory than check.sh allows.
set_option Elab.async false

open Sys2Proof Sys2Proof.Machine

/-! ## States to test on -/

/-- An active authority, of any role. -/
def someone : AuthorityRec := ⟨.active, some 0, some 0, 10⟩

/-- A range record of granules [start, start + length). -/
def extent (start length : Nat) (v : Visibility) (st : RangeState) : RangeRec :=
  ⟨start, length, v, st, #v[true, true, false, false, false, false, false, false], .lockOnStandby⟩

/-- A lane loaded for a range. -/
def loadedLane (r : RangeId) : LaneRec := ⟨.loaded, some r, some 7, .probe, some .ok, [], 0⟩

/-- A FREE lane planned PROBE. -/
def freeLane : LaneRec := ⟨.free, none, none, .probe, some .ok, [], 0⟩

/-- The base configuration of section 2.8, paired, with three authorities and range 6 BLANK and range 7
VOID beyond its ranges. -/
def base : State :=
  { State.reset with
    geometry := some ⟨2097152, 65536⟩
    custody := { State.reset.custody with state := .guarded, verdict := .paired }
    policy := { PolicyRec.default with checkinPeriod := 48 }
    pairing := some 5
    authorities := (((Vector.replicate 8 .delivered).set 0 someone).set 1 someone).set 7 someone
    keys := Vector.replicate 16 ⟨1, some (3, 7)⟩
    lane :=
      ⟨[loadedLane 0, freeLane, loadedLane 1, freeLane, freeLane, loadedLane 3], .up, 0, .lane 0, none⟩
    ranges :=
      (((((Vector.replicate 16 .absent).set 0 ⟨some .global, true, true, some 0, some 0⟩).set 1
        ⟨some (extent 0 32768 .shown .active), true, true, some 1, some 2⟩).set 2
        ⟨some (extent 32768 32768 .hiddenWhileLocked .active), false, false, none, none⟩).set 3
        ⟨some (extent 131072 32768 .shown .active), true, false, some 1, some 5⟩).set 6
        ⟨some (extent 180000 8 .shown .blank), false, false, none, none⟩ |>.set 7
        ⟨some (extent 190000 8 .shown .void), false, false, none, none⟩ }

/-- The Drive Port's request in flight. -/
def State.flying (s : State) (k : ReqKind) (w : Work) : State :=
  { s with drive := { s.drive with inFlight := some ⟨k, 9, w⟩ } }

/-- A request whose refund is under way. -/
def State.refundOf (s : State) (k : ReqKind) (a : AuthId) (req : CredReq) : State :=
  { State.flying s k (.refunding a req) with queue := [triesEntry .clear [.refunded]] }

/-- A request whose last commit is under way. -/
def State.commitOf (s : State) (k : ReqKind) (e : Entry) : State :=
  { State.flying s k .committing with queue := [e] }

/-- Another custody state. -/
def State.inCustody (s : State) (c : Custody) : State := { s with custody := { s.custody with state := c } }

/-- The state a step leads to. -/
def after (c : Instr) (s : State) : State :=
  match exec c s with
  | .next t => t
  | _ => s

/-- What the Drive Port's reply slot carries after a command. -/
def reply (c : Instr) (s : State) : Option ReplyBody := (after c s).drive.replySlot.map fun r => r.body

/-! ## WellFormed refuses -/

theorem test_wellFormed_refuses_long_payload :
    Instr.WellFormed (.present .drive 0 (List.replicate 257 0)) = false := by decide +kernel

theorem test_wellFormed_refuses_foreign_operation :
    Instr.WellFormed (.setAuthorityLimit .drive 0 (List.replicate 34 0 ++ [3])) = false ∧
      Instr.WellFormed (.setAuthorityEnable .drive 0 (List.replicate 34 0 ++ [2])) = false ∧
      Instr.WellFormed (.setAuthorityDisable .drive 0 (List.replicate 34 0 ++ [5])) = false ∧
      Instr.WellFormed (.setAuthorityReinstate .drive 0 (List.replicate 34 0 ++ [4])) = false ∧
      Instr.WellFormed (.setAuthorityCredential .drive 0 (List.replicate 34 0 ++ [5])) = false := by
  decide +kernel

theorem test_wellFormed_refuses_known_kind : Instr.WellFormed (.unknownKind .drive 0x04 0 []) = false := by
  decide +kernel

theorem test_wellFormed_refuses_sound_frame_as_garbled :
    Instr.WellFormed (.garbledFrame .drive (frameBytes 4 0 [])) = false := by decide +kernel

theorem test_wellFormed_refuses_whole_frame_as_break :
    Instr.WellFormed (.linkBreak .drive (frameBytes 4 0 [])) = false := by decide +kernel

theorem test_wellFormed_refuses_partial_frame_over_reply :
    Instr.WellFormed (.frameOverUnreadReply .drive [0x5E, 4]) = false := by decide +kernel

/-! ## Frames -/

/-- R175: over the nine bytes "123456789" the check is 0x29B1. -/
theorem test_crc_check_value :
    crc16 [0x31, 0x32, 0x33, 0x34, 0x35, 0x36, 0x37, 0x38, 0x39] = 0x29B1 := by decide +kernel

/-- R175, R176: a PRESENT frame written out byte by byte. -/
theorem test_present_frame :
    commandOfDriveTransaction false
      ([0x5E, 0x04, 0x21, 0x00, 0x00] ++ leBytes 2 (crc16 [0x04, 0x21, 0x00, 0x00]).toNat) =
      .present .drive 0x21 [] := by decide +kernel

/-- R175: a wrong check byte, and a length over 256, are GARBLED. -/
theorem test_garbled_frames :
    readFrame [0x5E, 0x04, 0x21, 0x00, 0x00, 0x00, 0x00] = .garbled ∧
      readFrame [0x5E, 0x04, 0x21, 0x01, 0x01] = .garbled := by decide +kernel

/-- The request of section 11.9. -/
def workedRequest : Instr := .resolve .drive 0x40 ([0] ++ leBytes 6 1769470 ++ leBytes 2 3)

/-- Section 11.9: the reply frame's 43 bytes, kind, tag, length and payload. -/
theorem test_worked_reply_frame :
    ((after workedRequest { base with epoch := 5 }).drive.replySlot.map Reply.bytes).map
        (fun b => (b.length, b.take 41)) =
      some (43, [0x5E, 0x81, 0x40, 36, 0, 0, 5, 0, 2, 4, 0, 0, 0, 0xFF, 0xFF, 0xFF, 0xFF, 0xFF, 0xFF,
        1, 0, 0, 0, 0, 0xFE, 0xFF, 0x1E, 0, 0, 0,
        1, 0, 6, 0xFF, 0xFF, 0xFF, 0xFF, 0xFF, 0xFF, 0xFF, 0xFF]) := by decide +kernel

/-- The table gives no row any bits. -/
theorem test_no_word_spells_a_command : decodeTableWord 16 0 = none := rfl

/-! ## The worked cases of section 2.8 -/

theorem test_case_1 : base.fragments .read 262136 16 =
    [⟨8, .pass, some 1, some 2, some 262136⟩, ⟨8, .pass, some 0, some 0, some 524288⟩] := by decide +kernel

theorem test_case_2 : base.fragments .write 786428 8 =
    [⟨4, .pass, some 0, some 0, some 1048572⟩, ⟨4, .refuseLocked, some 3, none, none⟩] := by decide +kernel

theorem test_case_4 : base.fragments .read 281474976710655 65536 =
    [⟨65536, .beyond, none, none, none⟩] := by decide +kernel

theorem test_case_5_overlay : { base with mode := .overlay }.fragments .read 65530 12 =
    [⟨6, .image, none, none, some 2097146⟩, ⟨6, .zero, none, none, none⟩] := by decide +kernel

theorem test_case_5_blank : { base with mode := .blank }.fragments .write 262136 16 =
    [⟨16, .refuseLocked, some 0, none, none⟩] := by decide +kernel

theorem test_case_6 : { base with lane := { base.lane with link := .held } }.fragments .read 262136 16 =
    [⟨8, .wait, some 1, none, none⟩, ⟨8, .wait, some 0, none, none⟩] := by decide +kernel

/-- Case 8: a concealed range inside range 0. -/
theorem test_case_8 :
    (base.setRange 4 ⟨some (extent 196608 1024 .hiddenWhileLocked .active), false, false, none, none⟩).fragments
        .read 1310716 8 =
      [⟨4, .pass, some 0, some 0, some 1572860⟩, ⟨4, .pass, some 0, some 0, some 1581056⟩] := by decide +kernel

/-! ## One step of each kind of command -/

/-- R163: a delivered device starts OPEN, in NORMAL, range 0 with both rights on lane 0, the link DOWN. -/
theorem test_reset : State.reset.mode = .normal ∧ State.reset.lane.link = .down ∧
    (State.reset.range 0).lane = some 0 ∧ State.reset.startCause = .powerOn := by decide +kernel

/-- R160, R163: the start instant on the delivered records gives the state after reset. -/
theorem test_reset_is_a_start : after (.startInstant false) State.reset = State.reset := rfl

/-- R24: RESOLVE without geometry is STATE. -/
theorem test_resolve_needs_geometry :
    reply (.resolve .drive 1 (List.replicate 9 0)) State.reset = some (.epoch .state 0) := by
  decide +kernel

/-- Section 5: a LOCK of both rights of range 1 reports its clear pending. -/
theorem test_lock : reply (.lock .drive 1 [3, 1, 1]) base =
    some (.locked 0 [⟨1, true, false, false, true⟩]) := by decide +kernel

/-- R4, R103: locking the read right of a HIDDEN_WHILE_LOCKED range raises the epoch. -/
theorem test_lock_hides :
    (after (.lock .drive 1 [1, 1, 2]) (base.setRange 2
      ⟨some (extent 32768 32768 .hiddenWhileLocked .active), true, false, some 1, none⟩)).epoch = 1 := by
  decide +kernel

/-- R101: ranges 0, 1 and 3 are LOCK_ON_STANDBY and have a right on. -/
theorem test_standby : reply (.standby .drive 1 []) base =
    some (.standby 0 [(0, true), (1, true), (3, true)]) := by decide +kernel

/-- R8: I is at most a fraction of M: 65536 sectors with an image of 32768 is refused. -/
theorem test_geometry_bounds :
    reply (.geometry .drive 1 (leBytes 6 65536 ++ leBytes 4 32768)) State.reset =
      some (.code .badValue) := by decide +kernel

/-- R75: an UNSET authority is DENIED. -/
theorem test_unlock_unset_authority :
    reply (.unlock .drive 1 (3 :: List.replicate 32 0 ++ [3, 1, 1])) base = some (.code .denied) := by
  decide +kernel

/-- R81: eight failures give 2^5 = 32 s. -/
theorem test_backoff_values : [2, 3, 8, 11, 12].map backoffOf = [0, 1, 32, 256, 256] := by decide +kernel

/-- R57: EMPTY frees a CLEARING lane and unbinds its range. -/
theorem test_clear_frees :
    let s := { base with
      lane := ⟨[{ loadedLane 1 with state := .clearing, plan := .clear }], .up, 0, .lane 0, some .clear⟩
      ranges := base.ranges.set 1 { base.range 1 with read := false, write := false, lane := some 0 } }
    ((after (.clearSlotEnd .empty) s).range 1).lane = none ∧
      (after (.clearSlotEnd .empty) s).lane.lanes = [LaneRec.emptied { loadedLane 1 with range := none }] ∧
      (after (.clearSlotEnd .empty) s).lane.position = .turn := by decide +kernel

/-- R58: a second MISMATCH among the last three votes faults the lane; the range is relocked. -/
theorem test_probe_faults :
    let s := { base with
      lane := ⟨[{ loadedLane 1 with votes := [.mismatch, .ok] }], .up, 0, .lane 0, some (.probe (some 7))⟩
      ranges := base.ranges.set 1 { base.range 1 with lane := some 0 } }
    ((after (.probeSlotEnd .empty) s).range 1).hasRight = false ∧
      (after (.probeSlotEnd .empty) s).drive.notices.map (fun n => n.kind) =
        [.rangeRelocked, .laneFault] := by decide +kernel

/-- R66, R100, R102: the link comes UP in OPEN with range 0 on lane 0, LOADING as after a start, or CLEARING
after a LOCK while DOWN; the CLEAR that comes first then gives the rights back. -/
theorem test_link_up_in_open :
    let s (st : LaneState) : State := State.inCustody
      { base with
        lane := ⟨{ loadedLane 0 with state := st } :: List.replicate 3 freeLane, .down, 0, .lane 0, none⟩
        ranges := base.ranges.set 0 { base.range 0 with read := false, write := false } } .opened
    ((after (.turnSlotEnd 4) (s .loading)).range 0).hasRight = true ∧
      ((after (.turnSlotEnd 4) (s .clearing)).range 0).hasRight = false ∧
      (after (.turnSlotEnd 4) (s .clearing)).lane.lanes.map LaneRec.state = [.clearing, .free, .free, .free] := by
  decide +kernel

/-- R61, R64: the turn slot that brings the link UP adopts its count. -/
theorem test_link_up : (after (.turnSlotEnd 8) { base with lane := LaneCtl.initial }).lane =
    ⟨List.replicate 8 .initial, .up, 0, .lane 0, none⟩ := by decide +kernel

/-- R117: the window's expiry makes PENDING FOREIGN and raises the count. -/
theorem test_window_expiry :
    let s := { base with custody := { base.custody with verdict := .pending } }
    (after .pairingWindowExpiry s).custody.foreignCount = 1 ∧
      (after .pairingWindowExpiry s).custody.verdict = .foreign := by decide +kernel

/-- R118: with a period of 48 h and a margin of 24 h the warning point is 1,440 minutes (section 9.6). -/
theorem test_warning_point :
    (after .checkinWarning { base with custody := { base.custody with checkin := 1439 } }).custody.state =
      .warned ∧ base.policy.warningPoint = 1440 := by decide +kernel

/-- R119: an inexact 600 is restored as 615, and no clock beyond its limit. -/
theorem test_restored_clock :
    restoredClock 600 2880 false = 615 ∧ restoredClock 600 2880 true = 600 ∧
      restoredClock 2870 2880 false = 2880 := by decide +kernel

/-- R152: a second Custody write merges into the one that waits. -/
theorem test_merge :
    ((base.enterAll [policyEntry .default [], custodyEntry .delivered [], triesEntry .clear []]).enter []
      (custodyEntry { CustodyRec.delivered with foreignCount := 3 } [])).queue.map (fun e => e.key) =
      [.single .policy, .single .custody, .single .tries] := by decide +kernel

/-- R157: the final checkpoint goes directly behind the entry under way. -/
theorem test_final_checkpoint :
    ((after .supplyWarningAsserted
      (base.enterAll [policyEntry .default [], triesEntry .clear []])).queue.map fun e => e.key) =
      [.single .policy, .final, .single .tries] := by decide +kernel

/-- R139: the first order of a job over 3,000 sectors is a chunk of 2,048. -/
theorem test_first_order :
    reply (.scrubTake .drive 1 [])
      { base with scrub := ⟨some (.ofJournal ⟨.custody, none, 0, 3000, 0, false⟩), [], 1⟩ } =
      some (.order 1 .custody none 0 2048) := by decide +kernel

/-- Section 9.7: RESTART's effect hides range 2 again, in one increment, and keeps the bindings. -/
theorem test_restart :
    let s := { (base.setRange 2
      ⟨some (extent 32768 32768 .hiddenWhileLocked .active), true, true, some 1, some 3⟩) with
        mode := .overlay, epoch := 1, restartPending := some ⟨0x99, 1, .restarted 1 .guarded⟩ }
    (after .restartTakesEffect s).epoch = 2 ∧ (after .restartTakesEffect s).concealedSet = [2] ∧
      ((after .restartTakesEffect s).range 2).lane = some 3 ∧
      (after (.readTransaction .drive 3) s).epoch = 2 := by decide +kernel

/-- R182: FETCH takes four of five notices. -/
theorem test_fetch :
    let n : Notice := ⟨.checkinDue, none, none, 0, .guarded⟩
    reply (.fetch .drive 1 []) { base with drive := { base.drive with notices := List.replicate 5 n } } =
      some (.notices (List.replicate 4 n) 1 false) := by decide +kernel

/-! ## States that meet the hypotheses of the statements -/

/-- A machine with a command waiting; and with none, powered and counting, or without power. -/
theorem witness_steps :
    { base with pending := [.commitComplete] }.pending = .commitComplete :: [] ∧
      (base.pending = [] ∧ base.powered = true ∧ base.checkinCounting = true ∧
        base.custody.checkinSecs < 59) ∧
      (State.reset.pending = [] ∧ State.reset.checkinCounting = false) ∧
      ({ base with powered := false }.pending = [] ∧ { base with powered := false }.powered = false) := by
  decide +kernel

theorem witness_FrameReadsBack : ([] : List Byte).length ≤ 256 ∧ (List.replicate 256 (0 : Byte)).length ≤ 256 ∧
    6 < (frameBytes 4 0 []).length := by decide +kernel

theorem witness_FramesThatReachNoOwner : base.powered = true ∧ (base.port .drive).replySlot = none ∧
    ({ base with drive := { base.drive with replySlot := some ⟨0x84, 0, .code .ok⟩ } }.port
      .drive).replySlot.isSome = true ∧ base.restartOn .drive = none := by decide +kernel

theorem witness_PortChecksAnswerInOrder :
    base.Hears .drive ∧ base.Hears .platform ∧ servedOn .pair .drive = false ∧
      servedOn .present .drive = true ∧ admitsLength .present [0] = false ∧
      admitsLength .present [] = true ∧ (State.flying base .unlock .committing).Hears .drive ∧
      ((State.flying base .unlock .committing).port .drive).inFlight.isSome = true :=
  ⟨⟨rfl, rfl, rfl⟩, ⟨rfl, rfl, rfl⟩, rfl, rfl, rfl, rfl, ⟨rfl, rfl, rfl⟩, rfl⟩

theorem witness_ReadTransactionTakesTheReply :
    let r : Reply := ⟨0x84, 0, .code .ok⟩
    let full := { base with drive := { base.drive with replySlot := some r } }
    let twice := { base with drive := { base.drive with replySlot := some r, deferred := some r } }
    base.powered = true ∧ (base.port .drive).replySlot = none ∧ (full.port .drive).replySlot = some r ∧
      7 < r.bytes.length ∧ r.bytes.length ≤ 8 ∧ (full.port .drive).deferred = none ∧
      (twice.port .drive).replySlot = some r ∧ (twice.port .drive).deferred = some r ∧
      twice.restartOn .drive = none := by decide +kernel

theorem witness_ready : base.Ready .drive ∧ base.Ready .platform ∧ State.reset.Ready .drive ∧
    State.reset.Ready .platform ∧ 1 < (2 : Byte).toNat :=
  ⟨⟨⟨rfl, rfl, rfl⟩, rfl⟩, ⟨⟨rfl, rfl, rfl⟩, rfl⟩, ⟨⟨rfl, rfl, rfl⟩, rfl⟩, ⟨⟨rfl, rfl, rfl⟩, rfl⟩, by decide⟩

/-- An event that changes the epoch: PRESENT in OVERLAY. -/
theorem witness_EpochChangesAreNoticed :
    let s := { base with mode := .overlay }
    exec (.present .drive 1 []) s = .next (after (.present .drive 1 []) s) ∧
      (after (.present .drive 1 []) s).epoch ≠ s.epoch ∧ s.restartPending = none :=
  ⟨rfl, by decide +kernel, rfl⟩

theorem witness_ResolveAnswersAtOnce :
    let pl : List Byte := 1 :: List.replicate 8 0
    base.Hears .drive ∧ pl.length = 9 ∧ byteAt pl 0 = 1 ∧ base.geometry.isSome = true ∧
      1 < byteAt (2 :: pl) 0 ∧ State.reset.geometry = none := ⟨⟨rfl, rfl, rfl⟩, rfl, rfl, rfl, by decide, rfl⟩

/-- What a check says of every range record of the base configuration, it says of each. -/
theorem base_ranges (p : RangeId → RangeRec → Bool)
    (h : ∀ r : RangeId, ((base.range r).stored.map (p r)).getD true = true) (r : RangeId) (c : RangeRec)
    (hc : (base.range r).stored = some c) : p r c = true := by
  simpa [hc] using h r

/-- Range 2 alone is concealed; media sector 262,143 is the last of range 1 alone and 524,288 is in none; and
there are ranges for every row of the disposition table. -/
theorem witness_ResolutionAgreesSectorBySector :
    (base.isConcealed 0 = false ∧ base.isConcealed 2 = true ∧ base.mode ≠ .blank) ∧
      (∀ r c, (base.range r).stored = some c → c.visibility = .hiddenWhileLocked →
        (base.range r).read = false → (if r = 2 then 262144 else 0) = c.length * 8) ∧
      (∀ r c, (base.range r).stored = some c → r ≠ 0 → c.start * 8 ≤ 262143 →
        262143 < (c.start + c.length) * 8 → r = 1) ∧
      (∀ r c, (base.range r).stored = some c → r ≠ 0 →
        ¬(c.start * 8 ≤ 524288 ∧ 524288 < (c.start + c.length) * 8)) ∧
      ((base.range 7).stored.map fun c => c.state) = some .void ∧
      ((base.range 6).stored.map fun c => c.state) = some .blank ∧
      ((base.range 1).stored.map fun c => c.state) = some .active ∧ (base.range 3).write = false ∧
      (base.range 1).read = true ∧ (base.range 1).lane = some 2 ∧ base.laneAt 2 = some (loadedLane 1) ∧
      base.lane.link = .up ∧ { base with lane := { base.lane with link := .held } }.lane.link ≠ .up := by
  refine ⟨by decide +kernel, ?_, ?_, ?_, rfl, rfl, rfl, rfl, rfl, rfl, rfl, rfl, by decide⟩
  · intro r c hc hv hr
    simpa [hv, hr] using base_ranges (fun r c => decide (c.visibility = .hiddenWhileLocked →
      (base.range r).read = false → (if r = 2 then 262144 else 0) = c.length * 8)) (by decide +kernel) r c hc
  · intro r c hc h0 h1 h2
    have h := base_ranges (fun r c => decide (r ≠ 0 → c.start * 8 ≤ 262143 →
      262143 < (c.start + c.length) * 8 → r = 1)) (by decide +kernel) r c hc
    exact of_decide_eq_true h h0 h1 h2
  · intro r c hc h0
    have h := base_ranges (fun r c => decide (r ≠ 0 →
      ¬(c.start * 8 ≤ 524288 ∧ 524288 < (c.start + c.length) * 8))) (by decide +kernel) r c hc
    exact of_decide_eq_true h h0

/-- Range 2's extent is one that the last clause of translation asks for, and media sectors lie outside
it. -/
theorem witness_TranslationIsOneToOne :
    base.concealedExtents = [(262144, 262144)] ∧ 262144 + 262144 ≤ base.userSectors ∧
      0 < base.userSectors := by decide +kernel

theorem witness_PresentShowsTheDrive :
    { base with mode := .overlay }.Ready .drive ∧ { base with mode := .blank }.Ready .drive ∧
      base.mode = .normal := ⟨⟨⟨rfl, rfl, rfl⟩, rfl⟩, ⟨⟨rfl, rfl, rfl⟩, rfl⟩, rfl⟩

/-- The bounds of R8: M of 65,536 and of 2^40 sectors, I of 0 and of 262,144. -/
theorem witness_GeometryIsSetOnce :
    let pl := leBytes 6 65536 ++ leBytes 4 0
    let most := leBytes 6 (2 ^ 40) ++ leBytes 4 262144
    let e (m i : Nat) : Entry := ⟨.single .identity, [.identity ⟨some ⟨m, i⟩, State.reset.rootKey⟩],
      [.geometryStored, .answer .drive .epoch]⟩
    (pl.length = 10 ∧ most.length = 10 ∧ leNat (pl.take 6) = 65536 ∧ leNat (pl.drop 6) = 0 ∧
      leNat (most.take 6) = 2 ^ 40 ∧ leNat (most.drop 6) = 262144 ∧
      leNat ((leBytes 6 65535 ++ leBytes 4 0).take 6) = 65535) ∧
      State.reset.custody.state = .opened ∧ State.reset.geometry = none ∧ State.reset.queue = [] ∧
      State.reset.held = [] ∧ State.reset.supplyWarning = false ∧ base.geometry.isSome = true ∧
      (State.commitOf State.reset .geometry (e 65536 0)).AtCommit .drive .geometry 9 (e 65536 0) :=
  ⟨by decide +kernel, rfl, rfl, rfl, rfl, rfl, rfl, ⟨⟨rfl, rfl, rfl⟩, rfl, rfl, rfl⟩⟩

/-- A request of the Administrator at its refund, of any kind. -/
theorem witness_refund (k : ReqKind) (a : AuthId) (req : CredReq) :
    (State.refundOf base k a req).AtRefund k 9 a req .clear := ⟨⟨rfl, rfl, rfl⟩, rfl, rfl, rfl⟩

/-- A request of the Drive Port at its last commit, of any kind. -/
theorem witness_commit (k : ReqKind) (e : Entry) : (State.commitOf base k e).AtCommit .drive k 9 e :=
  ⟨⟨rfl, rfl, rfl⟩, rfl, rfl, rfl⟩

/-- A request of the Platform Port at its last commit, of any kind. -/
theorem witness_platformCommit (k : ReqKind) (e : Entry) :
    { base with queue := [e], platform := { base.platform with
      inFlight := some ⟨k, 9, .committing⟩ } }.AtCommit .platform k 9 e := ⟨⟨rfl, rfl, rfl⟩, rfl, rfl, rfl⟩

/-- Extents that fit, that do not, that overlap, and ranges that may not be reshaped. -/
theorem witness_SetRangeIsRefusedInOrder :
    base.custody.state = .guarded ∧ base.userSectors / 8 = 253952 ∧ 253951 + 1 ≤ base.userSectors / 8 ∧
      ¬(253951 + 2 ≤ base.userSectors / 8) ∧
      (∃ c, (base.range 1).stored = some c ∧ 32767 < c.start + c.length ∧ c.start < 32767 + 1) ∧
      (∃ c, (base.range 7).stored = some c ∧ c.start ≠ 190001 ∧ c.state = .void) ∧
      (∃ c, (base.range 1).stored = some c ∧ c.length ≠ 16 ∧ c.state = .active ∧
        (base.range 1).hasRight = true) ∧
      (State.inCustody base .concealed).custody.state = .concealed :=
  ⟨rfl, by decide +kernel, by decide +kernel, by decide +kernel, ⟨_, rfl, by decide, by decide⟩,
    ⟨_, rfl, by decide, rfl⟩, ⟨_, rfl, by decide, rfl, rfl⟩, rfl⟩

/-- Range 9 is absent and granules 200,000 to 200,007 are free; range 6 is BLANK, range 2 locked. -/
theorem witness_SetRangeDefinesAndEdits :
    (base.range 9).stored = none ∧ base.supplyWarning = false ∧
      (∀ q : RangeId, q ≠ 0 → ∀ c, (base.range q).stored = some c →
        c.start + c.length ≤ 200000 ∨ 200008 ≤ c.start) ∧
      200000 + 8 ≤ base.userSectors / 8 ∧
      (base.range 6).stored = some (extent 180000 8 .shown .blank) ∧
      (base.range 2).stored = some (extent 32768 32768 .hiddenWhileLocked .active) ∧
      (base.range 2).hasRight = false := by
  refine ⟨rfl, rfl, ?_, by decide +kernel, rfl, rfl, rfl⟩
  intro q _ c hc
  have h : ∀ q : RangeId, ((base.range q).stored.map fun c =>
      decide (c.start + c.length ≤ 200000 ∨ 200008 ≤ c.start)).getD true = true := by decide +kernel
  simpa [hc] using h q

theorem witness_DropRangeReturnsTheSectors :
    (base.range 6).stored.map (fun c => c.state) = some .blank ∧
      (base.range 2).stored.map (fun c => c.state) = some .active ∧ (base.range 2).hasRight = false ∧
      (base.range 2).lane = none ∧ (base.range 7).stored.map (fun c => c.state) = some .void ∧
      { base with queue :=
        [⟨.single (.range 2), [.range 2 none], [.rangeDropped 2]⟩, policyEntry .default []] }.queue =
        [⟨.single (.range 2), [.range 2 none], [.rangeDropped 2]⟩, policyEntry .default []] :=
  ⟨rfl, rfl, rfl, rfl, rfl, rfl⟩

/-- Range 1 has members 0 and 1, and its holder is 1; range 2 has no holder. -/
theorem witness_access :
    (base.range 1).stored = some (extent 0 32768 .shown .active) ∧
      (extent 0 32768 .shown .active).access[1] = true ∧ (extent 0 32768 .shown .active).access[2] = false ∧
      (base.range 1).holder = some 1 ∧ (base.range 2).holder ≠ some 1 ∧ (base.range 1).lane = some 2 := by
  decide +kernel

theorem witness_RekeyReturnsABlankRange :
    (base.range 6).stored = some (extent 180000 8 .shown .blank) ∧
      (extent 180000 8 .shown .blank).state = .blank ∧
      { base with store := { base.store with keys := base.keys } }.store.keys[6] = ⟨1, some (3, 7)⟩ :=
  ⟨rfl, rfl, rfl⟩

/-- A payload of an authority byte, a credential and the request's own bytes. -/
def payload (a : Byte) (own : List Byte) : List Byte := a :: List.replicate 32 0 ++ own

/-- States at each gate of the credential check, the charge refused and the charge entered. -/
theorem witness_Checks :
    let full := { base with queue := [policyEntry .default [], policyEntry .default [], policyEntry .default [],
      policyEntry .default []] }
    let locked : TriesRec := ⟨Vector.replicate 8 10, (Vector.replicate 8 false).set 1 true, 0⟩
    base.Ready .drive ∧ base.custody.state = .guarded ∧
      (State.inCustody base .erased).custody.state = .erased ∧
      (State.inCustody base .concealed).custody.state = .concealed ∧ base.authorities[3].stored = .unset ∧
      base.authorities[1].stored = .active ∧ base.tries.lockout[1] = false ∧
      { base with tries := locked }.tries.lockout[1] = true ∧ base.backoff[1] = 0 ∧
      { base with backoff := Vector.replicate 8 1 }.backoff[1] ≠ 0 ∧ base.supplyWarning = false ∧
      4 ≤ nonFinal full.queue ∧ (∀ e ∈ full.queue.tail, ∀ w ∈ e.writes, w.record ≠ some .tries) ∧
      base.queue = [] ∧ base.held = [] :=
  ⟨⟨⟨rfl, rfl, rfl⟩, rfl⟩, rfl, rfl, rfl, rfl, rfl, rfl, rfl, rfl, by decide +kernel, rfl, by decide +kernel,
    by decide +kernel, rfl, rfl⟩

/-- Payloads of each credentialed request, legal at the bounds of their bytes and illegal past them. -/
theorem witness_CredentialedRequestsAreCharged :
    let v (pl : List Byte) (i : Nat) : Nat := byteAt pl i
    let unlock := payload 7 [3, 2, 15, 15]
    let set := payload 0 ([15] ++ leBytes 5 200000 ++ leBytes 5 8 ++ [1, 1])
    let policy := payload 0 ([1, 3, 1, 1, 3] ++ leBytes 2 721 ++ leBytes 4 0 ++ [1, 0, 15, 2] ++
      List.replicate 32 0)
    (unlock.length = 35 + v unlock 34 ∧ v unlock 0 = 7 ∧ v unlock 33 = 3 ∧
      ((unlock.drop 35).map fun b => b.toNat).eraseDups = [15] ∧ v (payload 8 [3, 1, 1]) 0 = 8) ∧
      (set.length = 46 ∧ v set 0 = 0 ∧ v set 33 = 15 ∧ v set 44 = 1 ∧ v set 45 = 1 ∧
        leNat ((set.drop 34).take 5) = 200000 ∧ leNat ((set.drop 39).take 5) = 8) ∧
      ((payload 0 [15]).length = 34 ∧ v (payload 0 [15]) 33 = 15 ∧ v (payload 0 [16]) 33 = 16 ∧
        v (payload 7 [3]) 33 = Level.scrub.rank ∧ v (payload 7 [3]) 0 = 7 ∧ v (payload 6 [3]) 0 ≠ 7) ∧
      ((payload 0 [15, 7]).length = 35 ∧ v (payload 0 [15, 7]) 34 = 7 ∧ v (payload 0 [0, 8]) 34 = 8) ∧
      (payload 0 []).length = 33 ∧
      (policy.length = 80 ∧ (∀ i, 33 ≤ i → i ≤ 37 → 1 ≤ v policy i ∧ v policy i ≤ 3) ∧
        leNat ((policy.drop 38).take 2) = 721 ∧ leNat ((policy.drop 44).take 2) = 1 ∧ v policy 46 = 15 ∧
        v policy 47 = 2) ∧
      base.geometry.isSome = true ∧ State.reset.geometry.isSome = false ∧
      (base.chargedTries 1).lockout[1] = false := by
  refine ⟨by decide +kernel, by decide +kernel, by decide +kernel, by decide +kernel, rfl,
    ⟨rfl, ?_, by decide +kernel, by decide +kernel, by decide +kernel, by decide +kernel⟩, rfl, rfl,
    by decide +kernel⟩
  intro i h1 h2
  interval_cases i <;> decide +kernel

/-- SET_AUTHORITY's payloads: each operation, a limit above 31, and what each refusal is for. -/
theorem witness_SetAuthorityIsCharged :
    let pl (a t op limit : Byte) : List Byte := payload a ([t, op, limit] ++ List.replicate 31 0)
    let v (a t op limit : Byte) (i : Nat) : Nat := byteAt (pl a t op limit) i
    (pl 0 1 2 32).length = 67 ∧ (v 1 1 1 0 34 = 1 ∧ v 1 1 1 0 0 = 1 ∧ v 1 1 1 0 33 = 1) ∧
      (v 0 1 2 32 34 = 2 ∧ v 0 1 2 32 35 = 32) ∧ (v 0 1 3 0 34 = 3) ∧ (v 0 7 4 0 34 = 4 ∧ v 0 7 4 0 33 = 7) ∧
      (v 0 0 5 0 34 = 5 ∧ v 0 0 5 0 0 = 0) ∧ v 0 1 0 0 34 = 0 ∧ v 0 1 6 0 34 = 6 ∧
      (v 0 1 2 0 35 = 0 ∧ v 0 0 4 0 33 = 0 ∧ v 8 1 3 0 0 = 8 ∧ v 2 1 1 0 0 ≠ v 2 1 1 0 33) := by
  decide +kernel

/-- A charge under way, for a credential that matches: the stored verifier is its digest. -/
theorem witness_CompareFollowsTheCharge :
    let v := verifierOf 0 4
    let s := { State.flying base .unlock (.charging 1 4 (.unlock [1] .both)) with
      queue := [⟨.single .tries, [.tries .clear], [.charged]⟩]
      authorities := base.authorities.set 1 { someone with verifier := some v } }
    s.Hears .drive ∧ s.drive.inFlight = some ⟨.unlock, 9, .charging 1 4 (.unlock [1] .both)⟩ ∧
      s.queue = [⟨.single .tries, [.tries .clear], [.charged]⟩] ∧ s.held = [] ∧
      s.authorities[1].salt = some 0 ∧ s.authorities[1].verifier = some v ∧
      TriesRec.clear.device < s.policy.deviceTryLimit ∧
      s.policy.deviceTryLimit ≤ { TriesRec.clear with device := 30 }.device ∧ s.custody.state ≠ .opened ∧
      s.drive.notices = [] :=
  ⟨⟨rfl, rfl, rfl⟩, rfl, rfl, rfl, rfl, rfl, by decide +kernel, by decide +kernel, by decide, rfl⟩

/-- ACTIVE, UNSET, DISABLED and LOCKED_OUT targets; limits below, at and above the stored one. -/
theorem witness_SetAuthorityOperations :
    let disabled := base.authorities.set 1 { someone with stored := .disabled }
    let locked : TriesRec :=
      ⟨Vector.replicate 8 10, (Vector.replicate 8 false).set 1 true, 0⟩
    base.authorityState 1 = .active ∧ base.authorityState 3 = .unset ∧
      { base with authorities := disabled }.authorityState 1 = .disabled ∧
      { base with tries := locked }.authorityState 1 = .lockedOut ∧ base.policy.frozen = false ∧
      (9 < base.authorities[1].tryLimit ∧ base.authorities[1].tryLimit < 11) ∧
      locked.failures[1] = 10 ∧ TriesRec.clear.failures[1] < 9 ∧
      base.tries.lockout[1] = false ∧ locked.lockout[1] = true ∧ base.powered = true ∧ base.held = [] := by
  decide +kernel

theorem witness_EnrolGuardsTheDrive :
    let s := { State.reset with geometry := some ⟨2097152, 65536⟩ }
    (List.replicate 32 (0 : Byte)).length = 32 ∧ s.Ready .drive ∧ s.custody.state = .opened ∧
      s.geometry.isSome = true ∧ s.supplyWarning = false ∧ s.queue = [] ∧ s.held = [] ∧
      State.reset.geometry = none := ⟨rfl, ⟨⟨rfl, rfl, rfl⟩, rfl⟩, rfl, rfl, rfl, rfl, rfl, rfl⟩

/-- Ranges for every outcome of an UNLOCK, and lanes of every state. -/
theorem witness_UnlockGrants :
    let lane (l : LaneRec) := { base with lane := { base.lane with lanes := base.lane.lanes.set 2 l } }
    let busy := { base with lane := { base.lane with lanes := List.replicate 4 (loadedLane 1) } }
    (base.range 9).stored = none ∧ (base.range 2).stored.map (fun c => c.access[7]) = some false ∧
      (base.range 7).stored.map (fun c => (c.access[1], c.state)) = some (true, .void) ∧
      (base.range 2).stored.map (fun c => (c.access[1], c.state)) = some (true, .active) ∧
      (base.range 2).lane = none ∧ base.laneAt 1 = some freeLane ∧
      (busy.lane.lanes.all fun l => l.state != .free) = true ∧
      base.laneAt 2 = some (loadedLane 1) ∧
      (lane { loadedLane 1 with state := .clearing }).laneAt 2 =
        some { loadedLane 1 with state := .clearing } ∧
      (lane { loadedLane 1 with state := .fault }).laneAt 2 = some { loadedLane 1 with state := .fault } ∧
      (lane { loadedLane 1 with state := .loading }).laneAt 2 =
        some { loadedLane 1 with state := .loading } := by decide +kernel

/-- A Recovery UNLOCK whose refund finds CONCEALED, and another authority's. -/
theorem witness_RecoveryReturnsToGuarded :
    let s (a : AuthId) := State.refundOf (State.inCustody base .concealed) .unlock a (.unlock [2] .both)
    (s 7).AtRefund .unlock 9 7 (.unlock [2] .both) .clear ∧ (s 7).custody.state = .concealed ∧
      (s 1).AtRefund .unlock 9 1 (.unlock [2] .both) .clear :=
  ⟨⟨⟨rfl, rfl, rfl⟩, rfl, rfl, rfl⟩, rfl, ⟨⟨rfl, rfl, rfl⟩, rfl, rfl, rfl⟩⟩

/-- LOCK's payloads at the bounds of their bytes, and past them; a range's lane in each state is in
`witness_UnlockGrants`. -/
theorem witness_LockRemovesRights :
    let pl : List Byte := [3, 3, 1, 15, 1]
    let all : List Byte := 1 :: 16 :: List.replicate 16 0
    base.Ready .drive ∧ 2 ≤ pl.length ∧ pl.length = 2 + byteAt pl 1 ∧ byteAt pl 0 = 3 ∧
      ((pl.drop 2).map fun b => b.toNat).eraseDups = [1, 15] ∧ all.length = 2 + byteAt all 1 ∧
      byteAt all 1 = 16 ∧ byteAt [4, 1, 1] 0 = 4 ∧ byteAt [1, 0] 1 = 0 ∧ (16 : Byte).toNat = 16 ∧
      (base.range 1).lane = some 2 ∧ base.laneAt 2 = some (loadedLane 1) :=
  ⟨⟨⟨rfl, rfl, rfl⟩, rfl⟩, by decide, rfl, rfl, by decide +kernel, by decide +kernel, rfl, rfl, rfl, rfl, rfl,
    rfl⟩

/-- A lane slot due, for each plan. -/
theorem witness_SlotStartSendsThePlan : base.powered = true ∧ base.lane.link = .up ∧
    base.lane.position = .lane 0 ∧ base.laneAt 0 = some (loadedLane 0) ∧ base.lane.sent = none :=
  ⟨rfl, rfl, rfl, rfl, rfl⟩

/-- An UNLOCK in flight is no hold. -/
theorem flying_noHold (s : State) (a : AuthId) (q : CredReq) :
    (State.flying s .unlock (.refunding a q)).NoHold := by
  rintro f b ⟨⟩ h
  exact Work.noConfusion h

/-- A slot of lane 2 in progress, whatever that lane's record and the exchange, with an UNLOCK in flight. -/
theorem witness_slot (l : LaneRec) (x : Sent) :
    (State.flying { base with lane := ⟨base.lane.lanes.set 2 l, .up, 0, .lane 2, some x⟩ } .unlock
      (.refunding 1 (.unlock [1] .both))).InSlot 2 l x :=
  ⟨rfl, rfl, rfl, rfl, rfl, flying_noHold _ _ _⟩

/-- A lane at its third failed LOAD, for a hidden range that is unlocked. -/
theorem witness_LoadSlotEnds :
    let s := base.setRange 2
      ⟨some (extent 32768 32768 .hiddenWhileLocked .active), true, true, some 1, some 2⟩
    s.isConcealed 2 = false ∧ (s.range 2).read = true ∧ s.mode ≠ .blank ∧
      (s.range 2).stored.map (fun c => c.visibility) = some .hiddenWhileLocked ∧
      (base.range 1).stored.map (fun c => c.visibility) = some .shown := by decide +kernel

/-- A CLEAR of an unbound lane in OPEN, range 0 on another lane, and without one. -/
theorem witness_ClearSlotEnds :
    let s := State.inCustody
      { base with lane := ⟨base.lane.lanes.set 2 freeLane, .up, 0, .lane 2, some .clear⟩ } .opened
    s.InSlot 2 freeLane .clear ∧ s.custody.state = .opened ∧ (s.range 0).lane = some 0 ∧
      freeLane.range = none ∧ freeLane.state = .free ∧ ((s.setRange 0 .absent).range 0).lane = none :=
  ⟨⟨rfl, rfl, rfl, rfl, rfl, fun f _ h => absurd (show (none : Option InFlight) = some f from h) (by simp)⟩,
    rfl, rfl, rfl, rfl, rfl⟩

/-- Two MISMATCH votes among the last three, and one. -/
theorem witness_ProbeSlotEnds :
    ([Vote.mismatch, .ok] ++ [Vote.mismatch]).count Vote.mismatch = 2 ∧
      ([Vote.mismatch, .ok, .ok, .mismatch].drop 1).count Vote.mismatch < 2 ∧
      (loadedLane 1).expected = some 7 ∧ base.drive.notices.length ≤ 5 := by decide +kernel

/-- Counts at the bounds of adoption: 3, 4, 16, 17, and E itself, on the UP and the DOWN link. -/
theorem witness_TurnSlotEnds :
    let up := { base with lane := { base.lane with position := .turn } }
    let down := { base with lane := { base.lane with link := .down } }
    let opened := { State.reset with ranges := Vector.replicate 16 .absent, lane := .initial }
    up.powered = true ∧ (State.flying up .unlock (.refunding 1 (.unlock [1] .both))).NoHold ∧
      up.lane.link = .up ∧ up.lane.position = .turn ∧
      up.custody.state ≠ .opened ∧ up.lane.lanes.length = 6 ∧ (base.range 3).lane = some 5 ∧
      down.lane.link = .down ∧ opened.lane.link = .down ∧ opened.custody.state = .opened ∧
      (opened.range 0).lane = none ∧ opened.laneAt 0 = some .initial ∧ LaneRec.initial.state = .free :=
  ⟨rfl, flying_noHold _ _ _, rfl, rfl, by decide, rfl, rfl, rfl, rfl, rfl, rfl, rfl, rfl⟩

/-- The turn slot in OPEN: a count of 4 that keeps range 0's lane 0, and one that discards its lane 5, with
lane 1 the lowest FREE one; and the link DOWN as reset leaves it, or with range 0's lane 3 CLEARING of 6. -/
theorem witness_TurnSlotEndsInOpen :
    let up := State.inCustody { base with lane := { base.lane with position := .turn } } .opened
    let moved := up.setRange 0 { up.range 0 with lane := some 5 }
    let down := State.reset
    let locked := down.setLanes ((List.replicate 6 LaneRec.initial).set 3
      { LaneRec.initial with state := .clearing, range := some 0 })
    let late := locked.setRange 0 { locked.range 0 with lane := some 3 }
    up.NoHold ∧ up.lane.position = .turn ∧ (up.range 0).lane = some 0 ∧ (moved.range 0).lane = some 5 ∧
      moved.laneAt 1 = some freeLane ∧ (∀ k < 1, (moved.laneAt k).map LaneRec.state ≠ some .free) ∧
      (up.range 0).lane.isSome = true ∧ moved.custody.state = .opened ∧
      shownIfGlobal 0 (moved.range 0).stored ∧ down.lane.link = .down ∧ (down.range 0).lane = some 0 ∧
      (down.laneAt 0).map LaneRec.state = some .loading ∧ (late.laneAt 3).map LaneRec.state = some .clearing ∧
      (late.range 0).lane = some 3 ∧ late.lane.lanes.length = 6 ∧ (late.laneAt 0).map LaneRec.state = some .free ∧
      shownIfGlobal 0 (late.range 0).stored :=
  ⟨fun f _ h => absurd (show (none : Option InFlight) = some f from h) (by simp), rfl, rfl, rfl, rfl,
    by decide +kernel, rfl, rfl, by rintro _ x ⟨⟩; rfl, rfl, rfl, by decide +kernel, by decide +kernel, rfl, rfl,
    by decide +kernel, by rintro _ x ⟨⟩; rfl⟩

theorem witness_SilentSlotEnds :
    let mute := base.lane.lanes.map fun l => { l with last := some .silent }
    let s (k : Nat) := { base with lane := ⟨mute, .up, k, .turn, none⟩ }
    (s 2).powered = true ∧ (s 2).lane.link = .up ∧
      (State.flying (s 2) .unlock (.refunding 1 (.unlock [1] .both))).NoHold ∧
      (s 2).lane.position = .turn ∧ ((s 2).lane.lanes.all fun l => l.last = some .silent) = true ∧
      2 ≤ (s 2).lane.silence ∧ (s 1).lane.silence < 2 ∧ (s 2).custody.state ≠ .opened ∧
      (base.lane.lanes.all fun l => l.last = some .silent) = false ∧
      (State.reset.range 0).lane.isSome = true ∧ State.reset.custody.state = .opened :=
  ⟨rfl, rfl, flying_noHold _ _ _, rfl, by decide +kernel, by decide, by decide, by decide, by decide +kernel,
    rfl, rfl⟩

theorem witness_HoldAndRelease :
    let s := State.flying { base with lane :=
      { base.lane with position := .lane 0, sent := some .clear } } .laneHold (.holding false)
    s.Hears .drive ∧ s.lane.link = .up ∧ s.lane.position = .lane 0 ∧ s.laneAt 0 = some (loadedLane 0) ∧
      s.lane.sent = some .clear ∧ s.drive.inFlight = some ⟨.laneHold, 9, .holding false⟩ ∧
      { base with lane := { base.lane with link := .held } }.Ready .drive :=
  ⟨⟨rfl, rfl, rfl⟩, rfl, rfl, rfl, rfl, rfl, ⟨⟨rfl, rfl, rfl⟩, rfl⟩⟩

/-- A hold in flight, withdrawn or not, at the end of a turn slot; and at the third silent frame, whose end
takes the link DOWN. -/
theorem witness_HoldWithdrawn :
    let turn (k : Nat) (b : Bool) := State.flying { base with lane :=
      ⟨base.lane.lanes.map fun l => { l with last := some .silent }, .up, k, .turn, none⟩ } .laneHold (.holding b)
    let free (s : State) : State := { s with drive := { s.drive with inFlight := none } }
    (turn 0 true).Hears .drive ∧ (turn 0 true).drive.inFlight = some ⟨.laneHold, 9, .holding true⟩ ∧
      exec (.turnSlotEnd 6) (free (turn 0 true)) = .next (after (.turnSlotEnd 6) (free (turn 0 true))) ∧
      (after (.turnSlotEnd 6) (free (turn 0 true))).lane.position ≠ (turn 0 true).lane.position ∧
      (after (.turnSlotEnd 6) (free (turn 0 false))).lane.link = .up ∧
      (after .slotAnswerWindowExpiry (free (turn 2 false))).lane.link = .down :=
  ⟨⟨rfl, rfl, rfl⟩, rfl, rfl, by decide +kernel, by decide +kernel, by decide +kernel⟩

/-- Policies looser and tighter than the stored one, frozen and not. -/
theorem witness_PolicyRequests :
    let v (n : Nat) : PolicyValues :=
      ⟨.scrub, .conceal, .conceal, .conceal, .conceal, n, 24, 168, 30, 3, .keep, 0⟩
    base.policy.tightens (v 48) = true ∧ base.policy.tightens (v 47) = true ∧
      base.policy.tightens (v 49) = false ∧ base.policy.tightens (v 0) = false ∧
      base.policy.frozen = false ∧ { base.policy with frozen := true }.frozen = true := by decide +kernel

/-- A policy without consequence, and one that each cause follows. -/
theorem witness_PolicyTakesEffect :
    let s := { base with
      custody := { base.custody with checkin := 1440, foreignCount := 1 }
      tries := { TriesRec.clear with device := 4 } }
    (s.custody.foreignCount < 3 ∧ s.tries.device < 30 ∧ s.custody.checkin < 100 * 60) ∧
      (1 ≤ s.custody.foreignCount ∧ 4 ≤ s.tries.device ∧ 24 * 60 ≤ s.custody.checkin ∧
        (48 - min 24 48) * 60 ≤ s.custody.checkin) ∧ s.pairing.isSome = true := by decide +kernel

/-- A policy that leaves FOREIGN_START at CONCEAL and TRY_EXHAUSTION at SCRUB, under a hold. -/
def twoCauses : State × PolicyRec :=
  let p := { base.policy with tryExhaustion := .scrub, foreignStart := .conceal, foreignLimit := 1, deviceTryLimit := 4 }
  let s := { base with
    custody := { base.custody with foreignCount := 1 }
    tries := { TriesRec.clear with device := 4 }
    lane := { base.lane with link := .held } }
  (State.commitOf s .setPolicy ⟨.single .policy, [.policy p], [.policyStored, .answer .drive .ok]⟩, p)

theorem witness_PolicyTakesTwoCauses :
    let s := twoCauses.1
    let p := twoCauses.2
    s.AtCommit .drive .setPolicy 9 ⟨.single .policy, [.policy p], [.policyStored, .answer .drive .ok]⟩ ∧
      s.custody.state = .guarded ∧ p.foreignLimit ≤ s.custody.foreignCount ∧ p.deviceTryLimit ≤ s.tries.device ∧
      s.custody.checkin < p.checkinPeriod * 60 ∧ p.foreignStart = .conceal ∧ p.tryExhaustion ≠ .conceal ∧
      s.drive.notices = [] ∧ s.platform.notices = [] :=
  ⟨⟨⟨rfl, rfl, rfl⟩, rfl, rfl, rfl⟩, rfl, by decide, by decide, by decide, rfl, by decide, rfl, rfl⟩

/-- R129, R180: the second response's CUSTODY_CHANGED stands behind PRESENTATION_CHANGED, with the new epoch. -/
theorem test_two_responses :
    ((after .commitComplete twoCauses.1).drive.notices.map fun n => (n.kind, n.epoch, n.custody)) =
        [(.custodyChanged, 0, .scrubbing), (.laneLinkUp, 0, .scrubbing), (.presentationChanged, 1, .scrubbing),
          (.custodyChanged, 1, .scrubbing)] ∧
      ((after .commitComplete twoCauses.1).platform.notices.map fun n => (n.kind, n.epoch)) =
        [(.custodyChanged, 0), (.custodyChanged, 1)] := by decide +kernel

theorem witness_PairTiesTheDrive :
    base.Ready .platform ∧ State.reset.Ready .platform ∧ State.reset.custody.state = .opened ∧
      base.custody.state = .guarded ∧ base.policy.frozen = false ∧ base.supplyWarning = false ∧
      base.queue = [] ∧ base.held = [] ∧
      { base with policy := { base.policy with frozen := true } }.policy.frozen = true :=
  ⟨⟨⟨rfl, rfl, rfl⟩, rfl⟩, ⟨⟨rfl, rfl, rfl⟩, rfl⟩, rfl, rfl, rfl, rfl, rfl, rfl, rfl⟩

/-- A challenge, and the payload that answers it: the digest's own bytes. -/
theorem witness_CheckInAnswersTheChallenge :
    let proof := answerFor 5 1
    let s := { base with challenge := some 1 }
    s.Ready .platform ∧ (leBytes 32 proof.toNat).length = 32 ∧ s.pairing = some 5 ∧
      s.challenge = some 1 ∧ s.custody.state = .guarded ∧
      answerFor 5 1 = Config.digest (leBytes 32 (5 : Secret).toNat ++ leBytes 16 (1 : Nonce).toNat) ∧
      { s with custody := { s.custody with verdict := .pending } }.custody.verdict = .pending :=
  ⟨⟨⟨rfl, rfl, rfl⟩, rfl⟩, rfl, rfl, rfl, rfl, rfl, rfl⟩

/-- The number that 32 bytes carry is the number they were written from. -/
theorem leNat_leBytes (n x : Nat) : leNat (leBytes n x) = x % 256 ^ n := by
  induction n generalizing x with
  | zero => simp [leBytes, leNat, Nat.mod_one]
  | succ n ih =>
    rw [leBytes, leNat, ih, Nat.pow_succ, Nat.mul_comm (256 ^ n) 256, Nat.mod_mul]
    simp

/-- So the payload of the witness carries the proof itself. -/
theorem witness_proof_is_carried (k : Secret) : BitVec.ofNat 256 (leNat (leBytes 32 k.toNat)) = k := by
  rw [leNat_leBytes, Nat.mod_eq_of_lt (by have := k.isLt; norm_num; omega)]
  simp

theorem witness_WipeOrders :
    let s := { base with challenge := some 1, policy := { base.policy with wipeDigest := some 6 } }
    let pl (b : Byte) (k : Secret) : List Byte := b :: leBytes 32 k.toNat
    s.Ready .platform ∧ (pl 1 0).length = 33 ∧ Level.ofCode (byteAt (pl 1 0) 0) = some .conceal ∧
      Level.ofCode (byteAt (pl 9 0) 0) = none ∧ s.policy.wipeDigest = some 6 ∧ s.challenge = some 1 ∧
      s.supplyWarning = false ∧ s.custody.state.strength < Level.conceal.target.strength ∧
      ¬((State.inCustody s .spent).custody.state.strength < Level.scrub.target.strength) ∧
      (pl 1 (answerFor 6 1)).drop 1 = leBytes 32 (answerFor 6 1).toNat ∧
      (State.refundOf (State.inCustody s .concealed) .wipe 7 (.wipe .scrub true)).AtRefund .wipe 9 7
        (.wipe .scrub true) .clear ∧ s.geometry.isSome = true :=
  ⟨⟨⟨rfl, rfl, rfl⟩, rfl⟩, rfl, by decide +kernel, by decide +kernel, rfl, rfl, rfl, by decide +kernel,
    by decide +kernel, rfl, ⟨⟨rfl, rfl, rfl⟩, rfl, rfl, rfl⟩, rfl⟩

/-- Every step of the order of strength has a level below and one above it. -/
theorem witness_ResponsesMoveCustody :
    base.custody.state ≠ .opened ∧ base.custody.state.strength < Level.conceal.target.strength ∧
      Custody.concealed.strength < Level.erase.target.strength ∧
      Custody.erased.strength < Level.scrub.target.strength ∧
      Level.conceal.target.strength ≤ Custody.concealed.strength ∧ base.queue = [] ∧ base.held = [] ∧
      base.drive.notices = [] ∧ base.platform.notices = [] ∧
      (State.flying base .laneHold (.holding false)).drive.inFlight = some ⟨.laneHold, 9, .holding false⟩ := by
  decide +kernel

theorem witness_KeyEraseDestroysTheKeys :
    let acts : List Act := [.custodyJobStored, .answer .drive .custody]
    let e := eraseGroupEntry 8 .delivered ⟨none, []⟩ (.keysErased :: acts)
    let s := State.commitOf base .wipe e
    s.powered = true ∧ s.held = [] ∧ s.queue = [e] ∧ base.geometry = some ⟨2097152, 65536⟩ ∧
      (∀ x ∈ acts, x = .custodyJobStored ∨ ∃ p, x = .answer p .custody) ∧
      (s.port .drive).inFlight = some ⟨.wipe, 9, .committing⟩ ∧ (s.port .drive).replySlot = none ∧
      .answer .platform .custody ∉ acts := by
  refine ⟨rfl, rfl, rfl, rfl, ?_, rfl, rfl, by decide⟩
  intro x hx
  simp at hx
  rcases hx with rfl | rfl
  · exact .inl rfl
  · exact .inr ⟨_, rfl⟩

/-- A REVERT at its last commit, every range without a lane, and lane 1 the lowest FREE one. -/
theorem witness_RevertReturnsToOpen :
    let e : Entry :=
      ⟨.single .custody, [.custody ⟨.opened, 0, 0, true, 0, true, .erase⟩], [.reverted .custody]⟩
    let s := { State.commitOf (State.inCustody base .spent) .revert e with
      ranges := mapVec (fun x : RangeEntry => { x with read := false, write := false, holder := none, lane := none })
        base.ranges }
    s.AtCommit .drive .revert 9 e ∧ s.custody.state = .spent ∧ (∀ r, (s.range r).lane = none) ∧
      s.laneAt 1 = some freeLane ∧ (∀ m < 1, ∀ l, s.laneAt m = some l → l.state ≠ .free) ∧
      (State.inCustody base .erased).Ready .drive := by
  refine ⟨⟨⟨rfl, rfl, rfl⟩, rfl, rfl, rfl⟩, rfl, by decide +kernel, rfl, ?_, ⟨⟨rfl, rfl, rfl⟩, rfl⟩⟩
  intro m hm l hl
  obtain rfl : m = 0 := by omega
  obtain rfl : loadedLane 0 = l := Option.some.inj hl
  decide

/-- A REVERT whose default policy is stored with the device failure count above its limit, at it and below it. -/
theorem witness_RevertMeetsTheLimit :
    let p : Entry := ⟨.single .policy, [.policy .default], [.reverted .policy]⟩
    let s (n : Nat) := State.commitOf
      { State.inCustody base .erased with tries := { base.tries with device := n } } .revert p
    (∀ n, (s n).AtCommit .drive .revert 9 p) ∧ (s 40).custody.state = .erased ∧
      (s 40).supplyWarning = false ∧ ((s 40).store.commit p.writes).policy.deviceTryLimit = 30 ∧
      (s 40).tries.device = 40 ∧ (s 30).tries.device = 30 ∧ (s 29).tries.device = 29 :=
  ⟨fun _ => ⟨⟨rfl, rfl, rfl⟩, rfl, rfl, rfl⟩, rfl, rfl, rfl, rfl, rfl, rfl⟩

/-- REVERT's Policy commit lowers a device failure count of 40 to the default limit, with a Tries write before the
Pairing record's (R72, R109, R128). -/
theorem test_revert_meets_the_limit :
    let p : Entry := ⟨.single .policy, [.policy .default], [.reverted .policy]⟩
    let s := State.commitOf
      { State.inCustody base .erased with tries := { base.tries with device := 40 } } .revert p
    (after .commitComplete s).tries.device = 30 ∧
      (after .commitComplete s).queue.map (·.key) = [.single .tries, .single .pairing] := by decide +kernel

/-- A REVERT between its first and its last commit, and one that stops. -/
theorem witness_RevertSteps :
    let s (c : Custody) (x : Entry) := State.commitOf (State.inCustody base c) .revert x
    let n : Entry := ⟨.single .pairing, [.pairing none], [.reverted .pairing]⟩
    let m : Entry := ⟨.single (.range 3), [.range 3 none], [.reverted (.absent 3)]⟩
    (s .spent n).AtCommit .drive .revert 9 n ∧ (s .spent n).supplyWarning = false ∧
      ((s .spent n).range 1).stored.isSome = true ∧ (s .scrubbing m).custody.state = .scrubbing ∧
      (s .scrubbing m).AtCommit .drive .revert 9 m ∧
      ((s .scrubbing m).store.commit m.writes).ranges[3] = none ∧ ((s .scrubbing m).range 3).stored.isSome = true :=
  ⟨⟨⟨rfl, rfl, rfl⟩, rfl, rfl, rfl⟩, rfl, rfl, rfl, ⟨⟨rfl, rfl, rfl⟩, rfl, rfl, rfl⟩, rfl, rfl⟩

/-- Orders outstanding: none, one not done, a full window, and one whose completion removes two and leaves the
third, short of the 64th chunk and past it. -/
theorem witness_OrdersAreIssuedAndDone :
    let j (os : List Order) (issue : Nat) : Job := ⟨⟨.custody, none, 0, 9000, 0, false⟩, issue, os, 0⟩
    let o (i : Nat) : Order := ⟨i, 2048 * (i - 1), 2048, false⟩
    let two := [{ o 1 with done := true }, { o 2 with done := true }]
    let marked (os : List Order) := os.map fun x => if x.id = leNat [1, 0] then { x with done := true } else x
    let s (k : Job) := { base with scrub := ⟨some k, [], 5⟩ }
    (s (j [] 0)).Ready .drive ∧ (s (j [o 1, o 2] 4096)).scrub.job = some (j [o 1, o 2] 4096) ∧
      (j [o 1, o 2] 4096).orders.length < 4 ∧ (j [o 1, o 2] 4096).issue < 9000 ∧
      4 ≤ (j [o 1, o 2, o 3, o 4] 8192).orders.length ∧ (o 2).id = leNat [2, 0] ∧ (o 2).done = false ∧
      (j [o 1, o 2] 4096).orders.head? ≠ some (o 2) ∧ (o 1).start + (o 1).length ≠ 9000 ∧
      marked [o 1, { o 2 with done := true }, o 3] = two ++ [o 3] ∧ (two.all fun x => x.done) = true ∧
      two.getLast? = some { o 2 with done := true } ∧ (o 2).start + (o 2).length = 4096 ∧
      two = [] ++ { o 1 with done := true } :: [{ o 2 with done := true }] ∧ 63 + ([] : List Order).length = 63 :=
  ⟨⟨⟨rfl, rfl, rfl⟩, rfl⟩, by decide +kernel⟩

/-- An ACTIVE and a VOID range in GUARDED, and a RETIRE group that completes in ERASED. -/
theorem witness_RetireDestroysARangeKey :
    let erased := State.inCustody base .erased
    (base.range 1).stored.map (fun c => c.state) = some .active ∧ base.supplyWarning = false ∧
      (base.range 7).stored.map (fun c => c.state) = some .void ∧ base.custody.state.strength < 2 ∧
      base.scrub.job = none ∧ base.scrub.waiting = [] ∧ (erased.range 7).stored.isSome = true ∧
      2 ≤ erased.custody.state.strength ∧ erased.scrub.job = none := by decide +kernel

theorem witness_PauseAndResume :
    let j : Job := .ofJournal ⟨.retire, some 7, 1520000, 1520064, 1520000, false⟩
    let s := { base with scrub := ⟨some j, [], 1⟩ }
    s.Ready .drive ∧ s.scrub.job = some j ∧ j.journal.kind = .retire ∧ j.journal.range = some 7 ∧
      j.journal.paused ≠ true ∧ j.journal.paused = false ∧ s.queue = [] ∧ s.held = [] ∧
      s.supplyWarning = false := ⟨⟨⟨rfl, rfl, rfl⟩, rfl⟩, rfl, rfl, rfl, by decide, rfl, rfl, rfl, rfl⟩

/-- The last order of a RETIRE job, with a range waiting; and of a CUSTODY job; and the oldest of two, the later
of which is done. -/
theorem witness_LastOrderCompletesTheJob :
    let o : Order := ⟨3, 1520000, 64, false⟩
    let j (k : JobKind) : Job := ⟨⟨k, some 7, 1520000, 1520064, 1520000, false⟩, 1520064, [o], 0⟩
    let s (k : JobKind) := { base with scrub := ⟨some (j k), [6], 4⟩ }
    (s .retire).Ready .drive ∧ (s .custody).Ready .drive ∧ (s .retire).scrub.job = some (j .retire) ∧
      ((j .retire).orders.find? fun x => decide (x.id = leNat [3, 0])) = some o ∧ o.done = false ∧
      (j .retire).orders.getLast? = some o ∧
      (([o, { o with id := 4, done := true }].all fun x => decide (x.id = leNat [3, 0]) || x.done) = true) ∧
      o.start + o.length = (j .retire).journal.stop ∧ (s .retire).queue = [] ∧
      (s .retire).scrub.waiting = 6 :: [] ∧ (base.range 6).stored.isSome = true ∧
      (base.range 7).stored.isSome = true :=
  ⟨⟨⟨rfl, rfl, rfl⟩, rfl⟩, ⟨⟨rfl, rfl, rfl⟩, rfl⟩, rfl, by decide +kernel, rfl, rfl, by decide +kernel,
    rfl, rfl, rfl, rfl, rfl⟩

/-- R143's sequence: its journal entry, the Custody entry, and range 1's with range 3 behind it. -/
theorem witness_SpentIsStored :
    let e (x : SpendStep) : Entry := ⟨.single .journal, [.journal ⟨none, []⟩ .plain], [.spending x]⟩
    let st := { base.store with
      ranges := (base.store.ranges.set 1 (base.range 1).stored).set 3 (base.range 3).stored }
    let s (x : SpendStep) := { State.inCustody base .spent with store := st, queue := [e x] }
    (s .journal).powered = true ∧ (s .journal).held = [] ∧ (s (.range 1)).queue = [e (.range 1)] ∧
      ((s (.range 1)).range 3).stored.isSome = true ∧
      ((s (.range 1)).store.commit (e (.range 1)).writes).ranges[3].isSome = true ∧
      ((s .custody).store.commit (e .custody).writes).ranges[2].isSome = false := by decide +kernel

/-- A Custody write that merges in place, one that moves to the tail, one held, and one into a held write. -/
theorem witness_EntersMergeAndHold :
    let p := policyEntry .default []
    let c := custodyEntry .delivered []
    let t := triesEntry .clear []
    let s (q h : List Entry) := { base with queue := q, held := h }
    let full := [p, p, p, p]
    (RecordWrite.custody .delivered).record = some .custody ∧
      (s [p, c, t] []).queue = p :: ([] ++ c :: [t]) ∧ (∃ x ∈ c.writes, x.record = some .custody) ∧
      (∀ e ∈ [t], ∀ x ∈ e.writes, x.record ≠ some .custody) ∧ t.holds (.single .tries) = true ∧
      t.holds (.single .policy) = false ∧ 4 ≤ nonFinal (s full []).queue ∧
      (∀ e ∈ (s full []).queue.tail, ∀ x ∈ e.writes, x.record ≠ some .custody) ∧
      (s full [c]).held = [] ++ c :: [] ∧ nonFinal (s [p] []).queue < 4 ∧
      ((s [p, c, t] []).enter [.single .tries] c).queue.map (fun e => e.key) =
        [.single .policy, .single .tries, .single .custody] ∧
      ((s full []).enter [] c).held = [c] := by decide +kernel

/-- An entry under way with nothing waiting on it, and a held write that finds room. -/
theorem witness_StoreChangesAtCompletions :
    let s := { base with queue := [policyEntry .default []], held := [triesEntry .clear []] }
    s.powered = true ∧ s.queue = policyEntry .default [] :: [] ∧ (policyEntry .default []).acts = [] ∧
      s.held = [triesEntry .clear []] ∧ nonFinal [] < 4 ∧ base.queue = [] ∧
      exec .laneSlotStart base = .next (after .laneSlotStart base) :=
  ⟨rfl, rfl, rfl, rfl, by decide +kernel, rfl, rfl⟩

/-- Nothing queued, a final checkpoint waiting, and one under way alone. -/
theorem witness_SupplyWarningPlacesTheFinalCheckpoint :
    let f : Entry :=
      ⟨.final, [.finalClocks base.custody.checkin base.custody.escalation true true], []⟩
    let s (q : List Entry) := { base with queue := q, supplyWarning := true }
    (s [policyEntry .default [], f]).powered = true ∧
      (∃ e ∈ (s [policyEntry .default [], f]).queue.tail, e.key = .final) ∧ base.scrub.job = none ∧
      base.queue = [] ∧ base.held = [] ∧ base.checkinCounting = true ∧
      State.reset.checkinCounting = false ∧ State.reset.escalationCounting = false ∧
      (s []).supplyWarning = true ∧ base.supplyWarning = false ∧
      (s [policyEntry .default [], f]).Ready .drive ∧
      exec (.scrubDone .drive 1 [1, 0]) (s [policyEntry .default [], f]) =
        .next (after (.scrubDone .drive 1 [1, 0]) (s [policyEntry .default [], f])) :=
  ⟨rfl, ⟨_, List.mem_singleton.mpr rfl, rfl⟩, rfl, rfl, rfl, rfl, rfl, rfl, rfl, rfl, ⟨⟨rfl, rfl, rfl⟩, rfl⟩, rfl⟩

/-- Stored states with each cause of a start-up trigger, and with none. -/
theorem witness_StartRebuildsTheDevice :
    let st := { Records.delivered with
      custody := { CustodyRec.delivered with state := .guarded, foreignCount := 3 }
      tries := { TriesRec.clear with device := 30 } }
    ({ base with store := st }.store.custody.state = .guarded ∧
      st.policy.deviceTryLimit ≤ st.tries.device ∧ st.policy.foreignLimit ≤ st.custody.foreignCount) ∧
      Records.delivered.custody.state = .opened ∧ base.powered = true := by decide +kernel

/-- Stored states that each correction of a start-up mends, and one that escalates. -/
theorem witness_StartCorrects :
    let job : JournalRec := ⟨some ⟨.custody, none, 0, 8, 0, false⟩, []⟩
    let st (c : Custody) (x : JournalRec) (r : RangeState) : Records := { Records.delivered with
      custody := { CustodyRec.delivered with state := c, escalation := 10080 }, journal := x
      ranges := Records.delivered.ranges.set 7 (some (extent 190000 8 .shown r))
      keys := Records.delivered.keys.set 7 ⟨1, some (3, 7)⟩ }
    let at_ (c : Custody) (x : JournalRec) (r : RangeState) : State :=
      after (.startInstant true) { base with store := st c x r }
    ((st .scrubbing ⟨none, []⟩ .void).ranges[0].map fun c => c.state) = some .active ∧
      2 ≤ Custody.scrubbing.strength ∧ (at_ .scrubbing ⟨none, []⟩ .void).custody.state = .spent ∧
      (at_ .spent ⟨none, []⟩ .void).keys[7] = ⟨1, none⟩ ∧ (at_ .guarded job .active).scrub.job = none ∧
      (168 ≠ 0 ∧ 168 * 60 ≤ (st .concealed job .active).custody.escalation) ∧
      (at_ .concealed job .active).custody.state = .erased := by decide +kernel

/-- Two states that differ in what they hold and agree in what a start reads. -/
theorem witness_StartForgetsWhatWasHeld :
    let s := { State.reset with epoch := 9, mode := .overlay, challenge := some 1 }
    s.store = State.reset.store ∧ s.startMarker = State.reset.startMarker ∧
      s.supplyWarning = State.reset.supplyWarning ∧ s.draws = State.reset.draws ∧
      s.pending = State.reset.pending ∧ s ≠ State.reset :=
  ⟨rfl, rfl, rfl, rfl, rfl, fun h => absurd (congrArg State.epoch h) (by decide)⟩

/-- RESTART taken in OPEN, its lane LOADING, and in GUARDED. -/
theorem witness_RestartWithdrawsTheRights :
    let r : Reply := ⟨0x99, 9, .restarted 0 .opened⟩
    let s := { State.reset with restartPending := some r }
    let t := { base with restartPending := some r }
    State.reset.Ready .drive ∧ s.powered = true ∧ s.restartPending = some r ∧
      s.custody.state = .opened ∧ (s.range 0).lane = some 0 ∧
      (∃ l, s.laneAt 0 = some l ∧ l.state = .loading) ∧ t.powered = true ∧
      t.custody.state ≠ .opened ∧ State.reset.restartPending = none :=
  ⟨⟨⟨rfl, rfl, rfl⟩, rfl⟩, rfl, rfl, rfl, rfl, ⟨_, rfl, rfl⟩, rfl, by decide, rfl⟩

/-- Clocks short of every point, at the warning point, at the expiry point and at the escalation limit. -/
theorem witness_TimersAdvanceAndExpire :
    let at_ (n : Nat) := { base with custody := { base.custody with checkin := n } }
    let hidden (n : Nat) := { State.inCustody base .concealed with
      custody := { base.custody with state := .concealed, escalation := n } }
    (base.powered = true ∧ base.queue = [] ∧ base.held = []) ∧
      (base.custody.window < 120 ∧ (at_ 0).checkinCounting = true ∧
        min ((at_ 0).custody.checkin + 1) (48 * 60) < (48 - min 24 48) * 60) ∧
      ((48 - min 24 48) * 60 ≤ min ((at_ 1439).custody.checkin + 1) (48 * 60) ∧
        48 * 60 ≤ min ((at_ 2879).custody.checkin + 1) (48 * 60)) ∧
      (hidden 10079).escalationCounting = true ∧
      min ((hidden 10079).custody.escalation + 1) ((hidden 0).policy.concealHold * 60) =
        (hidden 0).policy.concealHold * 60 ∧
      2 ≤ (hidden 10079).custody.target.target.strength ∧ State.reset.checkinCounting = false := by
  decide +kernel

/-- A foreign-start count's commit at the limit of 3, and below it. -/
theorem witness_ForeignStartIsTested :
    let s (n : Nat) := { base with
      custody := { base.custody with foreignCount := n }
      queue := [⟨.single .custody, [.custody .delivered], [.foreignTest]⟩] }
    (s 3).powered = true ∧ (s 3).held = [] ∧ (s 3).custody.state = .guarded ∧
      (s 3).policy.foreignLimit ≤ (s 3).custody.foreignCount ∧
      ¬((s 2).policy.foreignLimit ≤ (s 2).custody.foreignCount) ∧
      (after .commitComplete (s 3)).custody.state = .concealed ∧
      (after .commitComplete (s 2)).custody.state = .guarded ∧
      base.drive.notices = [] ∧ base.platform.notices = [] := by decide +kernel

/-- A state that the bounds admit besides reset: the base configuration. -/
theorem witness_bounds : base.queuesBounded ∧ base.tablesBounded ∧
    step base = .next base.tick := by
  refine ⟨⟨⟨by decide +kernel, by decide +kernel⟩, by unfold State.queueFits; decide +kernel⟩,
    ⟨⟨by decide +kernel, by decide +kernel, by decide +kernel⟩, ?_, ?_, ?_, ?_⟩, rfl⟩
  · unfold State.holdersFit; decide +kernel
  · intro j h; exact absurd (show (none : Option Job) = some j from h) (by simp)
  · refine ⟨?_, ?_, fun e he => absurd (show e ∈ ([] : List Entry) from he) (by simp), ?_⟩
    · rintro _ _ ⟨⟩; rfl
    · rintro _ _ ⟨⟩; rfl
    · intro f h; exact absurd (show (none : Option InFlight) = some f from h) (by simp)
  · refine ⟨fun r => ⟨fun c hc => ?_, fun c hc => ?_⟩,
      fun e he => absurd (show e ∈ ([] : List Entry) from he) (by simp), ?_⟩
    · exact base_ranges (fun _ c => c.access[0]) (by decide +kernel) r c hc
    · have h : ∀ r : RangeId, (base.store.ranges[r.val].map fun c => c.access[0]).getD true = true := by
        decide +kernel
      simpa [hc] using h r
    · intro f h; exact absurd (show (none : Option InFlight) = some f from h) (by simp)

/-- The base configuration with its geometry and ranges 1 and 3, which share no sector, stored as they are
live. -/
def placedBase : State :=
  let ranges : Vector (Option RangeRec) 16 :=
    ((base.store.ranges.set 1 (some (extent 0 32768 .shown .active))).set 3
      (some (extent 131072 32768 .shown .active)))
  { base with
    ranges := ((Vector.replicate 16 RangeEntry.absent).set 1 (base.range 1)).set 3 (base.range 3)
    store := { base.store with
      ranges := ranges, identity := ⟨base.geometry, base.store.identity.rootKey⟩ } }

/-- The range records of that state, live and stored. -/
theorem placedBase_places (r : RangeId) (c : RangeRec) (h : placedBase.places r c) :
    (r = 1 ∧ c = extent 0 32768 .shown .active) ∨ (r = 3 ∧ c = extent 131072 32768 .shown .active) := by
  have hall : ∀ r : RangeId, r ≠ 0 →
      (∀ o ∈ [(placedBase.range r).stored, placedBase.store.ranges[r.val]], o = none ∨
        (r = 1 ∧ o = some (extent 0 32768 .shown .active)) ∨
        (r = 3 ∧ o = some (extent 131072 32768 .shown .active))) := by decide +kernel
  obtain ⟨h0, h | h⟩ := h
  · simpa [h] using hall r h0 _ (List.mem_cons_self ..)
  · simpa [h] using hall r h0 placedBase.store.ranges[r.val] (by simp)

/-- Its ranges are placed, and a SET_RANGE at its refund finds them stored as they are live. -/
theorem witness_placed :
    placedBase.placed ∧ placedBase.storedAreLive ∧
      (State.refundOf placedBase .setRange 0 (.setRange 9 200000 8 .shown .keep)).AtRefund .setRange 9 0
        (.setRange 9 200000 8 .shown .keep) .clear := by
  refine ⟨⟨rfl, fun r c h => ?_, fun r q c d hne hr hq => ?_⟩, fun r h0 c hc => ?_,
    ⟨⟨rfl, rfl, rfl⟩, rfl, rfl, rfl⟩⟩
  · rcases placedBase_places r c h with ⟨rfl, rfl⟩ | ⟨rfl, rfl⟩ <;> constructor <;> decide +kernel
  · rcases placedBase_places r c hr with ⟨rfl, rfl⟩ | ⟨rfl, rfl⟩ <;>
      rcases placedBase_places q d hq with ⟨rfl, rfl⟩ | ⟨rfl, rfl⟩ <;>
        first | exact absurd rfl hne | (unfold RangeRec.apart; decide +kernel)
  · rcases placedBase_places r c ⟨h0, .inr hc⟩ with ⟨rfl, rfl⟩ | ⟨rfl, rfl⟩ <;> exact ⟨_, rfl, rfl, rfl⟩

/-- A new range's record, fit beside the others, settles; its entry is the one under way. -/
theorem witness_settled :
    let e : Entry := ⟨.single (.range 9), [.range 9 (some (extent 200000 8 .shown .active))], [.rangeDefined 9]⟩
    { placedBase with queue := [e] }.queue.head? = some e ∧ e.settled placedBase := by
  refine ⟨rfl, fun r c h h0 => ?_, fun i h => ?_⟩
  · simp at h
    obtain ⟨rfl, rfl⟩ := h
    refine ⟨by constructor <;> decide +kernel, fun q d hq hd => ?_, fun q d h => ?_⟩
    · rcases placedBase_places q d hd with ⟨rfl, rfl⟩ | ⟨rfl, rfl⟩ <;>
        (unfold RangeRec.apart; decide +kernel)
    · simp at h; exact .inl h.1
  · simp at h

end Sys2Proof.Tests
end

/-!
PROOFS. Translation (R33).  The presented address of a visible media address is the number of visible media
addresses below it, so that translation, which lands on a visible address with `p` visible addresses below
it, is the counting function's inverse; order, one-to-one and the bounds are facts about counting.
-/

namespace Sys2Proof.Machine

open Sys2Proof

/-! ## Sorting spans by their media start -/

theorem insertSpan_eq_orderedInsert (x : Nat × Nat) (l : List (Nat × Nat)) :
    insertSpan x l = l.orderedInsert (Prod.fst ⁻¹'o (· ≤ ·)) x := by
  induction l with
  | nil => rfl
  | cons y l ih => simp only [insertSpan, ih, List.orderedInsert_cons, Order.Preimage]

theorem sortSpans_eq_insertionSort (l : List (Nat × Nat)) :
    sortSpans l = l.insertionSort (Prod.fst ⁻¹'o (· ≤ ·)) := by
  induction l with
  | nil => rfl
  | cons x l ih =>
    rw [List.insertionSort_cons, ← ih, ← insertSpan_eq_orderedInsert]
    rfl

theorem sortSpans_perm (l : List (Nat × Nat)) : (sortSpans l).Perm l :=
  sortSpans_eq_insertionSort l ▸ List.perm_insertionSort _ l

theorem sortSpans_ascending (l : List (Nat × Nat)) : (sortSpans l).Pairwise fun x y => x.1 ≤ y.1 :=
  sortSpans_eq_insertionSort l ▸ List.pairwise_insertionSort (Prod.fst ⁻¹'o (· ≤ ·)) l

/-! ## Spans and the media addresses in none of them -/

/-- A media address lies in a span. -/
abbrev InSpan (x : Nat × Nat) (m : Nat) : Prop := x.1 ≤ m ∧ m < x.1 + x.2

/-- A media address lies in no span of a list. -/
abbrev Visible (l : List (Nat × Nat)) (m : Nat) : Prop := ∀ x ∈ l, ¬InSpan x m

/-- Two spans share no media address, and neither starts strictly inside the other. -/
abbrev SpansApart (x y : Nat × Nat) : Prop := x.1 + x.2 ≤ y.1 ∨ y.1 + y.2 ≤ x.1

/-- The sum of the lengths of the spans that start below a media address. -/
def lengthsBelow (l : List (Nat × Nat)) (m : Nat) : Nat :=
  ((l.filter fun x => decide (x.1 < m)).map fun x => x.2).sum

@[simp] theorem lengthsBelow_nil (m : Nat) : lengthsBelow [] m = 0 := rfl

@[simp] theorem lengthsBelow_cons (x : Nat × Nat) (l : List (Nat × Nat)) (m : Nat) :
    lengthsBelow (x :: l) m = (if x.1 < m then x.2 else 0) + lengthsBelow l m := by
  by_cases h : x.1 < m <;> simp [lengthsBelow, h]

theorem lengthsBelow_perm {l l' : List (Nat × Nat)} (h : l.Perm l') (m : Nat) :
    lengthsBelow l m = lengthsBelow l' m :=
  ((h.filter _).map _).sum_eq

theorem lengthsBelow_of_starts_above {l : List (Nat × Nat)} {m : Nat} (h : ∀ x ∈ l, m ≤ x.1) :
    lengthsBelow l m = 0 := by
  rw [lengthsBelow, List.filter_eq_nil_iff.2 fun x hx => by simpa using h x hx]
  rfl

/-- A span that ends at `m` and starts there too has no length to add. -/
theorem lengthsBelow_of_ends_below {l : List (Nat × Nat)} {m : Nat} (h : ∀ x ∈ l, x.1 + x.2 ≤ m) :
    lengthsBelow l m = (l.map fun x => x.2).sum := by
  induction l with
  | nil => rfl
  | cons x l ih =>
    obtain ⟨hx, hl⟩ := List.forall_mem_cons.1 h
    rw [lengthsBelow_cons, ih hl, List.map_cons, List.sum_cons]
    split <;> omega

theorem visible_of_ends_below {l : List (Nat × Nat)} {m : Nat} (h : ∀ x ∈ l, x.1 + x.2 ≤ m) : Visible l m :=
  fun x hx hm => absurd (h x hx) (by omega)

/-! ## Counting the visible addresses -/

/-- A further span, apart from the others, hides as many addresses below `m` as it has there. -/
theorem count_visible_cons_add {x : Nat × Nat} {l : List (Nat × Nat)} (h : ∀ y ∈ l, SpansApart x y) (m : Nat) :
    Nat.count (Visible (x :: l)) m + (min m (x.1 + x.2) - x.1) = Nat.count (Visible l) m := by
  induction m with
  | zero => simp
  | succ m ih =>
    rw [Nat.count_succ, Nat.count_succ]
    by_cases hx : InSpan x m
    · have hl : Visible l m := fun y hy hm => by have := h y hy; omega
      have hn : ¬Visible (x :: l) m := fun hv => hv x List.mem_cons_self hx
      rw [if_pos hl, if_neg hn]
      omega
    · have hiff : Visible (x :: l) m ↔ Visible l m := List.forall_mem_cons.trans (and_iff_right hx)
      simp only [hiff]
      omega

/-- Below a visible address, the addresses are the visible ones and those of the spans that start below. -/
theorem count_visible_add_lengthsBelow {l : List (Nat × Nat)} {m : Nat} (h : l.Pairwise SpansApart)
    (hm : Visible l m) : Nat.count (Visible l) m + lengthsBelow l m = m := by
  induction l with
  | nil => exact Nat.count_of_forall fun _ _ => List.forall_mem_nil _
  | cons x l ih =>
    obtain ⟨hx, hl⟩ := List.pairwise_cons.1 h
    obtain ⟨hxm, hlm⟩ := List.forall_mem_cons.1 hm
    have hcount := count_visible_cons_add hx m
    have hrest := ih hl hlm
    rw [lengthsBelow_cons]
    split <;> omega

/-! ## The walk over the spans -/

theorem le_translateOver (l : List (Nat × Nat)) (p : Nat) : p ≤ translateOver l p := by
  induction l generalizing p with
  | nil => exact le_rfl
  | cons x l ih =>
    rw [translateOver]
    split
    · exact (Nat.le_add_right _ _).trans (ih _)
    · exact le_rfl

/-- The walk passes the first `k` spans, each starting at most at the address reached, and stops. -/
theorem translateOver_walk (l : List (Nat × Nat)) (p : Nat) :
    ∃ k ≤ l.length, translateOver l p = p + ((l.take k).map fun x => x.2).sum ∧
      (∀ i < k, ∀ x, l[i]? = some x → x.1 ≤ p + ((l.take i).map fun x => x.2).sum) ∧
      ∀ x, l[k]? = some x → translateOver l p < x.1 := by
  induction l generalizing p with
  | nil => exact ⟨0, le_rfl, by simp [translateOver]⟩
  | cons y l ih =>
    rw [translateOver]
    split
    next hy =>
      obtain ⟨k, hk, hsum, hpassed, hstop⟩ := ih (p + y.2)
      refine ⟨k + 1, Nat.succ_le_succ hk, by simp [hsum, Nat.add_assoc], fun i hi x hx => ?_, hstop⟩
      cases i with
      | zero => cases hx; exact hy
      | succ i => simpa [Nat.add_assoc] using hpassed i (by omega) x hx
    next hy =>
      refine ⟨0, Nat.zero_le _, rfl, fun i hi => absurd hi (Nat.not_lt_zero i), fun x hx => ?_⟩
      cases hx
      exact Nat.lt_of_not_le hy

theorem translateOver_strictMono (l : List (Nat × Nat)) : StrictMono (translateOver l) := by
  intro p q hpq
  induction l generalizing p q with
  | nil => exact hpq
  | cons x l ih =>
    by_cases hp : x.1 ≤ p
    · rw [translateOver, translateOver, if_pos hp, if_pos (by omega)]
      exact ih (by omega)
    · rw [translateOver, if_neg hp]
      exact hpq.trans_le (le_translateOver _ q)

theorem visible_translateOver {l : List (Nat × Nat)} (h : l.Pairwise fun x y => x.1 ≤ y.1) (p : Nat) :
    Visible l (translateOver l p) := by
  induction l generalizing p with
  | nil => exact List.forall_mem_nil _
  | cons x l ih =>
    obtain ⟨hx, hl⟩ := List.pairwise_cons.1 h
    rw [translateOver]
    split
    · have hpast := le_translateOver l (p + x.2)
      exact List.forall_mem_cons.2 ⟨by omega, ih hl _⟩
    · exact List.forall_mem_cons.2 ⟨by omega, fun y hy => by have := hx y hy; omega⟩

/-- The walk over ascending spans adds the lengths of those that start below its result. -/
theorem translateOver_eq_add_lengthsBelow {l : List (Nat × Nat)} (h : l.Pairwise fun x y => x.1 ≤ y.1)
    (p : Nat) : translateOver l p = p + lengthsBelow l (translateOver l p) := by
  induction l generalizing p with
  | nil => rfl
  | cons x l ih =>
    obtain ⟨hx, hl⟩ := List.pairwise_cons.1 h
    rw [translateOver, lengthsBelow_cons]
    split
    · have hpast := le_translateOver l (p + x.2)
      have hrest := ih hl (p + x.2)
      split <;> omega
    · rw [lengthsBelow_of_starts_above fun y hy => by have := hx y hy; omega]
      split <;> omega

/-! ## Translation in a state -/

theorem mem_allRanges (r : RangeId) : r ∈ allRanges := by
  revert r
  decide

theorem State.mem_concealedExtents (s : State) (x : Nat × Nat) :
    x ∈ s.concealedExtents ↔ ∃ r c, s.isConcealed r = true ∧ (s.range r).stored = some c ∧
      x = (c.start * 8, c.length * 8) := by
  simp only [State.concealedExtents, State.concealedSet, List.mem_filterMap, List.mem_filter, mem_allRanges,
    true_and, Option.map_eq_some_iff, RangeRec.first, RangeRec.sectors, Config.granule]
  exact ⟨fun ⟨r, hr, c, hc, hx⟩ => ⟨r, c, hr, hc, hx.symm⟩, fun ⟨r, c, hr, hc, hx⟩ => ⟨r, hr, c, hc, hx.symm⟩⟩

/-- Translation lands in no concealed range. -/
theorem State.visible_translate (s : State) (p : Nat) : Visible s.concealedExtents (s.translate p) :=
  fun x hx => visible_translateOver (sortSpans_ascending _) p x ((sortSpans_perm _).mem_iff.2 hx)

/-- A presented address is the number of visible media addresses below its translation. -/
theorem State.count_visible_translate (s : State) (h : s.concealedExtents.Pairwise SpansApart) (p : Nat) :
    Nat.count (Visible s.concealedExtents) (s.translate p) = p := by
  have hcount := count_visible_add_lengthsBelow h (s.visible_translate p)
  have hwalk : s.translate p = p + lengthsBelow (sortSpans s.concealedExtents) (s.translate p) :=
    translateOver_eq_add_lengthsBelow (sortSpans_ascending _) p
  rw [lengthsBelow_perm (sortSpans_perm _)] at hwalk
  omega

/-- C is the number of visible media addresses of [0, U). -/
theorem State.count_visible_userSectors (s : State) (h : s.concealedExtents.Pairwise SpansApart)
    (hU : ∀ x ∈ s.concealedExtents, x.1 + x.2 ≤ s.userSectors) :
    Nat.count (Visible s.concealedExtents) s.userSectors = s.capacity := by
  have hcount := count_visible_add_lengthsBelow h (visible_of_ends_below hU)
  rw [lengthsBelow_of_ends_below hU] at hcount
  rw [State.capacity]
  omega

theorem State.translate_lt_userSectors (s : State) (h : s.concealedExtents.Pairwise SpansApart)
    (hU : ∀ x ∈ s.concealedExtents, x.1 + x.2 ≤ s.userSectors) {p : Nat} (hp : p < s.capacity) :
    s.translate p < s.userSectors := by
  by_contra hge
  have hle := Nat.count_monotone (Visible s.concealedExtents) (Nat.le_of_not_lt hge)
  rw [s.count_visible_userSectors h hU, s.count_visible_translate h] at hle
  omega

/-- The reverse relation of R33, for a visible media address of [0, U). -/
theorem State.translate_sub_lengthsBelow (s : State) (h : s.concealedExtents.Pairwise SpansApart)
    (hU : ∀ x ∈ s.concealedExtents, x.1 + x.2 ≤ s.userSectors) {m : Nat} (hmU : m < s.userSectors)
    (hm : Visible s.concealedExtents m) :
    m - lengthsBelow s.concealedExtents m < s.capacity ∧
      s.translate (m - lengthsBelow s.concealedExtents m) = m := by
  have hcount : m - lengthsBelow s.concealedExtents m = Nat.count (Visible s.concealedExtents) m := by
    have := count_visible_add_lengthsBelow h hm
    omega
  rw [hcount]
  constructor
  · rw [← s.count_visible_userSectors h hU]
    exact Nat.count_strict_mono hm hmU
  · exact Nat.count_injective (s.visible_translate _) hm (s.count_visible_translate h _)

/-- Settles O14: the walk clauses hold of every list of spans, and the one-to-one map is the inverse of the
count of visible media addresses. -/
theorem translationIsOneToOne : Obligations.TranslationIsOneToOne := by
  intro s
  exact ⟨s.mem_concealedExtents, sortSpans_perm _, sortSpans_ascending _, translateOver_walk _,
    fun _ _ hpq => translateOver_strictMono _ hpq, fun x hx p => s.visible_translate p x hx,
    fun hApart hU => ⟨fun _ hp => s.translate_lt_userSectors hApart hU hp,
      fun _ hmU hm => s.translate_sub_lengthsBelow hApart hU hmU hm⟩⟩

end Sys2Proof.Machine

/-!
PROOFS. STANDBY (R101).  Locking a list of ranges one after another is settled once, for every list: a range
on the list ends locked, a lane bound to one of them ends released, and nothing else changes.  Releasing a
lane twice is releasing it once, so neither the order nor a lane shared by two ranges matters.
-/

namespace Sys2Proof.Machine

open Sys2Proof

/-! ## Releasing a lane (R53) -/

@[simp] theorem LaneRec.release_release (l : LaneRec) : l.release.release = l.release := by
  cases h : l.state <;> simp [LaneRec.release, h]

theorem State.laneAt_updLane (s : State) (n m : Nat) (f : LaneRec → LaneRec) :
    (s.updLane n f).laneAt m = if n = m then (s.laneAt m).map f else s.laneAt m := by
  simp only [State.updLane, State.laneAt, State.setLanes_lane, List.getElem?_modify]
  split <;> simp

theorem State.laneAt_releaseOf (s : State) (r : RangeId) (n : Nat) :
    (s.releaseOf r).laneAt n =
      if (s.range r).lane = some n then (s.laneAt n).map LaneRec.release else s.laneAt n := by
  unfold State.releaseOf
  split
  · rename_i m hm
    simp [State.laneAt_updLane, hm]
  · rename_i hm
    simp [hm]

/-! ## Locking one range (R98, R103) -/

theorem State.lockRange_both (s : State) (r : RangeId) :
    s.lockRange .both r = (s.setRange r (s.range r).locked).releaseOf r := by
  simp [State.lockRange, RangeEntry.without_both]

theorem State.range_lockRange_both (s : State) (r q : RangeId) :
    (s.lockRange .both r).range q = if r = q then (s.range q).locked else s.range q := by
  obtain ⟨l, hl⟩ := State.releaseOf_frame (s.setRange r (s.range r).locked) r
  have hq : (s.lockRange .both r).range q = (s.setRange r (s.range r).locked).range q := by
    rw [s.lockRange_both, hl]; rfl
  rw [hq, State.range_setRange]
  split
  · rename_i h; rw [h]
  · rfl

theorem State.laneAt_lockRange_both (s : State) (r : RangeId) (n : Nat) :
    (s.lockRange .both r).laneAt n =
      if (s.range r).lane = some n then (s.laneAt n).map LaneRec.release else s.laneAt n := by
  have hn : (s.setRange r (s.range r).locked).laneAt n = s.laneAt n := rfl
  rw [s.lockRange_both, State.laneAt_releaseOf, State.range_setRange_self, hn, RangeEntry.locked_lane]

theorem State.lane_range_lockRange_both (s : State) (r q : RangeId) :
    ((s.lockRange .both r).range q).lane = (s.range q).lane := by
  rw [State.range_lockRange_both]
  split <;> rfl

/-! ## Locking a list of ranges -/

/-- Both rights of the listed ranges off, one range after another, as STANDBY does it (R101). -/
def State.lockEach (s : State) (list : List RangeId) : State :=
  list.foldl (fun x r => x.lockRange .both r) s

@[simp] theorem State.lockEach_nil (s : State) : s.lockEach [] = s := rfl

theorem State.lockEach_cons (s : State) (r : RangeId) (list : List RangeId) :
    s.lockEach (r :: list) = (s.lockRange .both r).lockEach list := rfl

theorem State.lockEach_frame (s : State) (list : List RangeId) :
    ∃ l v, s.lockEach list = { s with lane := { s.lane with lanes := l }, ranges := v } := by
  induction list generalizing s with
  | nil => exact ⟨_, _, rfl⟩
  | cons r list ih =>
    obtain ⟨l, v, h⟩ := ih (s.lockRange .both r)
    obtain ⟨l', h'⟩ := State.lockRange_frame s .both r
    exact ⟨l, v, by rw [State.lockEach_cons, h, h']⟩

theorem State.range_lockEach (s : State) (list : List RangeId) (q : RangeId) :
    (s.lockEach list).range q = if q ∈ list then (s.range q).locked else s.range q := by
  induction list generalizing s with
  | nil => simp
  | cons r list ih =>
    rw [State.lockEach_cons, ih, State.range_lockRange_both]
    by_cases hr : r = q
    · subst hr
      simp [RangeEntry.locked]
    · simp [hr, Ne.symm hr]

theorem State.laneAt_lockEach_of_unbound (s : State) {list : List RangeId} {n : Nat}
    (h : ∀ r ∈ list, (s.range r).lane ≠ some n) : (s.lockEach list).laneAt n = s.laneAt n := by
  induction list generalizing s with
  | nil => rfl
  | cons r list ih =>
    obtain ⟨hr, hlist⟩ := List.forall_mem_cons.1 h
    rw [State.lockEach_cons, ih, State.laneAt_lockRange_both, if_neg hr]
    simpa only [State.lane_range_lockRange_both] using hlist

theorem State.laneAt_lockEach_of_bound (s : State) {list : List RangeId} {n : Nat}
    (h : ∃ r ∈ list, (s.range r).lane = some n) :
    (s.lockEach list).laneAt n = (s.laneAt n).map LaneRec.release := by
  induction list generalizing s with
  | nil => simp at h
  | cons r list ih =>
    rw [State.lockEach_cons]
    by_cases hlater : ∃ q ∈ list, (s.range q).lane = some n
    · rw [ih _ (by simpa only [State.lane_range_lockRange_both] using hlater), State.laneAt_lockRange_both]
      split <;> simp [Function.comp_def]
    · have hr : (s.range r).lane = some n := by
        obtain ⟨q, hq, hn⟩ := h
        rcases List.mem_cons.1 hq with rfl | hq
        · exact hn
        · exact absurd ⟨q, hq, hn⟩ hlater
      rw [State.laneAt_lockEach_of_unbound, State.laneAt_lockRange_both, if_pos hr]
      simpa only [State.lane_range_lockRange_both, not_exists, not_and] using hlater

/-- Locking reads no port: the end of the request's transaction may come before it or after. -/
theorem State.lockEach_endTransaction (s : State) (p : Port) (list : List RangeId) :
    (s.endTransaction p).lockEach list = (s.lockEach list).endTransaction p := by
  have hone (x : State) (r : RangeId) :
      (x.endTransaction p).lockRange .both r = (x.lockRange .both r).endTransaction p := by
    have hr : (x.endTransaction p).range r = x.range r := by cases p <;> rfl
    simp only [State.lockRange_both, State.releaseOf, State.range_setRange_self, RangeEntry.locked_lane, hr]
    cases (x.range r).lane <;> cases p <;> rfl
  induction list generalizing s with
  | nil => rfl
  | cons r list ih => rw [State.lockEach_cons, hone, ih, ← State.lockEach_cons]

/-! ## An event that raises the epoch and replies on the Drive Port -/

/-- A notice goes to the notice queue and leaves the reply slot alone, whichever comes first. -/
theorem PortState.push_replySlot (q : PortState) (n : Notice) (r : Option Reply) :
    { q.push n with replySlot := r } = { q with replySlot := r }.push n := by
  unfold PortState.push
  split <;> rfl

/-- The conditional increment and then the reply: the epoch and the Drive Port alone (R22, R103, R174). -/
theorem State.raiseIf_replyTo (x : State) (c : Bool) (k : ReqKind) (tag : Byte) (b : ReplyBody) :
    (State.raiseIf c x).replyTo k .drive tag b =
      { x with
        epoch := if c then x.epoch + 1 else x.epoch
        drive :=
          let q := { x.drive with replySlot := some ⟨replyKind k, tag, b⟩ }
          if c then q.push (changed (x.epoch + 1) x.custody.state) else q } := by
  cases c
  · rfl
  · have h := x.drive.push_replySlot (changed (x.epoch + 1) x.custody.state) (some ⟨replyKind k, tag, b⟩)
    simp only [if_true, ← h]
    rfl

/-- Where work queued no notice of its own, the conditional increment's is stamped as it stands (R180). -/
theorem State.sealEvent_raiseIf_replyTo {s x : State} (hd : x.drive.notices.length = s.drive.notices.length)
    (hp : x.platform.notices.length ≤ s.platform.notices.length) (c : Bool) (k : ReqKind) (tag : Byte)
    (b : ReplyBody) :
    State.sealEvent s ((State.raiseIf c x).replyTo k .drive tag b) =
      (State.raiseIf c x).replyTo k .drive tag b := by
  have hseal : State.sealEvent s (State.raiseIf c x) = State.raiseIf c x := by
    cases c
    · exact State.sealEvent_of_quiet hd.le hp
    · exact State.sealEvent_raiseEpoch hd hp
  calc State.sealEvent s ((State.raiseIf c x).replyTo k .drive tag b)
      = (State.sealEvent s (State.raiseIf c x)).replyTo k .drive tag b := rfl
    _ = (State.raiseIf c x).replyTo k .drive tag b := by rw [hseal]

/-! ## STANDBY (R101) -/

theorem frameRefusal_standby {s : State} (h : s.drive.inFlight = none) :
    frameRefusal s .standby .drive [] = none := by
  simp [frameRefusal, servedOn, admitsLength, h]

/-- The ranges that STANDBY locks, in ascending order. -/
def State.sleepers (s : State) : List RangeId := allRanges.filter s.sleeps

theorem State.mem_sleepers (s : State) (r : RangeId) : r ∈ s.sleepers ↔ s.sleeps r = true := by
  simp [State.sleepers, mem_allRanges]

/-- What STANDBY makes of the ranges and the lanes. -/
def State.asleep (s : State) : State := s.lockEach s.sleepers

theorem State.asleep_frame (s : State) :
    ∃ l v, s.asleep = { s with lane := { s.lane with lanes := l }, ranges := v } :=
  s.lockEach_frame s.sleepers

/-- The end of the request's transaction changes nothing that STANDBY reads. -/
@[simp] theorem State.sleepers_endTransaction (s : State) (p : Port) :
    (s.endTransaction p).sleepers = s.sleepers := by
  cases p <;> rfl

theorem State.asleep_endTransaction (s : State) (p : Port) :
    (s.endTransaction p).asleep = s.asleep.endTransaction p := by
  rw [State.asleep, State.sleepers_endTransaction, State.lockEach_endTransaction, ← State.asleep]

/-- The concealed set is another after STANDBY's locks: the epoch rises (R21). -/
def State.sleepMoves (s : State) : Bool := State.moved s s.asleep

/-- The epoch that STANDBY leaves (R21). -/
def State.standbyEpoch (s : State) : Epoch := if s.sleepMoves then s.epoch + 1 else s.epoch

/-- What STANDBY replies: the locked ranges, with a clear pending wherever a lane is bound (R101). -/
def State.standbyReply (s : State) : ReplyBody :=
  .standby s.standbyEpoch (s.sleepers.map fun r => (r, (s.range r).lane.isSome))

theorem State.clearPending_asleep (s : State) {r : RangeId} (h : r ∈ s.sleepers) :
    s.asleep.clearPending r = (s.range r).lane.isSome := by
  simp [State.clearPending, State.asleep, State.range_lockEach, h]

theorem standbyOwner_eq (s : State) (tag : Byte) :
    standbyOwner tag s =
      let s1 := State.raiseIfMoved s s.asleep
      s1.replyTo .standby .drive tag (.standby s1.epoch (s.sleepers.map fun r => (r, s1.clearPending r))) :=
  rfl

/-- STANDBY's work, at the end of its transaction, in terms of the state before it. -/
theorem standbyOwner_endTransaction (s : State) (tag : Byte) :
    standbyOwner tag (s.endTransaction .drive) =
      (State.raiseIf s.sleepMoves (s.asleep.endTransaction .drive)).replyTo .standby .drive tag
        s.standbyReply := by
  have hraise : State.raiseIfMoved (s.endTransaction .drive) (s.endTransaction .drive).asleep =
      State.raiseIf s.sleepMoves (s.asleep.endTransaction .drive) := by
    rw [State.asleep_endTransaction]; rfl
  have hepoch : (State.raiseIf s.sleepMoves (s.asleep.endTransaction .drive)).epoch = s.standbyEpoch := by
    obtain ⟨l, v, hasleep⟩ := s.asleep_frame
    rw [hasleep, State.standbyEpoch]
    cases s.sleepMoves <;> rfl
  have hentries : ∀ r ∈ s.sleepers,
      (r, (State.raiseIf s.sleepMoves (s.asleep.endTransaction .drive)).clearPending r) =
        (r, (s.range r).lane.isSome) := by
    intro r hr
    rw [← s.clearPending_asleep hr]
    cases s.sleepMoves <;> rfl
  simp only [standbyOwner_eq, hraise, hepoch, State.sleepers_endTransaction, List.map_congr_left hentries,
    State.standbyReply]

/-- STANDBY as one event on the Drive Port: the ranges locked, the epoch, the reply. -/
theorem exec_standby {s : State} (hs : s.Ready .drive) (tag : Byte) :
    exec (.standby .drive tag []) s =
      .next { s.asleep with
        epoch := s.standbyEpoch
        drive :=
          let q := s.drive.answered .standby tag s.standbyReply
          if s.sleepMoves then q.push (changed (s.epoch + 1) s.custody.state) else q } := by
  obtain ⟨hears, hflight⟩ := hs
  obtain ⟨l, v, hasleep⟩ := s.asleep_frame
  calc exec (.standby .drive tag []) s
      = .next (takeRequest .standby .drive tag [] (standbyOwner tag) s) := rfl
    _ = .next (State.sealEvent (s.endTransaction .drive)
          ((State.raiseIf s.sleepMoves (s.asleep.endTransaction .drive)).replyTo .standby .drive tag
            s.standbyReply)) := by
      rw [takeRequest_of_taken hears (frameRefusal_standby hflight), standbyOwner_endTransaction]
    _ = .next ((State.raiseIf s.sleepMoves (s.asleep.endTransaction .drive)).replyTo .standby .drive tag
          s.standbyReply) := by
      rw [State.sealEvent_raiseIf_replyTo] <;> rw [hasleep] <;> simp [State.endTransaction]
    _ = _ := by rw [State.raiseIf_replyTo, hasleep]; rfl

theorem State.range_asleep (s : State) (r : RangeId) :
    s.asleep.range r = if s.sleeps r then (s.range r).locked else s.range r := by
  simp only [State.asleep, State.range_lockEach, State.mem_sleepers]

theorem State.standbyEpoch_eq (s : State) :
    s.standbyEpoch = if s.asleep.concealedSet = s.concealedSet then s.epoch else s.epoch + 1 := by
  simp [State.standbyEpoch, State.sleepMoves, State.moved, ite_not]

/-- The epoch wraps at 65,535 and so stays only where no increment was due (R21). -/
theorem State.standbyEpoch_eq_epoch_iff (s : State) : s.standbyEpoch = s.epoch ↔ s.sleepMoves = false := by
  unfold State.standbyEpoch
  cases s.sleepMoves <;> simp

/-- The notice goes with the epoch: PRESENTATION_CHANGED exactly where the epoch is another (R22). -/
theorem State.push_if_sleepMoves (s : State) (q : PortState) :
    (if s.sleepMoves then q.push (changed (s.epoch + 1) s.custody.state) else q) =
      if s.standbyEpoch = s.epoch then q else q.push (changed s.standbyEpoch s.custody.state) := by
  simp only [s.standbyEpoch_eq_epoch_iff]
  cases h : s.sleepMoves <;> simp [State.standbyEpoch, h]

/-- Settles O31: the one event of `exec_standby`, read range by range and lane by lane. -/
theorem standbyLocksBySleepPolicy : Obligations.StandbyLocksBySleepPolicy := by
  intro s tag hs sleeps
  obtain ⟨l, v, hasleep⟩ := s.asleep_frame
  refine ⟨_, exec_standby hs tag, ?range, ?otherRange, ?lane, ?otherLane, ?epoch, ?frame⟩
  case range =>
    intro r hr
    exact (s.range_asleep r).trans (if_pos hr)
  case otherRange =>
    intro r hr
    exact (s.range_asleep r).trans (if_neg (Bool.eq_false_iff.1 hr))
  case lane =>
    rintro n ⟨r, hr, hn⟩
    exact s.laneAt_lockEach_of_bound ⟨r, (s.mem_sleepers r).2 hr, hn⟩
  case otherLane =>
    intro n h
    exact s.laneAt_lockEach_of_unbound fun r hr => h r ((s.mem_sleepers r).1 hr)
  case epoch => exact s.standbyEpoch_eq
  case frame =>
    simp only [s.push_if_sleepMoves]
    rw [hasleep]
    rfl

end Sys2Proof.Machine

/-!
PROOFS. CHALLENGE (R115).  The request is one event on the Platform Port, whatever the custody state.  RESTART
changes the port's notices and not its challenge; a start's load has no challenge, and no correction, trigger
or final checkpoint after it brings one in.
-/

namespace Sys2Proof.Machine

open Sys2Proof

/-! ## CHALLENGE as one event -/

theorem frameRefusal_challenge {s : State} (h : s.platform.inFlight = none) :
    frameRefusal s .challenge .platform [] = none := by
  simp [frameRefusal, servedOn, admitsLength, h]

/-- CHALLENGE draws the nonce, keeps it and replies with it; no custody state, record or queue is read or
changed (R115). -/
theorem exec_challenge {s : State} (hs : s.Ready .platform) (tag : Byte) :
    exec (.challenge .platform tag []) s =
      .next { s with
        draws := s.draws + 1
        challenge := some (Config.randomNonce s.draws)
        platform := s.platform.answered .challenge tag (.nonce (Config.randomNonce s.draws)) } := by
  obtain ⟨hears, hflight⟩ := hs
  calc exec (.challenge .platform tag []) s
      = .next (takeRequest .challenge .platform tag [] (challengeOwner tag) s) := rfl
    _ = .next (State.sealEvent (s.endTransaction .platform)
          (challengeOwner tag (s.endTransaction .platform))) := by
      rw [takeRequest_of_taken hears (frameRefusal_challenge hflight)]
    _ = .next (challengeOwner tag (s.endTransaction .platform)) := by
      rw [State.sealEvent_of_quiet] <;> exact Nat.le_refl _
    _ = _ := rfl

/-! ## RESTART keeps the outstanding challenge (R169) -/

theorem State.restarted_challenge (s : State) : s.restarted.challenge = s.challenge := by
  obtain ⟨r, l, h⟩ := s.restarted_frame
  rw [h]

theorem State.restartTakesEffect_challenge (s : State) :
    s.restartTakesEffect.challenge = s.challenge := by
  unfold State.restartTakesEffect
  split
  · exact s.restarted_challenge
  · rfl

/-! ## What a start does after the load leaves the challenge -/

theorem foldl_challenge {α : Type} {f : State → α → State}
    (h : ∀ x a, (f x a).challenge = x.challenge) (l : List α) (s : State) :
    (l.foldl f s).challenge = s.challenge := by
  induction l generalizing s with
  | nil => rfl
  | cons a l ih => rw [List.foldl_cons, ih, h]

@[simp] theorem State.enter_challenge (s : State) (earlier : List EntryKey) (w : Entry) :
    (s.enter earlier w).challenge = s.challenge := by
  obtain ⟨q, h, e⟩ := State.enter_frame earlier w s
  rw [e]

@[simp] theorem State.enterAll_challenge (s : State) (ws : List Entry) :
    (s.enterAll ws).challenge = s.challenge := by
  obtain ⟨q, h, e⟩ := State.enterAll_frame ws s
  rw [e]

@[simp] theorem State.placeFinal_challenge (s : State) : s.placeFinal.challenge = s.challenge := by
  obtain ⟨q, e⟩ := s.placeFinal_frame
  rw [e]

@[simp] theorem State.respond_challenge (s : State) (l : Level) (acts : List Act) :
    (s.respond l acts).challenge = s.challenge := by
  obtain ⟨_, _, _, _, _, _, _, _, _, _, _, e⟩ := s.respond_frame l acts
  rw [e]

@[simp] theorem State.take_challenge (s : State) (t : Trigger) : (s.take t).challenge = s.challenge :=
  s.respond_challenge _ _

@[simp] theorem State.warn_challenge (s : State) : s.warn.challenge = s.challenge := by
  simp [State.warn, State.storeCustody]

@[simp] theorem State.setRangeState_challenge (s : State) (r : RangeId) (st : RangeState) :
    (s.setRangeState r st).challenge = s.challenge := rfl

@[simp] theorem State.eraseSlot_challenge (s : State) (r : RangeId) :
    (s.eraseSlot r).challenge = s.challenge := rfl

@[simp] theorem State.markSpent_challenge (s : State) : s.markSpent.challenge = s.challenge :=
  foldl_challenge (fun x r => x.setRangeState_challenge r .blank) _ (s.setJob none)

@[simp] theorem State.correctKeys_challenge (s : State) : s.correctKeys.challenge = s.challenge :=
  foldl_challenge (fun x r => by rw [State.enter_challenge, State.eraseSlot_challenge]) _ s

@[simp] theorem State.correctGlobal_challenge (s : State) : s.correctGlobal.challenge = s.challenge := by
  unfold State.correctGlobal
  split
  · rw [State.enterAll_challenge, State.eraseSlot_challenge, State.setRangeState_challenge]
  · rfl

@[simp] theorem State.correctJournal_challenge (s : State) :
    s.correctJournal.challenge = s.challenge := by
  unfold State.correctJournal
  split
  · rw [State.spendAll, State.enterAll_challenge, State.markSpent_challenge]
  · exact foldl_challenge (fun x r => by rw [State.enter_challenge, State.setRangeState_challenge]) _ s
  · rfl
  · rw [State.enter_challenge]; rfl
  · rfl

@[simp] theorem State.choosePresentation_challenge (s : State) :
    s.choosePresentation.challenge = s.challenge := by
  unfold State.choosePresentation
  dsimp only
  split
  · obtain ⟨l, v, e⟩ := State.restoreGlobal_frame { s with mode := .ofCustody s.custody.state }
    rw [e]
  · rfl

@[simp] theorem State.startWarning_challenge (s : State) (counting : Bool) :
    (s.startWarning counting).challenge = s.challenge := by
  unfold State.startWarning
  split
  · exact s.warn_challenge
  · split
    · exact s.notifyBoth_challenge _
    · rfl

@[simp] theorem State.startTriggers_challenge (s : State) :
    s.startTriggers.challenge = s.challenge := by
  simp only [State.startTriggers, apply_ite State.challenge, State.take_challenge,
    State.respond_challenge, State.startWarning_challenge, ite_self]

/-- Either kind of start: none outstanding, as the load leaves it (R115, R162). -/
theorem State.start_challenge (s : State) (kept : Bool) : (s.start kept).challenge = none := by
  unfold State.start
  simp only [apply_ite State.challenge, State.placeFinal_challenge, ite_self,
    State.startTriggers_challenge, State.choosePresentation_challenge, State.correctJournal_challenge,
    State.correctGlobal_challenge, State.correctKeys_challenge]
  rfl

/-! ## R115 -/

/-- Settles O42: the request's one event, and what RESTART and a start leave of the challenge. -/
theorem challengeIssuesANonce : Obligations.ChallengeIssuesANonce := by
  intro s
  refine ⟨?request, ⟨_, rfl, ?restart⟩, ?start⟩
  case request => exact fun tag hs => exec_challenge hs tag
  case start => exact fun kept => ⟨_, rfl, s.start_challenge kept⟩
  case restart =>
    split
    · exact s.restartTakesEffect_challenge
    · rfl

end Sys2Proof.Machine

/-!
PROOFS. The ports' own events (R174, R182, R184).  A read transaction is said port state by port state: what
`readOut` makes of an empty slot, of a reply cut short and of a whole one.  STATUS and FETCH queue no notice,
so each is its owner's state as it stands.
-/

namespace Sys2Proof.Machine

open Sys2Proof

/-! ## Read transactions (R174, R185) -/

theorem exec_readTransaction {s : State} {p : Port} (hp : s.powered = true) (hr : s.restartOn p = none)
    (n : Nat) : exec (.readTransaction p n) s = .next (s.setPort p ((s.port p).readOut n)) := by
  calc exec (.readTransaction p n) s = execReadTransaction p n s := rfl
    _ = _ := by simp [execReadTransaction, State.settle_of_none hr, hp]

theorem PortState.readOut_of_empty {q : PortState} (h : q.replySlot = none) (n : Nat) :
    q.readOut n = { q with dataOut := [] } := by
  simp [PortState.readOut, readBytes, h]

/-- Cut short, the read leaves the reply in the slot. -/
theorem PortState.readOut_of_short {q : PortState} {r : Reply} {n : Nat} (h : q.replySlot = some r)
    (hn : n < r.bytes.length) : q.readOut n = { q with dataOut := r.bytes.take n } := by
  simp [PortState.readOut, readBytes, h, Nat.not_le.2 hn]

/-- A whole read with no deferred reply empties the slot, and what is in flight stays so. -/
theorem PortState.readOut_of_whole {q : PortState} {r : Reply} {n : Nat} (h : q.replySlot = some r)
    (hn : r.bytes.length ≤ n) (hd : q.deferred = none) :
    q.readOut n = { q with dataOut := r.bytes.take n, replySlot := none } := by
  simp [PortState.readOut, PortState.takeOut, readBytes, h, hn, hd]

/-- A whole read lets the deferred reply into the slot, its request in flight no more (R178). -/
theorem PortState.readOut_of_whole_deferred {q : PortState} {r d : Reply} {n : Nat}
    (h : q.replySlot = some r) (hn : r.bytes.length ≤ n) (hd : q.deferred = some d) :
    q.readOut n =
      { q with
        dataOut := r.bytes.take n
        replySlot := some d
        deferred := none
        inFlight := none } := by
  simp [PortState.readOut, PortState.takeOut, readBytes, h, hn, hd]

/-- Where the bytes sent are the first `n` of a reply, every byte of the read is the reply's, or the filler
past its end (R174, R185). -/
theorem PortState.outByte_of_take {q : PortState} {bytes : List Byte} {n i : Nat}
    (h : q.dataOut = bytes.take n) (hi : i < n) : q.outByte i = bytes.getD i fillerByte := by
  simp [PortState.outByte, h, List.getD_eq_getElem?_getD, List.getElem?_take_of_lt hi]

/-- Settles O7: `readOut` in each state of the slot, and the bytes that each leaves sent. -/
theorem readTransactionTakesTheReply : Obligations.ReadTransactionTakesTheReply := by
  intro s p n hp hr
  simp only [exec_readTransaction hp hr n]
  refine ⟨?empty, fun r hslot => ⟨?bytes, ?short, ?whole, ?deferred⟩⟩
  case empty =>
    intro hslot
    rw [PortState.readOut_of_empty hslot]
    exact ⟨rfl, fun _ => rfl⟩
  case bytes => exact fun i hi => PortState.outByte_of_take rfl hi
  case short =>
    intro hn
    rw [PortState.readOut_of_short hslot hn]
  case whole =>
    intro hn hdeferred
    rw [PortState.readOut_of_whole hslot hn hdeferred]
  case deferred =>
    intro d hn hdeferred
    rw [PortState.readOut_of_whole_deferred hslot hn hdeferred]

/-! ## Requests that queue no notice -/

/-- A port given no more notices than it had leaves no port with more. -/
theorem State.notices_setPort_le {s : State} {p : Port} {q : PortState}
    (h : q.notices.length ≤ (s.port p).notices.length) (p' : Port) :
    ((s.setPort p q).port p').notices.length ≤ (s.port p').notices.length := by
  by_cases hp : p = p'
  · subst hp
    simpa using h
  · rw [State.port_setPort_of_ne s hp]

@[simp] theorem State.notices_endTransaction (s : State) (p p' : Port) :
    ((s.endTransaction p).port p').notices = (s.port p').notices := by
  cases p <;> cases p' <;> rfl

/-- A taken frame whose owner leaves no port with more notices is the owner's work as it stands (R180). -/
theorem takeRequest_of_quiet {s t : State} {p : Port} (hs : s.Hears p) {k : ReqKind} {pl : List Byte}
    (h : frameRefusal s k p pl = none) (tag : Byte) {owner : State → State}
    (howner : owner (s.endTransaction p) = t)
    (hquiet : ∀ p', (t.port p').notices.length ≤ (s.port p').notices.length) :
    takeRequest k p tag pl owner s = t := by
  have hend (p' : Port) : (t.port p').notices.length ≤ ((s.endTransaction p).port p').notices.length := by
    simpa using hquiet p'
  rw [takeRequest_of_taken hs h, howner, State.sealEvent_of_quiet (hend .drive) (hend .platform)]

/-- The end of a request's transaction and the reply that answers it at once (R174). -/
theorem State.replyTo_endTransaction (s : State) (k : ReqKind) (p : Port) (tag : Byte) (b : ReplyBody) :
    (s.endTransaction p).replyTo k p tag b = s.setPort p ((s.port p).answered k tag b) := by
  cases p <;> rfl

/-! ## STATUS (R161, R184) -/

/-- STATUS is served on both ports and exempt from the in-flight rule (R177). -/
theorem frameRefusal_status (s : State) (p : Port) (flag : Byte) :
    frameRefusal s .status p [flag] = none := by
  simp [frameRefusal, servedOn, admitsLength, exemptFromBusy]

theorem flagOfCode_of_one_lt : ∀ {n : Nat}, 1 < n → flagOfCode n = none
  | _ + 2, _ => rfl

theorem State.report_endTransaction (s : State) (p : Port) : (s.endTransaction p).report = s.report := by
  simp [State.report]

theorem statusOwner_clear (p : Port) (tag : Byte) (s : State) :
    statusOwner p tag [0] s = s.replyTo .status p tag (.status s.report) := rfl

/-- The report is taken from the state before the acknowledge (R161). -/
theorem statusOwner_acknowledge (p : Port) (tag : Byte) (s : State) :
    statusOwner p tag [1] s =
      { s.replyTo .status p tag (.status s.report) with startCause := .none } := rfl

theorem statusOwner_badFlag (p : Port) (tag : Byte) {flag : Byte} (h : 1 < flag.toNat) (s : State) :
    statusOwner p tag [flag] s = s.replyTo .status p tag (.code .badValue) := by
  have hflag : flagOfCode (byteAt [flag] 0) = none := flagOfCode_of_one_lt h
  simp [statusOwner, hflag]

/-- STATUS whose owner replies alone. -/
theorem exec_status_of_reply {s : State} {p : Port} (hs : s.Hears p) (tag flag : Byte) {b : ReplyBody}
    (howner : statusOwner p tag [flag] (s.endTransaction p) =
      (s.endTransaction p).replyTo .status p tag b) :
    exec (.status p tag [flag]) s = .next (s.setPort p ((s.port p).answered .status tag b)) := by
  rw [State.replyTo_endTransaction] at howner
  exact congrArg Host.Outcome.next (takeRequest_of_quiet hs (frameRefusal_status s p flag) tag howner
    (State.notices_setPort_le (Nat.le_refl _)))

/-- STATUS with the acknowledge flag set: the reply, and the start cause NONE (R161). -/
theorem exec_status_acknowledge {s : State} {p : Port} (hs : s.Hears p) (tag : Byte) :
    exec (.status p tag [1]) s =
      .next { s.setPort p ((s.port p).answered .status tag (.status s.report)) with
        startCause := .none } := by
  have howner : statusOwner p tag [1] (s.endTransaction p) =
      { s.setPort p ((s.port p).answered .status tag (.status s.report)) with startCause := .none } := by
    rw [statusOwner_acknowledge, State.report_endTransaction, State.replyTo_endTransaction]
  have hquiet := State.notices_setPort_le (s := s) (p := p)
    (q := (s.port p).answered .status tag (.status s.report)) (Nat.le_refl _)
  exact congrArg Host.Outcome.next (takeRequest_of_quiet hs (frameRefusal_status s p 1) tag howner
    fun | .drive => hquiet .drive | .platform => hquiet .platform)

/-- Settles O8: the owner's three answers, one for each reading of the flag. -/
theorem statusReportsAndAcknowledges : Obligations.StatusReportsAndAcknowledges := by
  intro s p tag flag hs
  refine ⟨?clear, ?acknowledge, ?badFlag⟩
  case clear =>
    rintro rfl
    exact exec_status_of_reply hs tag 0 (b := .status s.report)
      (by rw [statusOwner_clear, State.report_endTransaction])
  case acknowledge =>
    rintro rfl
    exact exec_status_acknowledge hs tag
  case badFlag => exact fun hflag => exec_status_of_reply hs tag flag (statusOwner_badFlag p tag hflag _)

/-! ## FETCH (R182) -/

theorem frameRefusal_fetch_of_idle {s : State} {p : Port} (h : (s.port p).inFlight = none) :
    frameRefusal s .fetch p [] = none := by
  simp [frameRefusal, servedOn, admitsLength, h]

theorem frameRefusal_fetch_of_busy {s : State} {p : Port} (h : (s.port p).inFlight.isSome = true) :
    frameRefusal s .fetch p [] = some .busy := by
  simp [frameRefusal, servedOn, admitsLength, exemptFromBusy, h]

/-- What FETCH makes of its port: the oldest notices reported and gone, the mark reported and clear. -/
def PortState.fetched (q : PortState) (tag : Byte) : PortState :=
  { q.answered .fetch tag (.notices (q.notices.take 4) (q.notices.length - 4) q.overflow) with
    notices := q.notices.drop 4
    overflow := false }

theorem PortState.fetched_notices_length_le (q : PortState) (tag : Byte) :
    (q.fetched tag).notices.length ≤ q.notices.length := by
  simp [PortState.fetched]

/-- FETCH's work, at the end of its transaction, in terms of the state before it. -/
theorem fetchOwner_endTransaction (s : State) (p : Port) (tag : Byte) :
    fetchOwner p tag (s.endTransaction p) = s.setPort p ((s.port p).fetched tag) := by
  simp [fetchOwner, State.endTransaction, State.replyTo, State.reply, PortState.fetched,
    PortState.answered, PortState.heard, replyKind, Config.fetchCount]

/-- Settles O9: `fetched` on an idle port, the in-flight rule on a busy one. -/
theorem fetchTakesTheOldestNotices : Obligations.FetchTakesTheOldestNotices := by
  intro s p tag
  refine ⟨?idle, ?busy⟩
  case idle =>
    rintro ⟨hears, hflight⟩
    exact congrArg Host.Outcome.next (takeRequest_of_quiet hears (frameRefusal_fetch_of_idle hflight) tag
      (fetchOwner_endTransaction s p tag)
      (State.notices_setPort_le (PortState.fetched_notices_length_le _ tag)))
  case busy =>
    intro hears hflight
    exact congrArg Host.Outcome.next (takeRequest_of_refused hears (frameRefusal_fetch_of_busy hflight)
      tag (fetchOwner p tag))

end Sys2Proof.Machine

/-!
PROOFS. What every operation keeps.  `State.Keeps` gathers the bounds of O58 and of the first clause of O59,
`State.Stays` adds that the store stays and that no explicit range's extent is a new one, and `State.Flows`
that an epoch increment of the event is told on the Drive Port.  Each operation of the model is shown to flow
once; a step's invariants are read off the chain of operations that it is.
-/

namespace Sys2Proof.Machine

open Sys2Proof

/-! ## What an operation keeps -/

/-- Nothing that an operation may not lose is lost: the bounds of the queues and of the tables. -/
structure State.Keeps (s t : State) : Prop where
  notices : s.noticesFit → t.noticesFit
  queue : s.queueFits → t.queueFits
  lanes : s.lanesFit → t.lanesFit
  holders : s.holdersFit → t.holdersFit
  orders : s.ordersFit → t.ordersFit
  shown : s.globalShown → t.globalShown
  listed : s.adminListed → t.adminListed

/-- A live explicit range has an extent that the range had before, live or stored. -/
def State.ExtentsFrom (s t : State) : Prop :=
  ∀ r c, r ≠ 0 → (t.range r).stored = some c →
    ∃ d, s.places r d ∧ d.start = c.start ∧ d.length = c.length

/-- Nothing is lost, the store stays, the geometry stays or becomes the stored one, and no explicit range has
a new extent. -/
structure State.Stays (s t : State) : Prop extends s.Keeps t where
  store : t.store = s.store
  geometry : t.geometry = s.geometry ∨ t.geometry = s.store.identity.geometry
  extents : s.ExtentsFrom t

/-- The queue holds a PRESENTATION_CHANGED of this epoch past its first `old` notices, and no notice of another
epoch behind it. -/
def PortState.tells (q : PortState) (old : Nat) (e : Epoch) : Prop :=
  ∃ i c, old ≤ i ∧ q.notices[i]? = some (changed e c) ∧ ∀ j m, i < j → q.notices[j]? = some m → m.epoch = e

/-- Within an event that `b` began, the epoch is still that of `b`, or the overflow mark is set, or the
increment is told; and no notice has left the Drive Port's queue. -/
def State.Told (b s : State) : Prop :=
  b.drive.notices.length ≤ s.drive.notices.length ∧
    (s.epoch = b.epoch ∨ s.drive.overflow = true ∨ s.drive.tells b.drive.notices.length s.epoch)

theorem State.Told.congr {b s t : State} (hn : t.drive.notices = s.drive.notices)
    (ho : t.drive.overflow = s.drive.overflow) (he : t.epoch = s.epoch) (h : b.Told s) : b.Told t := by
  simpa only [State.Told, PortState.tells, hn, ho, he] using h

/-- An operation within an event. -/
structure State.Flows (s t : State) : Prop extends s.Stays t where
  told : ∀ b : State, b.Told s → b.Told t

/-- What the bounds of the queues and of the tables are about. -/
def State.bounded (s : State) :=
  (s.drive.notices, s.drive.inFlight, s.platform.notices, s.queue, s.held, s.lane.lanes, s.ranges, s.scrub.job, s.store)

theorem State.Keeps.of_same {s t : State} (h : t.bounded = s.bounded) : s.Keeps t := by
  simp only [State.bounded, Prod.mk.injEq] at h
  obtain ⟨hn, hf, hp, hq, hh, hl, hr, hj, hs⟩ := h
  constructor <;>
    simp only [State.noticesFit, State.queueFits, State.lanesFit, State.holdersFit, State.ordersFit, State.globalShown,
      State.adminListed, State.range, hn, hf, hp, hq, hh, hl, hr, hj, hs] <;> exact id

theorem State.Keeps.refl (s : State) : s.Keeps s := .of_same rfl

theorem State.Keeps.trans {s t u : State} (h : s.Keeps t) (h' : t.Keeps u) : s.Keeps u where
  notices := h'.notices ∘ h.notices
  queue := h'.queue ∘ h.queue
  lanes := h'.lanes ∘ h.lanes
  holders := h'.holders ∘ h.holders
  orders := h'.orders ∘ h.orders
  shown := h'.shown ∘ h.shown
  listed := h'.listed ∘ h.listed

theorem State.ExtentsFrom.trans {s t u : State} (h : s.ExtentsFrom t) (hstore : t.store = s.store)
    (h' : t.ExtentsFrom u) : s.ExtentsFrom u := by
  intro r c hr hc
  obtain ⟨d, ⟨-, hd⟩, hstart, hlength⟩ := h' r c hr hc
  rcases hd with hd | hd
  · obtain ⟨d', hd', hstart', hlength'⟩ := h r d hr hd
    exact ⟨d', hd', hstart'.trans hstart, hlength'.trans hlength⟩
  · exact ⟨d, ⟨hr, .inr (hstore ▸ hd)⟩, hstart, hlength⟩

theorem State.Stays.of_same {s t : State} (h : (t.bounded, t.geometry) = (s.bounded, s.geometry)) : s.Stays t := by
  obtain ⟨hb, hg⟩ := Prod.mk.inj h
  have hrest := hb
  simp only [State.bounded, Prod.mk.injEq] at hrest
  obtain ⟨-, -, -, -, -, -, hr, -, hs⟩ := hrest
  exact ⟨.of_same hb, hs, .inl hg, fun r c hr0 hc => ⟨c, ⟨hr0, .inl (by simpa only [State.range, hr] using hc)⟩, rfl, rfl⟩⟩

theorem State.Stays.refl (s : State) : s.Stays s := .of_same rfl

theorem State.Stays.trans {s t u : State} (h : s.Stays t) (h' : t.Stays u) : s.Stays u where
  toKeeps := h.toKeeps.trans h'.toKeeps
  store := h'.store.trans h.store
  geometry := by
    rcases h'.geometry with e | e
    · rw [e]; exact h.geometry
    · rw [e, h.store]; exact .inr rfl
  extents := h.extents.trans h.store h'.extents

theorem State.Flows.of_same {s t : State}
    (h : ((t.bounded, t.geometry), t.drive.overflow, t.epoch) = ((s.bounded, s.geometry), s.drive.overflow, s.epoch)) :
    s.Flows t := by
  obtain ⟨hstays, hrest⟩ := Prod.mk.inj h
  obtain ⟨ho, he⟩ := Prod.mk.inj hrest
  exact ⟨.of_same hstays, fun _ => State.Told.congr (congrArg Prod.fst (Prod.mk.inj hstays).1) ho he⟩

theorem State.Flows.refl (s : State) : s.Flows s := .of_same rfl

theorem State.Flows.trans {s t u : State} (h : s.Flows t) (h' : t.Flows u) : s.Flows u where
  toStays := h.toStays.trans h'.toStays
  told := fun b => h'.told b ∘ h.told b

theorem State.Flows.foldl {α : Type} {f : State → α → State} (h : ∀ (x : State) a, x.Flows (f x a)) (l : List α)
    (s : State) : s.Flows (l.foldl f s) := by
  induction l generalizing s with
  | nil => exact .refl s
  | cons a l ih => exact (h s a).trans (ih _)

theorem State.Flows.ite {s t u : State} {p : Prop} [Decidable p] (ht : p → s.Flows t) (hu : ¬p → s.Flows u) :
    s.Flows (if p then t else u) := by
  split
  · exact ht ‹_›
  · exact hu ‹_›

/-! ## Ports -/

/-- Work that keeps range 0 SHOWN and the Administrator listed, as far as the state does. -/
def Work.fits (s : State) (w : Work) : Prop :=
  (s.globalShown → w.keepsGlobalShown) ∧ (s.adminListed → w.listsAdmin)

theorem Work.fits_of_kind {s : State} {w : Work} (h : w.keepsGlobalShown) (h' : w.listsAdmin) : w.fits s :=
  ⟨fun _ => h, fun _ => h'⟩

@[simp] theorem Work.fits_committing (s : State) : Work.committing.fits s := Work.fits_of_kind trivial trivial
@[simp] theorem Work.fits_holding (s : State) (b : Bool) : (Work.holding b).fits s :=
  Work.fits_of_kind trivial trivial
@[simp] theorem Work.fits_answered (s : State) : Work.answered.fits s := Work.fits_of_kind trivial trivial

/-- A port whose notices, mark and work fit is as good as the one it replaces. -/
theorem State.setPort_keeps {s : State} {p : Port} {q : PortState}
    (hn : q.notices.length ≤ (s.port p).notices.length)
    (hw : ∀ f, q.inFlight = some f → f.work.fits s ∨ (s.port p).inFlight.map InFlight.work = some f.work) :
    s.Keeps (s.setPort p q) := by
  cases p with
  | platform => exact ⟨fun h => ⟨h.1, hn.trans h.2⟩, id, id, id, id, id, id⟩
  | drive =>
    refine ⟨fun h => ⟨hn.trans h.1, h.2⟩, id, id, id, id, fun h => ?_, fun h => ?_⟩
    · obtain ⟨hlive, hstored, hentries, hwork⟩ := id h
      refine ⟨hlive, hstored, hentries, fun f hf => ?_⟩
      rcases hw f hf with hw | hw
      · exact hw.1 h
      · obtain ⟨g, hg, e⟩ := Option.map_eq_some_iff.1 hw
        exact e ▸ hwork g hg
    · obtain ⟨hlists, hentries, hwork⟩ := id h
      refine ⟨hlists, hentries, fun f hf => ?_⟩
      rcases hw f hf with hw | hw
      · exact hw.2 h
      · obtain ⟨g, hg, e⟩ := Option.map_eq_some_iff.1 hw
        exact e ▸ hwork g hg

theorem State.setPort_stays {s : State} {p : Port} {q : PortState}
    (hn : q.notices.length ≤ (s.port p).notices.length)
    (hw : ∀ f, q.inFlight = some f → f.work.fits s ∨ (s.port p).inFlight.map InFlight.work = some f.work) :
    s.Stays (s.setPort p q) where
  toKeeps := State.setPort_keeps hn hw
  store := s.setPort_store p q
  geometry := .inl (s.setPort_geometry p q)
  extents := fun r c hr h => ⟨c, ⟨hr, .inl (by cases p <;> exact h)⟩, rfl, rfl⟩

/-- A port changed but for its notices and mark. -/
theorem State.setPort_flows {s : State} {p : Port} {q : PortState}
    (hn : q.notices = (s.port p).notices) (ho : q.overflow = (s.port p).overflow)
    (hw : ∀ f, q.inFlight = some f → f.work.fits s ∨ (s.port p).inFlight.map InFlight.work = some f.work) :
    s.Flows (s.setPort p q) where
  toStays := State.setPort_stays (hn ▸ le_rfl) hw
  told := fun b h => by
    cases p with
    | platform => exact h
    | drive => exact State.Told.congr hn ho rfl h

theorem State.reply_flows (s : State) (p : Port) (k t : Byte) (b : ReplyBody) : s.Flows (s.reply p k t b) :=
  State.setPort_flows rfl rfl fun f hf => .inr (by simp only at hf; rw [hf]; rfl)

theorem State.replyTo_flows (s : State) (k : ReqKind) (p : Port) (t : Byte) (b : ReplyBody) :
    s.Flows (s.replyTo k p t b) := s.reply_flows p _ t b

theorem State.startWork_flows {s : State} {w : Work} (h : w.fits s) (k : ReqKind) (p : Port) (t : Byte) :
    s.Flows (s.startWork k p t w) :=
  State.setPort_flows rfl rfl fun f hf => .inl (by cases hf; exact h)

theorem State.setWork_flows {s : State} {w : Work} (h : w.fits s) (p : Port) : s.Flows (s.setWork p w) :=
  State.setPort_flows rfl rfl fun f hf => by
    obtain ⟨g, -, rfl⟩ := Option.map_eq_some_iff.1 hf
    exact .inl h

theorem State.endTransaction_flows (s : State) (p : Port) : s.Flows (s.endTransaction p) :=
  State.setPort_flows rfl rfl fun f hf => .inr (by simp only at hf; rw [hf]; rfl)

theorem State.answer_flows (s : State) (p : Port) (b : ReplyBody) : s.Flows (s.answer p b) := by
  unfold State.answer
  split
  · exact .refl s
  · split
    · exact State.setPort_flows rfl rfl (by simp)
    · exact State.setPort_flows rfl rfl fun f hf => .inl (by cases hf; exact Work.fits_answered s)

/-! ## Notices -/

theorem PortState.tells_push {q : PortState} {old : Nat} {n : Notice} (h : q.tells old n.epoch) :
    (q.push n).tells old n.epoch := by
  obtain ⟨i, c, hi, hn, hbehind⟩ := h
  unfold PortState.push
  split
  · have hlt : i < q.notices.length := (List.getElem?_eq_some_iff.1 hn).1
    refine ⟨i, c, hi, by simp [List.getElem?_append_left hlt, hn], fun j m hj hm => ?_⟩
    replace hm : (q.notices ++ [n])[j]? = some m := hm
    rw [List.getElem?_append] at hm
    split at hm
    · exact hbehind j m hj hm
    · rw [List.getElem?_singleton] at hm
      split at hm <;> cases hm
      rfl
  · exact ⟨i, c, hi, hn, hbehind⟩

theorem PortState.push_notices_length_ge (q : PortState) (n : Notice) :
    q.notices.length ≤ (q.push n).notices.length := by
  unfold PortState.push; split <;> simp

theorem PortState.push_overflow_of_set {q : PortState} (n : Notice) (h : q.overflow = true) :
    (q.push n).overflow = true := by
  unfold PortState.push; split
  · exact h
  · rfl

@[simp] theorem PortState.push_inFlight (q : PortState) (n : Notice) : (q.push n).inFlight = q.inFlight := by
  unfold PortState.push; split <;> rfl

/-- A notice of the epoch in force, on either port. -/
theorem State.setPort_push_keeps (s : State) (p : Port) (n : Notice) :
    s.Keeps (s.setPort p ((s.port p).push n)) := by
  cases p with
  | platform => exact ⟨fun h => ⟨h.1, PortState.push_bound _ _ h.2⟩, id, id, id, id, id, id⟩
  | drive =>
    refine ⟨fun h => ⟨PortState.push_bound _ _ h.1, h.2⟩, id, id, id, id, ?_, ?_⟩
    · rintro ⟨hlive, hstored, hentries, hwork⟩
      exact ⟨hlive, hstored, hentries, fun f hf => hwork f (by simpa using hf)⟩
    · rintro ⟨hlists, hentries, hwork⟩
      exact ⟨hlists, hentries, fun f hf => hwork f (by simpa using hf)⟩

theorem State.notify_flows (s : State) (p : Port) (k : NoticeKind) (r : Option RangeId) (l : Option Nat) :
    s.Flows (s.notify p k r l) where
  toKeeps := s.setPort_push_keeps p _
  store := s.notify_store p k r l
  geometry := .inl (s.notify_geometry p k r l)
  extents := fun r c hr h => ⟨c, ⟨hr, .inl (by simpa [State.range] using h)⟩, rfl, rfl⟩
  told := fun b h => by
    cases p with
    | platform => exact h
    | drive =>
      obtain ⟨hlen, hcase⟩ := h
      refine ⟨hlen.trans (PortState.push_notices_length_ge _ _), ?_⟩
      rcases hcase with h | h | h
      · exact .inl h
      · exact .inr (.inl (PortState.push_overflow_of_set _ h))
      · exact .inr (.inr (PortState.tells_push h))

theorem State.notifyBoth_flows (s : State) (k : NoticeKind) : s.Flows (s.notifyBoth k) :=
  (s.notify_flows ..).trans (State.notify_flows ..)

/-- An increment is told by its own notice, which stands last, or finds the queue full (R21, R22). -/
theorem State.raiseEpoch_flows (s : State) : s.Flows s.raiseEpoch where
  toKeeps := (show s.Keeps { s with epoch := s.epoch + 1 } from .of_same rfl).trans (State.setPort_push_keeps _ .drive _)
  told := fun b h => by
    obtain ⟨hlen, -⟩ := h
    refine ⟨hlen.trans (PortState.push_notices_length_ge _ _), .inr ?_⟩
    simp only [State.raiseEpoch_drive, State.raiseEpoch_epoch]
    unfold PortState.push
    split
    · refine .inr ⟨s.drive.notices.length, s.custody.state, hlen, by simp [changed], fun j m hj hm => ?_⟩
      have := (List.getElem?_eq_some_iff.1 hm).1
      simp at this; omega
    · exact .inl rfl
  store := rfl
  geometry := .inl rfl
  extents := fun _ c hr h => ⟨c, ⟨hr, .inl h⟩, rfl, rfl⟩

theorem State.raiseIf_flows (b : Bool) (s : State) : s.Flows (State.raiseIf b s) := by
  cases b
  · exact .refl s
  · exact s.raiseEpoch_flows

/-- The end of an event gives notices their custody state alone. -/
theorem State.sealEvent_stays (b s : State) : s.Stays (State.sealEvent b s) where
  notices := State.sealEvent_notices b s
  queue := id; lanes := id; holders := id; orders := id; shown := id; listed := id
  store := rfl
  geometry := .inl rfl
  extents := fun _ c hr h => ⟨c, ⟨hr, .inl h⟩, rfl, rfl⟩

/-! ## Ranges -/

/-- A range entry that may stand in another's place: no right without a holder is lost, and its record is one
that the state has. -/
structure State.TakesEntry (s : State) (r : RangeId) (e : RangeEntry) : Prop where
  holder : s.holdersFit → e.hasRight = false → e.holder = none
  shown : s.globalShown → shownIfGlobal r e.stored
  listed : s.adminListed → listsAdmin e.stored
  extent : r ≠ 0 → ∀ c, e.stored = some c → ∃ d, s.places r d ∧ d.start = c.start ∧ d.length = c.length

theorem State.TakesEntry.of_live {s : State} {r : RangeId} {e : RangeEntry}
    (hh : (s.range r).hasRight = e.hasRight ∧ (s.range r).holder = e.holder ∨ e.holder = none ∨
      e.hasRight = true)
    (hs : e.stored = (s.range r).stored) : s.TakesEntry r e where
  holder := fun h hr => by
    rcases hh with ⟨h1, h2⟩ | h1 | h1
    · rw [← h2]; exact h r (h1.trans hr)
    · exact h1
    · simp [h1] at hr
  shown := fun h hr => by subst hr; rw [hs]; exact h.1 rfl
  listed := fun h => by rw [hs]; exact (h.1 r).1
  extent := fun hr c hc => ⟨c, ⟨hr, .inl (hs ▸ hc)⟩, rfl, rfl⟩

/-- The ranges replaced, each by an entry that may stand there. -/
theorem State.ranges_flows {s : State} {v : Vector RangeEntry 16}
    (h : ∀ r : RangeId, s.TakesEntry r v[r.val]) : s.Flows { s with ranges := v } where
  holders := fun hs r hr => (h r).holder hs hr
  shown := fun hs => ⟨(h 0).shown hs, hs.2⟩
  listed := fun hs => ⟨fun r => ⟨(h r).listed hs, (hs.1 r).2⟩, hs.2⟩
  extents := fun r c hr hc => (h r).extent hr c hc
  notices := id; queue := id; lanes := id; orders := id
  store := rfl
  geometry := .inl rfl
  told := fun _ => id

theorem State.setRange_flows {s : State} {r : RangeId} {e : RangeEntry} (h : s.TakesEntry r e) :
    s.Flows (s.setRange r e) := by
  refine State.ranges_flows fun q => ?_
  rw [Vector.getElem_set]
  split
  · rename_i hq; rw [← Fin.ext hq]; exact h
  · exact .of_live (.inl ⟨rfl, rfl⟩) rfl

/-! ## Lanes -/

/-- Lane records replaced by as many with no more votes than three. -/
theorem State.lanes_flows {s : State} {l : List LaneRec}
    (h : s.lanesFit → 4 ≤ l.length ∧ l.length ≤ 16 ∧ ∀ x ∈ l, x.votes.length ≤ 3) (c : LaneCtl) :
    s.Flows { s with lane := { c with lanes := l } } where
  lanes := h
  notices := id; queue := id; holders := id; orders := id; shown := id; listed := id
  store := rfl
  geometry := .inl rfl
  extents := fun _ c hr h => ⟨c, ⟨hr, .inl h⟩, rfl, rfl⟩
  told := fun _ => id

theorem State.mapLanes_flows {s : State} {f : LaneRec → LaneRec} (h : ∀ x, (f x).votes.length ≤ x.votes.length)
    (c : LaneCtl) : s.Flows { s with lane := { c with lanes := s.lane.lanes.map f } } :=
  State.lanes_flows (fun ⟨h4, h16, hv⟩ => ⟨by simpa, by simpa, fun x hx => by
    obtain ⟨y, hy, rfl⟩ := List.mem_map.1 hx
    exact (h y).trans (hv y hy)⟩) c

theorem State.updLane_flows {s : State} {n : Nat} {f : LaneRec → LaneRec}
    (h : ∀ x, s.laneAt n = some x → (∀ y ∈ s.lane.lanes, y.votes.length ≤ 3) → (f x).votes.length ≤ 3) :
    s.Flows (s.updLane n f) := by
  refine State.lanes_flows (fun ⟨h4, h16, hv⟩ => ⟨by simpa, by simpa, fun x hx => ?_⟩) s.lane
  obtain ⟨i, hi⟩ := List.mem_iff_getElem?.1 hx
  rw [List.getElem?_modify] at hi
  split at hi
  · rename_i hn; subst hn
    obtain ⟨y, hy, rfl⟩ := Option.map_eq_some_iff.1 hi
    exact h y hy hv
  · obtain ⟨y, hy, e⟩ := Option.map_eq_some_iff.1 hi
    exact e ▸ hv y (List.mem_of_getElem? hy)

/-- A change of a lane record that keeps its votes. -/
theorem State.updLane_flows_of_votes {s : State} {n : Nat} {f : LaneRec → LaneRec}
    (h : ∀ x, (f x).votes.length ≤ x.votes.length) : s.Flows (s.updLane n f) :=
  State.updLane_flows fun x hx hv => (h x).trans (hv x (List.mem_of_getElem? hx))

theorem LaneRec.release_votes (l : LaneRec) : l.release.votes = l.votes := by
  obtain ⟨st, p, e⟩ := l.release_frame
  rw [e]

end Sys2Proof.Machine

/-!
PROOFS. Writes on their way to the store: whatever meets the commit queue, no contents come in that the
writes entered do not have.
-/

namespace Sys2Proof.Machine

open Sys2Proof

/-! ## Writes on their way to the store -/

/-- A write that keeps range 0 SHOWN and the Administrator listed, as far as the state does. -/
def RecordWrite.fits (s : State) (w : RecordWrite) : Prop :=
  (s.globalShown → w.keepsGlobalShown) ∧ (s.adminListed → w.listsAdmin)

/-- An entry whose writes all fit. -/
def Entry.fits (s : State) (e : Entry) : Prop := ∀ w ∈ e.writes, w.fits s

/-- Every write of the entries meets a test. -/
def AllWrites (P : RecordWrite → Prop) (l : List Entry) : Prop := ∀ e ∈ l, ∀ w ∈ e.writes, P w

/-- A test that only the contents of a present Range record can fail. -/
def ReadsRanges (P : RecordWrite → Prop) : Prop := ∀ w, (∀ r c, w ≠ .range r (some c)) → P w

theorem keepsGlobalShown_readsRanges : ReadsRanges RecordWrite.keepsGlobalShown := by
  intro w h
  cases w with
  | range r c =>
    rintro - x rfl
    exact absurd rfl (h r x)
  | _ => trivial

theorem listsAdmin_readsRanges : ReadsRanges RecordWrite.listsAdmin := by
  intro w h
  cases w with
  | range r c =>
    rintro x rfl
    exact absurd rfl (h r x)
  | _ => trivial

theorem RecordWrite.fits_of_no_range {s : State} {w : RecordWrite} (h : ∀ r c, w ≠ .range r (some c)) :
    w.fits s :=
  ⟨fun _ => keepsGlobalShown_readsRanges w h, fun _ => listsAdmin_readsRanges w h⟩

section merging

variable {P : RecordWrite → Prop} (hP : ReadsRanges P)

include hP in
theorem mergeWrite_meets {old new : RecordWrite} (h : P new) : P (mergeWrite old new) := by
  unfold mergeWrite
  split
  · exact hP _ nofun
  · exact hP _ nofun
  · exact hP _ nofun
  · exact h

include hP in
theorem foldl_mergeWrite_meets {ws : List RecordWrite} (h : ∀ w ∈ ws, P w) {w : RecordWrite} (hw : P w) :
    P (ws.foldl mergeWrite w) := by
  induction ws generalizing w with
  | nil => exact hw
  | cons x ws ih =>
    obtain ⟨hx, hws⟩ := List.forall_mem_cons.1 h
    exact ih hws (mergeWrite_meets hP hx)

include hP in
theorem Entry.merge_meets {x w : Entry} (hx : ∀ y ∈ x.writes, P y) (hw : ∀ y ∈ w.writes, P y) :
    ∀ y ∈ (x.merge w).writes, P y := by
  unfold Entry.merge
  split
  · intro y hy
    obtain ⟨z, hz, rfl⟩ := List.mem_map.1 hy
    split
    · exact foldl_mergeWrite_meets hP hw (hx z hz)
    · exact hx z hz
  · exact hw

theorem allWrites_append {a b : List Entry} :
    AllWrites P (a ++ b) ↔ AllWrites P a ∧ AllWrites P b := List.forall_mem_append

theorem allWrites_cons {e : Entry} {l : List Entry} :
    AllWrites P (e :: l) ↔ (∀ w ∈ e.writes, P w) ∧ AllWrites P l := List.forall_mem_cons

theorem allWrites_take_tail {l : List Entry} : AllWrites P l ↔ AllWrites P (l.take 1) ∧ AllWrites P l.tail := by
  rw [← allWrites_append, ← List.drop_one, List.take_append_drop]

theorem allWrites_nil : AllWrites P [] := List.forall_mem_nil _

include hP in
theorem State.promoteHeld_meets (n : Nat) (s : State) (hq : AllWrites P s.queue) (hh : AllWrites P s.held) :
    AllWrites P (State.promoteHeld n s).queue ∧ AllWrites P (State.promoteHeld n s).held := by
  induction n generalizing s with
  | zero => exact ⟨hq, hh⟩
  | succ n ih =>
    unfold State.promoteHeld
    split
    · exact ⟨hq, hh⟩
    · rename_i w rest e
      rw [e, allWrites_cons] at hh
      obtain ⟨hw, hrest⟩ := hh
      split
      · split
        · rename_i b x a hs
          obtain ⟨hhead, htail⟩ := allWrites_take_tail.1 hq
          rw [(splitLast_some hs).1, allWrites_append, allWrites_cons] at htail
          obtain ⟨hb, hx, ha⟩ := htail
          exact ih _ (by
            simpa only [allWrites_append, allWrites_cons] using
              ⟨⟨hhead, hb⟩, Entry.merge_meets hP hx hw, ha⟩) hrest
        · exact ih _ (allWrites_append.2 ⟨hq, allWrites_cons.2 ⟨hw, allWrites_nil⟩⟩) hrest
      · exact ⟨hq, e ▸ allWrites_cons.2 ⟨hw, hrest⟩⟩

include hP in
/-- Entering a write brings in no contents but those it has. -/
theorem State.enter_meets (earlier : List EntryKey) {w : Entry} {s : State} (hq : AllWrites P s.queue)
    (hh : AllWrites P s.held) (hw : ∀ y ∈ w.writes, P y) :
    AllWrites P (s.enter earlier w).queue ∧ AllWrites P (s.enter earlier w).held := by
  unfold State.enter
  dsimp only
  split
  · rename_i b x a hs
    rw [(splitLast_some hs).1, allWrites_append, allWrites_cons] at hh
    obtain ⟨hb, hx, ha⟩ := hh
    have hxw := Entry.merge_meets hP hx hw
    split
    · exact ⟨hq, by simp only [allWrites_append, allWrites_cons]; exact ⟨⟨hb, ha⟩, hxw, allWrites_nil⟩⟩
    · exact ⟨hq, by simp only [allWrites_append, allWrites_cons]; exact ⟨hb, hxw, ha⟩⟩
  · split
    · rename_i b x a hs
      obtain ⟨hhead, htail⟩ := allWrites_take_tail.1 hq
      rw [(splitLast_some hs).1, allWrites_append, allWrites_cons] at htail
      obtain ⟨hb, hx, ha⟩ := htail
      have hxw := Entry.merge_meets hP hx hw
      split
      · split
        · exact ⟨by simp only [allWrites_append, allWrites_cons]
                    exact ⟨⟨⟨hhead, hb⟩, ha⟩, hxw, allWrites_nil⟩, hh⟩
        · exact State.promoteHeld_meets hP _ _
            (by simp only [allWrites_append]; exact ⟨⟨hhead, hb⟩, ha⟩)
            (by simp only [allWrites_append, allWrites_cons]; exact ⟨hh, hxw, allWrites_nil⟩)
      · exact ⟨by simp only [allWrites_append, allWrites_cons]; exact ⟨⟨hhead, hb⟩, hxw, ha⟩, hh⟩
    · split
      · exact ⟨allWrites_append.2 ⟨hq, allWrites_cons.2 ⟨hw, allWrites_nil⟩⟩, hh⟩
      · exact ⟨hq, allWrites_append.2 ⟨hh, allWrites_cons.2 ⟨hw, allWrites_nil⟩⟩⟩

end merging

/-! ## The commit queue -/

/-- A queue and held writes that take the place of the old ones, within the bound, with contents that were there
or are among `ws`. -/
theorem State.queue_flows {s : State} {q h : List Entry} (ws : List RecordWrite) (hws : ∀ w ∈ ws, w.fits s)
    (hq : s.queueFits → nonFinal q ≤ 4)
    (hw : ∀ P, ReadsRanges P → AllWrites P s.queue → AllWrites P s.held → (∀ w ∈ ws, P w) →
      AllWrites P q ∧ AllWrites P h) : s.Flows { s with queue := q, held := h } where
  queue := hq
  shown := fun hs => by
    obtain ⟨hlive, hstored, hentries, hwork⟩ := id hs
    obtain ⟨hqueue, hheld⟩ := allWrites_append.1 hentries
    obtain ⟨h1, h2⟩ := hw _ keepsGlobalShown_readsRanges hqueue hheld fun w hw => (hws w hw).1 hs
    exact ⟨hlive, hstored, allWrites_append.2 ⟨h1, h2⟩, hwork⟩
  listed := fun hs => by
    obtain ⟨hlists, hentries, hwork⟩ := id hs
    obtain ⟨hqueue, hheld⟩ := allWrites_append.1 hentries
    obtain ⟨h1, h2⟩ := hw _ listsAdmin_readsRanges hqueue hheld fun w hw => (hws w hw).2 hs
    exact ⟨hlists, allWrites_append.2 ⟨h1, h2⟩, hwork⟩
  notices := id; lanes := id; holders := id; orders := id
  store := rfl
  geometry := .inl rfl
  extents := fun _ c hr h => ⟨c, ⟨hr, .inl h⟩, rfl, rfl⟩
  told := fun _ => id

theorem State.enter_flows {s : State} {w : Entry} (hw : w.fits s) (earlier : List EntryKey) :
    s.Flows (s.enter earlier w) := by
  obtain ⟨q, h, e⟩ := State.enter_frame earlier w s
  have hb := State.enter_queue_bound earlier w s
  have hm := fun P (hP : ReadsRanges P) hq hh hw => State.enter_meets hP (s := s) earlier (w := w) hq hh hw
  rw [e] at hb hm ⊢
  exact State.queue_flows w.writes hw hb hm

theorem State.promoteHeld_flows (n : Nat) (s : State) : s.Flows (State.promoteHeld n s) := by
  obtain ⟨q, h, e⟩ := State.promoteHeld_frame n s
  have hb := State.promoteHeld_queue_bound n s
  have hm := fun P (hP : ReadsRanges P) => State.promoteHeld_meets hP n s
  rw [e] at hb hm ⊢
  exact State.queue_flows [] nofun hb fun P hP hq hh _ => hm P hP hq hh

/-- A write that fits a state fits every state it flows from: what it rests on is kept. -/
theorem State.enterAll_flows {s : State} {ws : List Entry} (hws : ∀ w ∈ ws, w.fits s) :
    s.Flows (s.enterAll ws) := by
  obtain ⟨q, h, e⟩ := State.enterAll_frame ws s
  have hb := State.enterAll_queue_bound ws s
  have fold : ∀ P, ReadsRanges P → ∀ (ws : List Entry) (ks : List EntryKey) (x : State), AllWrites P ws →
      AllWrites P x.queue → AllWrites P x.held →
      let y := (ws.foldl (fun (acc : List EntryKey × State) w => (w.key :: acc.1, acc.2.enter acc.1 w))
        (ks, x)).2
      AllWrites P y.queue ∧ AllWrites P y.held := by
    intro P hP ws
    induction ws with
    | nil => exact fun _ _ _ hq hh => ⟨hq, hh⟩
    | cons w ws ih =>
      intro ks x hws hq hh
      obtain ⟨hw, hws⟩ := allWrites_cons.1 hws
      obtain ⟨hq, hh⟩ := State.enter_meets hP ks hq hh hw
      exact ih _ _ hws hq hh
  have hm := fun P (hP : ReadsRanges P) hq hh (hw : ∀ x ∈ ws.flatMap Entry.writes, P x) =>
    fold P hP ws [] s (fun w hws x hx => hw x (List.mem_flatMap.2 ⟨w, hws, hx⟩)) hq hh
  change ∀ P, ReadsRanges P → _ → _ → _ → AllWrites P (s.enterAll ws).queue ∧
    AllWrites P (s.enterAll ws).held at hm
  rw [e] at hb hm ⊢
  refine State.queue_flows (ws.flatMap Entry.writes) (fun x hx => ?_) hb hm
  obtain ⟨w, hw, hx⟩ := List.mem_flatMap.1 hx
  exact hws w hw x hx

/-- Entries with writes changed that are no Range record's. -/
theorem State.mapEntries_flows {s : State} {f g : Entry → Entry} {q : List Entry}
    (hq : nonFinal q = nonFinal s.queue)
    (hmem : ∀ e ∈ q, e ∈ s.queue ∨ ∃ x ∈ s.queue, e = f x)
    (hw : ∀ P, ReadsRanges P → ∀ e, (∀ w ∈ e.writes, P w) →
      (∀ w ∈ (f e).writes, P w) ∧ ∀ w ∈ (g e).writes, P w) :
    s.Flows { s with queue := q, held := s.held.map g } := by
  refine State.queue_flows [] nofun (fun h => hq ▸ h) fun P hP hq hh _ => ⟨fun e he => ?_, fun e he => ?_⟩
  · rcases hmem e he with he | ⟨x, hx, rfl⟩
    · exact hq e he
    · exact (hw P hP x (hq x hx)).1
  · obtain ⟨x, hx, rfl⟩ := List.mem_map.1 he
    exact (hw P hP x (hh x hx)).2

theorem mem_take_one_append_map_tail {f : Entry → Entry} {l : List Entry} {e : Entry}
    (h : e ∈ l.take 1 ++ l.tail.map f) : e ∈ l ∨ ∃ x ∈ l, e = f x := by
  rcases List.mem_append.1 h with h | h
  · exact .inl (List.mem_of_mem_take h)
  · obtain ⟨x, hx, rfl⟩ := List.mem_map.1 h
    exact .inr ⟨x, List.mem_of_mem_tail hx, rfl⟩

/-- The waiting final checkpoint with other clocks and cursor. -/
theorem State.mapFinal_flows {s : State} {f : List RecordWrite → List RecordWrite}
    (h : ∀ P, ReadsRanges P → ∀ ws, (∀ w ∈ ws, P w) → ∀ w ∈ f ws, P w) :
    s.Flows { s with queue := mapFinal f s.queue } := by
  have hmap := State.mapEntries_flows (s := s) (q := mapFinal f s.queue) (g := id)
    (f := fun e => if e.key = .final then { e with writes := f e.writes } else e)
    (nonFinal_mapFinal f s.queue) (fun e he => mem_take_one_append_map_tail he) fun P hP e he =>
      ⟨by split
          · exact h P hP _ he
          · exact he, he⟩
  simpa using hmap

theorem State.finalCursor_no_range (s : State) {w : RecordWrite} (hw : w ∈ s.finalCursor) (r : RangeId)
    (c : RangeRec) : w ≠ .range r (some c) := by
  unfold State.finalCursor at hw
  split at hw <;> simp at hw
  subst hw
  exact nofun

theorem State.updateFinalCursor_flows (s : State) : s.Flows s.updateFinalCursor :=
  State.mapFinal_flows fun P hP ws hws w hw => by
    rcases List.mem_append.1 hw with hw | hw
    · exact hws w (List.mem_of_mem_filter hw)
    · exact hP w (s.finalCursor_no_range hw)

theorem State.updateFinalClocks_flows (s : State) : s.Flows s.updateFinalClocks :=
  State.mapFinal_flows fun P hP ws hws w hw => by
    obtain ⟨x, hx, rfl⟩ := List.mem_map.1 hw
    split
    · exact hP _ nofun
    · exact hws _ hx

theorem State.clearFinalExact_flows (s : State) : s.Flows s.clearFinalExact :=
  State.mapFinal_flows fun P hP ws hws w hw => by
    obtain ⟨x, hx, rfl⟩ := List.mem_map.1 hw
    split
    · exact hP _ nofun
    · exact hws _ hx

theorem State.placeFinal_flows (s : State) : s.Flows s.placeFinal := by
  have hb := s.placeFinal_nonFinal
  unfold State.placeFinal at hb ⊢
  split
  · exact .refl s
  · rename_i hn
    rw [if_neg hn] at hb
    refine State.queue_flows s.finalWrites (fun w hw => RecordWrite.fits_of_no_range fun r c => ?_)
      (fun h => hb.le.trans h) fun P hP hq hh hw => ⟨?_, hh⟩
    · rcases List.mem_cons.1 hw with rfl | hw
      · exact nofun
      · exact s.finalCursor_no_range hw r c
    · obtain ⟨hhead, htail⟩ := allWrites_take_tail.1 hq
      exact allWrites_append.2 ⟨hhead, allWrites_cons.2 ⟨hw, htail⟩⟩

end Sys2Proof.Machine

/-!
PROOFS. The operations that the blocks share: rights, lanes, custody responses, clocks, RESTART.
-/

namespace Sys2Proof.Machine

open Sys2Proof

/-! ## Entries that fit -/

theorem Entry.fits_of_no_range {s : State} {e : Entry} (h : ∀ w ∈ e.writes, ∀ r c, w ≠ .range r (some c)) :
    e.fits s := fun w hw => RecordWrite.fits_of_no_range (h w hw)

theorem Entry.fits_single_write {s : State} {r : RecordId} {w : RecordWrite} {acts : List Act}
    (h : w.fits s) : (singleEntry r w acts).fits s :=
  fun x hx => by rw [List.mem_singleton.1 hx]; exact h

theorem identityEntry_fits (s : State) (c : IdentityRec) (acts : List Act) : (identityEntry c acts).fits s :=
  Entry.fits_single_write (RecordWrite.fits_of_no_range nofun)

theorem authorityEntry_fits (s : State) (i : AuthId) (c : AuthorityRec) (acts : List Act) :
    (authorityEntry i c acts).fits s := Entry.fits_single_write (RecordWrite.fits_of_no_range nofun)

theorem keyEntry_fits (s : State) (r : RangeId) (c : KeyRec) (acts : List Act) :
    (keyEntry r c acts).fits s := Entry.fits_single_write (RecordWrite.fits_of_no_range nofun)

theorem keyEraseEntry_fits (s : State) (r : RangeId) (acts : List Act) : (keyEraseEntry r acts).fits s :=
  Entry.fits_single_write (RecordWrite.fits_of_no_range nofun)

theorem policyEntry_fits (s : State) (c : PolicyRec) (acts : List Act) : (policyEntry c acts).fits s :=
  Entry.fits_single_write (RecordWrite.fits_of_no_range nofun)

theorem pairingEntry_fits (s : State) (c : Option Secret) (acts : List Act) : (pairingEntry c acts).fits s :=
  Entry.fits_single_write (RecordWrite.fits_of_no_range nofun)

theorem triesEntry_fits (s : State) (c : TriesRec) (acts : List Act) : (triesEntry c acts).fits s :=
  Entry.fits_single_write (RecordWrite.fits_of_no_range nofun)

theorem custodyEntry_fits (s : State) (c : CustodyRec) (acts : List Act) : (custodyEntry c acts).fits s :=
  Entry.fits_single_write (RecordWrite.fits_of_no_range nofun)

theorem journalEntry_fits (s : State) (c : JournalRec) (how : JournalWrite) (acts : List Act) :
    (journalEntry c how acts).fits s := Entry.fits_single_write (RecordWrite.fits_of_no_range nofun)

theorem rangeEntry_fits {s : State} {r : RangeId} {c : Option RangeRec} (hs : s.globalShown → shownIfGlobal r c)
    (hl : s.adminListed → listsAdmin c) (acts : List Act) : (rangeEntry r c acts).fits s :=
  Entry.fits_single_write ⟨hs, hl⟩

theorem rangeEntry_none_fits (s : State) (r : RangeId) (acts : List Act) : (rangeEntry r none acts).fits s :=
  Entry.fits_single_write (RecordWrite.fits_of_no_range nofun)

theorem shownIfGlobal_of_live {s : State} (h : s.globalShown) (r : RangeId) :
    shownIfGlobal r (s.range r).stored := fun hr => by subst hr; exact h.1 rfl

theorem rangeEntry_live_fits (s : State) (r : RangeId) (acts : List Act) :
    (rangeEntry r (s.range r).stored acts).fits s :=
  rangeEntry_fits (fun h => shownIfGlobal_of_live h r) (fun h => (h.1 r).1) acts

theorem retireGroupEntry_fits (s : State) (r : RangeId) (st : RangeState) (j : JournalRec) (how : JournalWrite)
    (acts : List Act) : (retireGroupEntry r st j how acts).fits s :=
  Entry.fits_of_no_range (by simp [retireGroupEntry])

theorem eraseGroupEntry_fits (s : State) (root : Secret) (c : CustodyRec) (j : JournalRec) (acts : List Act) :
    (eraseGroupEntry root c j acts).fits s :=
  Entry.fits_of_no_range fun w hw r x => by
    simp only [eraseGroupEntry, List.mem_append, List.mem_map, List.mem_cons, List.not_mem_nil,
      or_false] at hw
    rintro rfl
    simp at hw

/-! ## Fields that no bound reads -/

theorem State.custody_flows (s : State) (c : CustodyCtl) : s.Flows { s with custody := c } := .of_same rfl

theorem State.mode_flows (s : State) (m : Mode) : s.Flows { s with mode := m } := .of_same rfl

theorem State.tries_flows (s : State) (t : TriesRec) : s.Flows { s with tries := t } := .of_same rfl

theorem State.policy_flows (s : State) (p : PolicyRec) : s.Flows { s with policy := p } := .of_same rfl

theorem State.setBackoff_flows (s : State) (a : AuthId) (n : Nat) : s.Flows (s.setBackoff a n) := .of_same rfl

theorem State.setKey_flows (s : State) (r : RangeId) (k : KeyRec) : s.Flows (s.setKey r k) := .of_same rfl

theorem State.drawKey_flows (s : State) (r : RangeId) : s.Flows (s.drawKey r).2 := .of_same rfl

theorem State.drawNonce_flows (s : State) : s.Flows s.drawNonce.2 := .of_same rfl

theorem State.scrub_flows {s : State} {c : ScrubCtl} (h : s.ordersFit → ∀ j, c.job = some j → j.orders.length ≤ 4) :
    s.Flows { s with scrub := c } where
  orders := h
  notices := id; queue := id; lanes := id; holders := id; shown := id; listed := id
  store := rfl
  geometry := .inl rfl
  extents := fun _ c hr h => ⟨c, ⟨hr, .inl h⟩, rfl, rfl⟩
  told := fun _ => id

theorem State.setJob_none_flows (s : State) : s.Flows (s.setJob none) := State.scrub_flows nofun

/-! ## Rights and lanes -/

theorem State.mapRanges_flows {s : State} {f : RangeEntry → RangeEntry}
    (h : ∀ r : RangeId, s.TakesEntry r (f (s.range r))) : s.Flows { s with ranges := mapVec f s.ranges } :=
  State.ranges_flows fun r => by rw [getElem_mapVec]; exact h r

theorem State.lockAll_flows (s : State) : s.Flows s.lockAll :=
  State.mapRanges_flows fun _ => .of_live (.inr (.inl rfl)) rfl

theorem State.releaseOf_flows (s : State) (r : RangeId) : s.Flows (s.releaseOf r) := by
  unfold State.releaseOf
  split
  · exact State.updLane_flows_of_votes fun x => by rw [x.release_votes]
  · exact .refl s

theorem State.releaseAll_flows (s : State) : s.Flows s.releaseAll :=
  State.mapLanes_flows (fun x => by rw [x.release_votes]) s.lane

/-- A range's lane field alone changed. -/
theorem State.setRange_lane_flows (s : State) (r : RangeId) (n : Option Nat) :
    s.Flows (s.setRange r { s.range r with lane := n }) :=
  State.setRange_flows (.of_live (.inl ⟨rfl, rfl⟩) rfl)

theorem State.bind_flows (s : State) (r : RangeId) : s.Flows (s.bind r).1 := by
  have hbound (n : Nat) : s.Flows (s.updLane n fun l => l.bind r (s.checkCode r)) :=
    State.updLane_flows_of_votes fun x => by simp [LaneRec.bind]
  unfold State.bind
  split
  · split
    · exact .refl s
    · exact (hbound _).trans (State.setRange_lane_flows _ r _)
  · split
    · exact .refl s
    · exact .refl s
    · exact hbound _
    · exact .refl s
    · exact .refl s
    · exact .refl s

theorem State.unbound_flows (s : State) (n : Nat) (r : RangeId) :
    s.Flows ((s.updLane n fun l => { l with range := none }).setRange r { s.range r with lane := none }) :=
  .trans (State.updLane_flows_of_votes (f := fun l => { l with range := none }) fun _ => le_rfl)
    (State.setRange_flows (.of_live (.inl ⟨rfl, rfl⟩) rfl))

theorem State.unbind_flows (s : State) (n : Nat) : s.Flows (s.unbind n) := by
  unfold State.unbind
  split
  · exact s.unbound_flows n _
  · exact .refl s

theorem State.unbindRange_flows (s : State) (r : RangeId) : s.Flows (s.unbindRange r) := by
  unfold State.unbindRange
  split
  · exact s.unbound_flows _ r
  · exact .refl s

theorem State.restoreGlobal_flows (s : State) : s.Flows s.restoreGlobal := by
  unfold State.restoreGlobal
  dsimp only
  split
  · exact (s.bind_flows 0).trans (State.setRange_flows (.of_live (.inr (.inl rfl)) rfl))
  · exact s.bind_flows 0

theorem State.restoreIfUnbound_flows (s : State) : s.Flows s.restoreIfUnbound :=
  .ite (fun _ => s.restoreGlobal_flows) fun _ => .refl s

theorem State.lockRange_flows (s : State) (w : Rights) (r : RangeId) : s.Flows (s.lockRange w r) := by
  have hset : s.Flows (s.setRange r ((s.range r).without w)) := by
    refine State.setRange_flows (.of_live ?_ rfl)
    cases h : ((s.range r).without w).hasRight
    · exact .inr (.inl (RangeEntry.without_holder _ w h))
    · exact .inr (.inr rfl)
  exact .ite (fun _ => hset) fun _ => hset.trans (State.releaseOf_flows _ r)

/-- The stored fields of a live entry changed, with its extent kept or taken from the store. -/
theorem State.editRange_flows {s : State} {r : RangeId} {f : RangeRec → RangeRec}
    (h : ∀ c, (s.range r).stored = some c →
      (s.globalShown → shownIfGlobal r (some (f c))) ∧ (s.adminListed → listsAdmin (some (f c))) ∧
        (r ≠ 0 → ∃ d, s.places r d ∧ d.start = (f c).start ∧ d.length = (f c).length)) :
    s.Flows (s.editRange r f) := by
  refine State.setRange_flows
    { holder := fun hs hr => hs r hr, shown := fun hs => ?_, listed := fun hs => ?_, extent := fun hr x hx => ?_ }
  · intro hr x hx
    obtain ⟨c, hc, rfl⟩ := Option.map_eq_some_iff.1 hx
    exact (h c hc).1 hs hr _ rfl
  · intro x hx
    obtain ⟨c, hc, rfl⟩ := Option.map_eq_some_iff.1 hx
    exact (h c hc).2.1 hs _ rfl
  · obtain ⟨c, hc, rfl⟩ := Option.map_eq_some_iff.1 hx
    exact (h c hc).2.2 hr

/-- A record of the live entry's with other state or sleep policy may stand in its place. -/
theorem State.TakesEntry.of_map {s : State} {r : RangeId} {e : RangeEntry} {f : RangeRec → RangeRec}
    (hh : (s.range r).hasRight = e.hasRight ∧ (s.range r).holder = e.holder ∨ e.holder = none)
    (hs : e.stored = (s.range r).stored.map f)
    (hf : ∀ c, (f c).start = c.start ∧ (f c).length = c.length ∧ (f c).visibility = c.visibility ∧
      (f c).access = c.access) : s.TakesEntry r e where
  holder := fun h hr => by
    rcases hh with ⟨h1, h2⟩ | h1
    · rw [← h2]; exact h r (h1.trans hr)
    · exact h1
  shown := fun h hr x hx => by
    obtain ⟨c, hc, rfl⟩ := Option.map_eq_some_iff.1 (hs ▸ hx)
    exact (hf c).2.2.1.trans (shownIfGlobal_of_live h r hr c hc)
  listed := fun h x hx => by
    obtain ⟨c, hc, rfl⟩ := Option.map_eq_some_iff.1 (hs ▸ hx)
    rw [(hf c).2.2.2]
    exact (h.1 r).1 c hc
  extent := fun hr x hx => by
    obtain ⟨c, hc, rfl⟩ := Option.map_eq_some_iff.1 (hs ▸ hx)
    exact ⟨c, ⟨hr, .inl hc⟩, (hf c).1.symm, (hf c).2.1.symm⟩

theorem State.TakesEntry.of_absent {s : State} {r : RangeId} {e : RangeEntry} (hh : e.holder = none)
    (hs : e.stored = none) : s.TakesEntry r e where
  holder := fun _ _ => hh
  shown := fun _ _ x hx => by simp [hs] at hx
  listed := fun _ x hx => by simp [hs] at hx
  extent := fun _ x hx => by simp [hs] at hx

/-- A range may take the record that is stored for it. -/
theorem State.TakesEntry.of_stored {s : State} {r : RangeId} {e : RangeEntry} (hh : e.holder = none)
    (hs : e.stored = s.store.ranges[r.val]) : s.TakesEntry r e where
  holder := fun _ _ => hh
  shown := fun h hr => by subst hr; rw [hs]; exact h.2.1 rfl
  listed := fun h => by rw [hs]; exact (h.1 r).2
  extent := fun hr c hc => ⟨c, ⟨hr, .inr (hs ▸ hc)⟩, rfl, rfl⟩

theorem State.setRangeState_flows (s : State) (r : RangeId) (st : RangeState) :
    s.Flows (s.setRangeState r st) :=
  State.setRange_flows (.of_map (.inl ⟨rfl, rfl⟩) rfl fun _ => ⟨rfl, rfl, rfl, rfl⟩)

/-! ## Custody responses -/

theorem State.discardScrub_flows (s : State) : s.Flows s.discardScrub :=
  .trans (State.scrub_flows fun _ _ h => by cases h) (State.updateFinalCursor_flows _)

theorem State.withdrawHold_flows (s : State) : s.Flows s.withdrawHold := by
  unfold State.withdrawHold
  split
  · exact State.setWork_flows (Work.fits_holding s true) .drive
  · exact .refl s

theorem State.conceal_flows (s : State) : s.Flows s.conceal := by
  unfold State.conceal
  dsimp only
  refine (s.lockAll_flows.trans ((State.releaseAll_flows _).trans (State.withdrawHold_flows _))).trans ?_
  exact .of_same rfl

theorem State.storeCustody_flows (s : State) (b c : Bool) (acts : List Act) :
    s.Flows (s.storeCustody b c acts) := State.enter_flows (custodyEntry_fits s _ acts) []

theorem State.enterEraseGroup_flows (s : State) (j : JournalRec) (acts : List Act) :
    s.Flows (s.enterEraseGroup j acts) :=
  (show s.Flows s.drawSecret.2 from .of_same rfl).trans (State.enter_flows (eraseGroupEntry_fits _ _ _ j acts) [])

theorem addCustodyJob_key (c : CustodyRec) (j : JournalRec) (acts : List Act) (e : Entry) :
    (addCustodyJob c j acts e).key = e.key := by
  unfold addCustodyJob; split <;> rfl

theorem addCustodyJob_meets {P : RecordWrite → Prop} (hP : ReadsRanges P) (c : CustodyRec) (j : JournalRec)
    (acts : List Act) {e : Entry} (he : ∀ w ∈ e.writes, P w) : ∀ w ∈ (addCustodyJob c j acts e).writes, P w := by
  unfold addCustodyJob
  split
  · intro w hw
    obtain ⟨x, hx, rfl⟩ := List.mem_map.1 hw
    split
    · exact hP _ nofun
    · exact hP _ nofun
    · exact he _ hx
  · exact he

theorem State.storeScrubbing_flows (s : State) (acts : List Act) : s.Flows (s.storeScrubbing acts) := by
  unfold State.storeScrubbing
  dsimp only
  split
  · refine State.mapEntries_flows ?_ (fun e he => mem_take_one_append_map_tail he) fun P hP e he =>
      ⟨addCustodyJob_meets hP _ _ _ he, addCustodyJob_meets hP _ _ _ he⟩
    rw [nonFinal_append, nonFinal_map _ (addCustodyJob_key _ _ _), nonFinal_tail]
  · exact State.enterAll_flows (by simp [journalEntry_fits, custodyEntry_fits])

theorem State.storeResponse_flows (s : State) (old : Custody) (acts : List Act) :
    s.Flows (s.storeResponse old acts) := by
  unfold State.storeResponse
  split
  · exact s.storeCustody_flows ..
  · exact s.discardScrub_flows.trans (State.enterEraseGroup_flows ..)
  · split
    · exact s.storeScrubbing_flows acts
    · exact s.discardScrub_flows.trans (State.enterEraseGroup_flows ..)
  · exact .refl s

theorem State.respond_flows (s : State) (l : Level) (acts : List Act) : s.Flows (s.respond l acts) := by
  refine .ite (fun _ => ?_) fun _ => .refl s
  have hconcealed : s.Flows (if s.custody.state.inUse then s.conceal else s) :=
    .ite (fun _ => s.conceal_flows) fun _ => .refl s
  refine .trans ?_ (State.storeResponse_flows _ _ acts)
  refine .trans ?_ (State.raiseIf_flows _ _)
  refine .trans ?_ (.ite (fun _ => State.notify_flows ..) fun _ => .refl _)
  refine .trans ?_ (State.notifyBoth_flows ..)
  exact hconcealed.trans (.of_same (by rfl))

theorem State.take_flows (s : State) (t : Trigger) : s.Flows (s.take t) := s.respond_flows _ []

/-! ## The custody clocks -/

theorem State.warn_flows (s : State) : s.Flows s.warn :=
  ((s.custody_flows _).trans (State.notifyBoth_flows ..)).trans (State.storeCustody_flows ..)

theorem State.setClock_flows (s : State) (c : CustodyCtl) :
    s.Flows ({ s with custody := c }.updateFinalClocks) :=
  (s.custody_flows c).trans (State.updateFinalClocks_flows _)

theorem State.advanceCheckin_flows (s : State) : s.Flows s.advanceCheckin := by
  have hclock := s.setClock_flows
    { s.custody with checkin := min (s.custody.checkin + 1) s.policy.expiryPoint, checkinSecs := 0 }
  unfold State.advanceCheckin
  dsimp only
  refine .ite (fun _ => .trans ?_ (State.storeCustody_flows ..)) fun _ => ?_
  all_goals
    exact .ite (fun _ => hclock.trans (State.take_flows ..)) fun _ =>
      .ite (fun _ => hclock.trans (State.warn_flows _)) fun _ => hclock

theorem State.advanceEscalation_flows (s : State) : s.Flows s.advanceEscalation := by
  have hclock := s.setClock_flows
    { s.custody with
      escalation := min (s.custody.escalation + 1) s.policy.escalationLimit, escalationSecs := 0 }
  unfold State.advanceEscalation
  dsimp only
  refine .ite (fun _ => .trans ?_ (State.storeCustody_flows ..)) fun _ => ?_
  all_goals exact .ite (fun _ => hclock.trans (State.respond_flows ..)) fun _ => hclock

theorem State.becomeForeign_flows (s : State) : s.Flows s.becomeForeign :=
  .ite (fun _ => (s.custody_flows _).trans (State.storeCustody_flows ..)) fun _ => s.custody_flows _

theorem State.expireWindow_flows (s : State) : s.Flows s.expireWindow :=
  .ite (fun _ => (s.custody_flows _).trans (State.becomeForeign_flows _)) fun _ => s.custody_flows _

/-! ## RESTART -/

theorem State.choosePresentation_flows (s : State) : s.Flows s.choosePresentation :=
  .ite (fun _ => (s.mode_flows _).trans (State.restoreGlobal_flows _)) fun _ => s.mode_flows _

theorem State.releaseForRestart_flows (s : State) : s.Flows s.releaseForRestart :=
  State.lanes_flows (fun ⟨h4, h16, hv⟩ => ⟨by simpa, by simpa, fun x hx => by
    obtain ⟨i, hi, rfl⟩ := List.mem_mapIdx.1 hx
    split
    · exact hv _ (List.getElem_mem _)
    · rw [LaneRec.release_votes]; exact hv _ (List.getElem_mem _)⟩) s.lane

theorem State.restarted_stays (s : State) : s.Stays s.restarted := by
  refine (s.lockAll_flows.trans (State.releaseForRestart_flows _)).toStays.trans
    (State.Stays.trans ?_ (State.choosePresentation_flows _).toStays)
  refine ⟨⟨fun _ => ⟨Nat.zero_le _, Nat.zero_le _⟩, id, id, id, fun _ j hj => ?_, id, id⟩, rfl, .inl rfl,
    fun _ c hr h => ⟨c, ⟨hr, .inl h⟩, rfl, rfl⟩⟩
  obtain ⟨x, -, rfl⟩ := Option.map_eq_some_iff.1 hj
  exact Nat.zero_le _

theorem State.restartTakesEffect_stays (s : State) : s.Stays s.restartTakesEffect := by
  unfold State.restartTakesEffect
  split
  · exact s.restarted_stays.trans (.of_same (by rfl))
  · exact .refl s

theorem State.settle_stays (s : State) (p : Port) : s.Stays (s.settle p) := by
  cases p
  · exact s.restartTakesEffect_stays
  · exact .refl s

end Sys2Proof.Machine

/-!
PROOFS. Credential checks, SET_AUTHORITY, ENROL, and the Range Table's requests.
-/

namespace Sys2Proof.Machine

open Sys2Proof

/-! ## Credential checks -/

/-- A request that keeps range 0 SHOWN and takes no access list from the Administrator. -/
def CredReq.Fit (req : CredReq) : Prop := ∀ a, (Work.refunding a req).keepsGlobalShown ∧
  (Work.refunding a req).listsAdmin

theorem CredReq.Fit.charging {req : CredReq} (h : req.Fit) (s : State) (a : AuthId) (c : Secret) :
    (Work.charging a c req).fits s :=
  Work.fits_of_kind (h a).1 (by cases req <;> exact (h a).2)

/-- A request whose charge is in flight fits as well when its refund is (R76, R77). -/
theorem refunding_fits {s : State} {k : ReqKind} {tag : Byte} {a : AuthId} {c : Secret} {req : CredReq}
    (h : s.drive.inFlight = some ⟨k, tag, .charging a c req⟩) : (Work.refunding a req).fits s := by
  refine ⟨fun hs => ?_, fun hl => ?_⟩
  · exact hs.2.2.2 _ h
  · have := hl.2.2 _ h
    cases req <;> exact this

theorem State.beginCheck_flows (s : State) (k : ReqKind) (tag : Byte) (a : AuthId) (c : Secret)
    {req : CredReq} (h : req.Fit) : s.Flows (s.beginCheck k tag a c req) := by
  obtain ⟨b, -, e⟩ | ⟨-, r, -, e⟩ | ⟨-, -, e⟩ := s.beginCheck_cases k tag a c req
  · exact e ▸ s.replyTo_flows ..
  · exact e ▸ s.replyTo_flows ..
  · rw [e]
    exact .trans (State.enterAll_flows (by simp [triesEntry_fits])) (State.startWork_flows (h.charging _ a c) ..)

theorem State.beginAdmin_flows {α : Type} (s : State) (k : ReqKind) (tag : Byte) (pl : List Byte)
    (parsed : Option α) (ready : Bool) (req : α → CredReq) (h : ∀ x, parsed = some x → (req x).Fit) :
    s.Flows (s.beginAdmin k tag pl parsed ready req) := by
  unfold State.beginAdmin
  split
  · exact s.replyTo_flows ..
  · split
    · exact s.replyTo_flows ..
    · split
      · exact s.replyTo_flows ..
      · exact s.beginCheck_flows k tag 0 _ (h _ rfl)

theorem State.failCheck_flows (s : State) (a : AuthId) : s.Flows (s.failCheck a) := by
  unfold State.failCheck
  dsimp only
  refine .trans ?_ (State.answer_flows ..)
  have hlocked : s.Flows (if s.tries.lockout[a.val] then
      (s.setBackoff a (backoffOf s.tries.failures[a.val])).notify .drive .tryLockout
    else s.setBackoff a (backoffOf s.tries.failures[a.val])) :=
    .ite (fun _ => (s.setBackoff_flows a _).trans (State.notify_flows ..)) fun _ => s.setBackoff_flows a _
  exact .ite (fun _ => hlocked.trans (State.take_flows ..)) fun _ => hlocked

theorem State.compare_flows (s : State) : s.Flows s.compare := by
  unfold State.compare
  dsimp only
  split
  · rename_i k tag a c req hf
    split
    · refine .trans (.trans (s.tries_flows _) (State.enter_flows (triesEntry_fits _ _ _) [])) (State.setWork_flows ?_ _)
      obtain ⟨q, h, e⟩ := State.enter_frame []
        (triesEntry (State.refundedTries { s with tries := s.store.tries } a) [.refunded])
        { s with tries := s.store.tries }
      refine refunding_fits (k := k) (tag := tag) (c := c) ?_
      rw [e]
      exact hf
    · exact (s.tries_flows _).trans (State.failCheck_flows ..)
  · exact s.tries_flows _

theorem State.commitRequest_flows {s : State} {ws : List Entry} (h : ∀ w ∈ ws, w.fits s) :
    s.Flows (s.commitRequest ws) := by
  obtain ⟨r, -, e⟩ | ⟨-, e⟩ := s.commitRequest_cases ws
  · exact e ▸ s.answer_flows ..
  · exact e ▸ (State.enterAll_flows h).trans (State.setWork_flows (Work.fits_committing _) _)

theorem State.beginCommit_flows {s : State} {ws : List Entry} (h : ∀ w ∈ ws, w.fits s) (k : ReqKind) (p : Port)
    (tag : Byte) : s.Flows (s.beginCommit k p tag ws) := by
  unfold State.beginCommit
  split
  · exact s.replyTo_flows ..
  · exact (State.enterAll_flows h).trans (State.startWork_flows (Work.fits_committing _) ..)

/-! ## SET_AUTHORITY and ENROL -/

theorem State.goCredential_flows (s : State) (t : AuthId) (c : Secret) : s.Flows (s.goCredential t c) := by
  unfold State.goCredential
  dsimp only
  split
  · exact s.answer_flows ..
  · exact s.drawNonce_flows.trans (State.commitRequest_flows (by simp [authorityEntry_fits]))

theorem State.goLimit_flows (s : State) (t : AuthId) (limit : Nat) : s.Flows (s.goLimit t limit) := by
  unfold State.goLimit
  dsimp only
  refine .ite (fun _ => s.answer_flows ..) fun _ => .ite (fun _ => s.answer_flows ..) fun _ =>
    State.commitRequest_flows fun w hw => ?_
  rcases List.mem_append.1 hw with hw | hw
  · split at hw
    · rw [List.mem_singleton.1 hw]; exact triesEntry_fits _ _ _
    · cases hw
  · rw [List.mem_singleton.1 hw]; exact authorityEntry_fits _ _ _ _

theorem State.goEnable_flows (s : State) (t : AuthId) : s.Flows (s.goEnable t) := by
  unfold State.goEnable
  split
  · exact State.commitRequest_flows (by simp [triesEntry_fits, authorityEntry_fits])
  · exact s.answer_flows ..
  · exact s.answer_flows ..

theorem State.goDisable_flows (s : State) (t : AuthId) : s.Flows (s.goDisable t) := by
  unfold State.goDisable
  split
  · exact s.answer_flows ..
  · exact s.answer_flows ..
  · exact State.commitRequest_flows (by simp [authorityEntry_fits])

theorem State.goReinstate_flows (s : State) (t : AuthId) : s.Flows (s.goReinstate t) := by
  unfold State.goReinstate
  split
  · exact State.commitRequest_flows (by simp [triesEntry_fits])
  · exact s.answer_flows ..

theorem State.goSetAuthority_flows (s : State) (t : AuthId) (op : AuthorityOp) (c : Secret) (limit : Nat) :
    s.Flows (s.goSetAuthority t op c limit) := by
  refine .ite (fun _ => s.answer_flows ..) fun _ => ?_
  cases op with
  | credential => exact s.goCredential_flows t c
  | limit => exact s.goLimit_flows t limit
  | enable => exact s.goEnable_flows t
  | disable => exact s.goDisable_flows t
  | reinstate => exact s.goReinstate_flows t

theorem setAuthorityOwner_flows (op : AuthorityOp) (tag : Byte) (pl : List Byte) (s : State) :
    s.Flows (setAuthorityOwner op tag pl s) := by
  unfold setAuthorityOwner
  split
  · exact s.replyTo_flows ..
  · exact .ite (fun _ => s.replyTo_flows ..) fun _ => s.beginCheck_flows _ _ _ _ fun _ => ⟨trivial, trivial⟩

theorem enrolOwner_flows (tag : Byte) (pl : List Byte) (s : State) : s.Flows (enrolOwner tag pl s) := by
  refine .ite (fun _ => s.replyTo_flows ..) fun _ => ?_
  split
  · exact s.replyTo_flows ..
  · exact s.drawNonce_flows.trans
      (State.beginCommit_flows (by simp [triesEntry_fits, authorityEntry_fits, custodyEntry_fits]) ..)

theorem State.enrolled_flows (s : State) : s.Flows s.enrolled := .trans (.of_same (by rfl)) (State.answer_flows ..)

/-! ## The Range Table's requests -/

theorem resolveOwner_flows (tag : Byte) (pl : List Byte) (s : State) : s.Flows (resolveOwner tag pl s) := by
  unfold resolveOwner
  split
  · exact s.replyTo_flows ..
  · exact .ite (fun _ => s.replyTo_flows ..) fun _ => s.replyTo_flows ..

theorem geometryOwner_flows (tag : Byte) (pl : List Byte) (s : State) : s.Flows (geometryOwner tag pl s) := by
  refine .ite (fun _ => s.replyTo_flows ..) fun _ => ?_
  split
  · exact s.replyTo_flows ..
  · exact State.beginCommit_flows (by simp [identityEntry_fits]) ..

theorem State.geometryStored_flows (s : State) : s.Flows s.geometryStored :=
  (show s.Flows { s with geometry := s.store.identity.geometry } from
    ⟨⟨⟨id, id, id, id, id, id, id⟩, rfl, .inr rfl, fun _ c hr h => ⟨c, ⟨hr, .inl h⟩, rfl, rfl⟩⟩, fun _ => id⟩).trans
    (State.raiseEpoch_flows _)

theorem presentOwner_flows (tag : Byte) (s : State) : s.Flows (presentOwner tag s) := by
  unfold presentOwner
  split
  · exact (s.mode_flows _).trans ((State.raiseEpoch_flows _).trans (State.replyTo_flows ..))
  · exact s.replyTo_flows ..
  · exact s.replyTo_flows ..

/-- SET_RANGE's payload names no hidden range 0 (R11 step 2). -/
theorem parseSetRange_shown {pl : List Byte} {x : RangeId × Nat × Nat × Visibility × SleepPolicy}
    (h : parseSetRange pl = some x) : x.1 = 0 → x.2.2.2.1 = .shown := by
  unfold parseSetRange at h
  simp only [Option.bind_eq_bind, Option.bind_eq_some_iff] at h
  obtain ⟨r, -, v, -, p, -, h⟩ := h
  split at h
  · cases h
  · rename_i hn
    cases h
    intro hr
    by_contra hv
    exact hn ⟨congrArg Fin.val hr, fun hall => hv hall.2.2⟩

theorem setRangeOwner_flows (tag : Byte) (pl : List Byte) (s : State) : s.Flows (setRangeOwner tag pl s) :=
  s.beginAdmin_flows _ _ _ _ _ _ fun _ hx _ => ⟨parseSetRange_shown hx, trivial⟩

theorem State.defineRange_flows {s : State} {r : RangeId} {c : RangeRec}
    (hs : s.globalShown → shownIfGlobal r (some c)) (hl : listsAdmin (some c)) : s.Flows (s.defineRange r c) := by
  unfold State.defineRange
  split
  · exact s.answer_flows ..
  · refine (s.drawKey_flows r).trans (State.commitRequest_flows ?_)
    simp only [List.forall_mem_cons, List.not_mem_nil, false_implies, implies_true, and_true]
    exact ⟨keyEntry_fits _ _ _ _, rangeEntry_fits hs (fun _ => hl) _⟩

theorem listsAdmin_adminOnly {c : RangeRec} (h : c.access = adminOnly) : listsAdmin (some c) := by
  rintro x ⟨⟩
  rw [h]
  rfl

theorem State.goSetRange_flows {s : State} {r : RangeId} {v : Visibility}
    (h : s.globalShown → r = 0 → v = .shown) (start length : Nat) (p : SleepPolicy) :
    s.Flows (s.goSetRange r start length v p) := by
  refine .ite (fun _ => s.answer_flows ..) fun _ => .ite (fun _ => s.answer_flows ..) fun _ =>
    .ite (fun _ => s.answer_flows ..) fun _ => ?_
  split
  · exact State.defineRange_flows (fun hs hr x hx => by cases hx; exact h hs hr) (listsAdmin_adminOnly rfl)
  · rename_i c hc
    refine .ite (fun _ => s.answer_flows ..) fun _ => State.commitRequest_flows ?_
    rw [List.forall_mem_singleton]
    exact rangeEntry_fits (fun hs hr x hx => by cases hx; exact h hs hr)
      (fun hl x hx => by cases hx; exact (hl.1 r).1 c hc) _

theorem State.rangeDefined_flows (s : State) (r : RangeId) : s.Flows (s.rangeDefined r) :=
  .trans (.trans (State.setRange_flows (.of_stored rfl rfl)) (State.setKey_flows ..)) (State.raiseEpoch_flows _)

theorem State.rangeEdited_flows (s : State) (r : RangeId) : s.Flows (s.rangeEdited r) := by
  unfold State.rangeEdited
  split
  · rename_i old c hold hc
    refine .trans (State.editRange_flows fun x hx => ⟨fun hs hr y hy => ?_, fun hl y hy => ?_, fun hr => ?_⟩)
      (State.raiseIf_flows ..)
    · cases hy
      subst hr
      exact hs.2.1 rfl c hc
    · cases hy
      exact (hl.1 r).1 x hx
    · exact ⟨c, ⟨hr, .inr hc⟩, rfl, rfl⟩
  · exact .refl s

theorem dropRangeOwner_flows (tag : Byte) (pl : List Byte) (s : State) : s.Flows (dropRangeOwner tag pl s) :=
  s.beginAdmin_flows _ _ _ _ _ _ fun _ _ _ => ⟨trivial, trivial⟩

theorem State.goDropRange_flows (s : State) (r : RangeId) : s.Flows (s.goDropRange r) := by
  refine .ite (fun _ => s.answer_flows ..) fun _ => ?_
  split
  · exact State.commitRequest_flows (by simp [rangeEntry_none_fits])
  · exact .ite (fun _ => s.answer_flows ..) fun _ =>
      State.commitRequest_flows (by simp [rangeEntry_none_fits, keyEraseEntry_fits])
  · exact s.answer_flows ..

theorem State.eraseSlot_flows (s : State) (r : RangeId) : s.Flows (s.eraseSlot r) := s.setKey_flows ..

theorem State.rangeDropped_flows (s : State) (r : RangeId) : s.Flows (s.rangeDropped r) :=
  .trans (.trans (State.setRange_flows (.of_absent rfl rfl)) (State.eraseSlot_flows ..)) (State.raiseEpoch_flows _)

theorem grantOwner_flows (tag : Byte) (pl : List Byte) (s : State) : s.Flows (grantOwner tag pl s) :=
  s.beginAdmin_flows _ _ _ _ _ _ fun _ _ _ => ⟨trivial, trivial⟩

/-- REVOKE's payload does not name the Administrator (R17). -/
theorem parseRevoke_ne_zero {pl : List Byte} {x : RangeId × AuthId} (h : parseRevoke pl = some x) :
    x.2 ≠ 0 := by
  unfold parseRevoke at h
  obtain ⟨y, -, h⟩ := Option.bind_eq_some_iff.1 h
  split at h
  · cases h
  · rename_i hy
    cases h
    exact fun e => hy (congrArg Fin.val e)

theorem revokeOwner_flows (tag : Byte) (pl : List Byte) (s : State) : s.Flows (revokeOwner tag pl s) :=
  s.beginAdmin_flows _ _ _ _ _ _ fun _ hx _ => ⟨trivial, parseRevoke_ne_zero hx⟩

/-- A live record with one member set or removed, not the Administrator removed, fits. -/
theorem rangeEntry_withAccess_fits {s : State} {r : RangeId} {c : RangeRec} (hc : (s.range r).stored = some c)
    {a : AuthId} {b : Bool} (h : s.adminListed → b = true ∨ a ≠ 0) (acts : List Act) :
    (rangeEntry r (some (c.withAccess a b)) acts).fits s := by
  refine rangeEntry_fits (fun hs hr x hx => ?_) (fun hl x hx => ?_) acts
  · cases hx
    exact shownIfGlobal_of_live hs r hr c hc
  · cases hx
    simp only [RangeRec.withAccess, Vector.getElem_set]
    split
    · rename_i ha
      exact (h hl).resolve_right fun hne => hne (Fin.ext ha)
    · exact (hl.1 r).1 c hc

theorem State.goGrant_flows (s : State) (r : RangeId) (t : AuthId) : s.Flows (s.goGrant r t) := by
  refine .ite (fun _ => s.answer_flows ..) fun _ => ?_
  split
  · exact s.answer_flows ..
  · rename_i c hc
    refine .ite (fun _ => s.answer_flows ..) fun _ => State.commitRequest_flows ?_
    rw [List.forall_mem_singleton]
    exact rangeEntry_withAccess_fits hc (fun _ => .inl rfl) _

theorem State.raiseIfMoved_flows (b s : State) : s.Flows (State.raiseIfMoved b s) := s.raiseIf_flows ..

theorem State.revokeRights_flows (s : State) (r : RangeId) (t : AuthId) : s.Flows (s.revokeRights r t) :=
  .ite (fun _ => (s.lockRange_flows .both r).trans (State.raiseIfMoved_flows ..)) fun _ => .refl s

@[simp] theorem State.range_raiseIf (b : Bool) (s : State) (r : RangeId) :
    (State.raiseIf b s).range r = s.range r := by cases b <;> rfl

theorem State.stored_revokeRights (s : State) (r : RangeId) (t : AuthId) :
    ((s.revokeRights r t).range r).stored = (s.range r).stored := by
  unfold State.revokeRights
  split
  · rw [State.raiseIfMoved, State.range_raiseIf, State.range_lockRange_both, if_pos rfl, RangeEntry.locked_stored]
  · rfl

theorem State.inFlight_revokeRights (s : State) (r : RangeId) (t : AuthId) :
    (s.revokeRights r t).drive.inFlight = s.drive.inFlight := by
  unfold State.revokeRights
  split
  · obtain ⟨l, e⟩ := s.lockRange_frame .both r
    rw [e, State.raiseIfMoved]
    cases State.moved s _
    · rfl
    · exact PortState.push_inFlight _ _
  · rfl

theorem State.goRevoke_flows {s : State} {f : InFlight} {a t : AuthId} {r : RangeId}
    (hf : s.drive.inFlight = some f) (hw : f.work = .refunding a (.revoke r t)) : s.Flows (s.goRevoke r t) := by
  refine .ite (fun _ => s.answer_flows ..) fun _ => ?_
  split
  · exact s.answer_flows ..
  · rename_i c hc
    refine .ite (fun _ => s.answer_flows ..) fun _ => ?_
    split
    · exact s.answer_flows ..
    · refine (s.revokeRights_flows r t).trans (State.commitRequest_flows ?_)
      rw [List.forall_mem_singleton]
      refine rangeEntry_withAccess_fits ((s.stored_revokeRights r t).trans hc) (fun hl => .inr ?_) _
      have hlisted := hl.2.2 f ((s.inFlight_revokeRights r t).trans hf)
      rw [hw] at hlisted
      exact hlisted

theorem State.accessStored_flows (s : State) (r : RangeId) : s.Flows (s.accessStored r) := by
  unfold State.accessStored
  split
  · rename_i c hc
    refine State.editRange_flows fun x hx => ⟨fun hs hr y hy => ?_, fun hl y hy => ?_, fun hr => ?_⟩
    · cases hy
      exact shownIfGlobal_of_live hs r hr x hx
    · cases hy
      exact (hl.1 r).2 c hc
    · exact ⟨x, ⟨hr, .inl hx⟩, rfl, rfl⟩
  · exact .refl s

theorem rekeyOwner_flows (tag : Byte) (pl : List Byte) (s : State) : s.Flows (rekeyOwner tag pl s) :=
  s.beginAdmin_flows _ _ _ _ _ _ fun _ _ _ => ⟨trivial, trivial⟩

theorem State.goRekey_flows (s : State) (r : RangeId) : s.Flows (s.goRekey r) := by
  refine .ite (fun _ => s.answer_flows ..) fun _ => ?_
  split
  · exact s.answer_flows ..
  · rename_i c hc
    refine .ite (fun _ => s.answer_flows ..) fun _ => ?_
    split
    · exact s.answer_flows ..
    · refine (s.drawKey_flows r).trans (State.commitRequest_flows ?_)
      simp only [List.forall_mem_cons, List.not_mem_nil, false_implies, implies_true, and_true]
      exact ⟨keyEntry_fits _ _ _ _, rangeEntry_fits
        (fun hs hr x hx => by cases hx; exact shownIfGlobal_of_live hs r hr c hc)
        (fun hl x hx => by cases hx; exact (hl.1 r).1 c hc) _⟩

theorem State.rangeRekeyed_flows (s : State) (r : RangeId) : s.Flows (s.rangeRekeyed r) :=
  .trans (State.setRange_flows (.of_map (f := fun x => { x with state := .active }) (.inr rfl) rfl
    fun _ => ⟨rfl, rfl, rfl, rfl⟩)) (State.setKey_flows ..)

end Sys2Proof.Machine

/-!
PROOFS. The Custody Controller, unlocking and locking, scrubbing, and what waits on a completed entry.
-/

namespace Sys2Proof.Machine

open Sys2Proof

/-! ## The Custody Controller's requests -/

theorem setPolicyOwner_flows (tag : Byte) (pl : List Byte) (s : State) : s.Flows (setPolicyOwner tag pl s) :=
  s.beginAdmin_flows _ _ _ _ _ _ fun _ _ _ => ⟨trivial, trivial⟩

theorem freezePolicyOwner_flows (tag : Byte) (pl : List Byte) (s : State) :
    s.Flows (freezePolicyOwner tag pl s) :=
  s.beginAdmin_flows _ _ _ _ _ _ fun _ _ _ => ⟨trivial, trivial⟩

theorem State.goSetPolicy_flows (s : State) (v : PolicyValues) : s.Flows (s.goSetPolicy v) :=
  .ite (fun _ => s.answer_flows ..) fun _ => .ite (fun _ => s.answer_flows ..) fun _ =>
    State.commitRequest_flows (by simp [policyEntry_fits])

theorem State.goFreezePolicy_flows (s : State) : s.Flows s.goFreezePolicy :=
  .ite (fun _ => s.answer_flows ..) fun _ => .ite (fun _ => s.answer_flows ..) fun _ =>
    State.commitRequest_flows (by simp [policyEntry_fits])

theorem State.limitDeviceCount_flows (s : State) : s.Flows s.limitDeviceCount :=
  .ite (fun _ => (s.tries_flows _).trans (State.enter_flows (triesEntry_fits _ _ _) [])) fun _ => .refl s

theorem State.lowerCheckin_flows (s : State) : s.Flows s.lowerCheckin :=
  .ite (fun _ => s.setClock_flows _) fun _ => .refl s

theorem State.policyStored_flows (s : State) : s.Flows s.policyStored := by
  unfold State.policyStored
  dsimp only
  have hlimit := ((s.policy_flows s.store.policy).trans (State.lowerCheckin_flows _)).trans
    (State.limitDeviceCount_flows _)
  have hforeign : s.Flows (if ({ s with policy := s.store.policy }.lowerCheckin.custody.state.inUse &&
        decide ({ s with policy := s.store.policy }.lowerCheckin.policy.foreignLimit ≤
          { s with policy := s.store.policy }.lowerCheckin.custody.foreignCount)) = true then
      { s with policy := s.store.policy }.lowerCheckin.limitDeviceCount.take .foreignStart
    else { s with policy := s.store.policy }.lowerCheckin.limitDeviceCount) :=
    .ite (fun _ => hlimit.trans (State.take_flows ..)) fun _ => hlimit
  refine .ite (fun _ => .trans ?_ (State.take_flows ..)) fun _ => ?_
  all_goals
    exact .ite (fun _ => hforeign.trans (State.take_flows ..)) fun _ =>
      .ite (fun _ => hforeign.trans (State.warn_flows _)) fun _ => hforeign

theorem wipeOwner_flows (tag : Byte) (pl : List Byte) (s : State) : s.Flows (wipeOwner tag pl s) := by
  unfold wipeOwner
  split
  · exact s.replyTo_flows ..
  · refine .ite (fun _ => s.replyTo_flows ..) fun _ => ?_
    split
    · exact s.replyTo_flows ..
    · exact s.beginCheck_flows _ _ _ _ fun _ => ⟨trivial, trivial⟩

theorem State.goWipe_flows (s : State) (l : Level) (hidden : Bool) : s.Flows (s.goWipe l hidden) :=
  .ite (fun _ => s.answer_flows ..) fun _ =>
    .ite (fun _ => (State.setWork_flows (Work.fits_committing s) .drive).trans (State.respond_flows ..)) fun _ =>
      s.answer_flows ..

theorem State.paired_flows (s : State) (k : Secret) : s.Flows (s.paired k) := .of_same rfl

theorem pairOwner_flows (tag : Byte) (pl : List Byte) (s : State) : s.Flows (pairOwner tag pl s) := by
  unfold pairOwner
  dsimp only
  refine .ite (fun _ => s.replyTo_flows ..) fun _ => .ite (fun _ => s.replyTo_flows ..) fun _ => ?_
  split
  · exact s.replyTo_flows ..
  · refine (s.paired_flows _).trans (.trans (State.enterAll_flows fun w hw => ?_)
      (State.startWork_flows (Work.fits_committing _) ..))
    split at hw
    · rw [List.mem_singleton.1 hw]; exact pairingEntry_fits _ _ _
    · rcases List.mem_cons.1 hw with rfl | hw
      · exact pairingEntry_fits _ _ _
      · rw [List.mem_singleton.1 hw]; exact custodyEntry_fits _ _ _

theorem challengeOwner_flows (tag : Byte) (s : State) : s.Flows (challengeOwner tag s) :=
  .trans (.of_same (by rfl)) (State.replyTo_flows ..)

theorem State.consume_flows (s : State) : s.Flows s.consume := .of_same rfl

theorem State.checkedIn_flows (s : State) : s.Flows s.checkedIn :=
  .ite (fun _ => .trans (.of_same (by rfl)) (State.notifyBoth_flows ..)) fun _ => .of_same rfl

theorem checkInOwner_flows (tag : Byte) (pl : List Byte) (s : State) : s.Flows (checkInOwner tag pl s) := by
  unfold checkInOwner
  dsimp only
  split
  · exact s.replyTo_flows ..
  · refine .ite (fun _ => s.replyTo_flows ..) fun _ => ?_
    split
    · exact s.replyTo_flows ..
    · have hdenied := s.consume_flows.trans (State.replyTo_flows _ .checkIn .platform tag (.code .denied))
      refine .ite (fun _ => .ite (fun _ => hdenied.trans (State.becomeForeign_flows _)) fun _ => hdenied) fun _ =>
        .ite (fun _ => .trans (.of_same (by rfl)) (State.replyTo_flows ..)) fun _ => ?_
      split
      · exact s.replyTo_flows ..
      · exact s.checkedIn_flows.trans (.trans (State.enterAll_flows (by simp [custodyEntry_fits]))
          (State.startWork_flows (Work.fits_committing _) ..))

theorem wipeOrderOwner_flows (tag : Byte) (pl : List Byte) (s : State) : s.Flows (wipeOrderOwner tag pl s) := by
  unfold wipeOrderOwner
  dsimp only
  split
  · exact s.replyTo_flows ..
  · split
    · exact s.replyTo_flows ..
    · split
      · exact s.replyTo_flows ..
      · exact .ite (fun _ => s.replyTo_flows ..) fun _ =>
          .ite (fun _ => s.consume_flows.trans (State.replyTo_flows ..)) fun _ =>
            .ite (fun _ => .trans (s.consume_flows.trans (State.startWork_flows (Work.fits_committing _) ..))
              (State.respond_flows ..)) fun _ => s.consume_flows.trans (State.replyTo_flows ..)

/-! ## REVERT -/

theorem rangeEntry_global_fits (s : State) (acts : List Act) : (rangeEntry 0 (some .global) acts).fits s :=
  rangeEntry_fits (fun _ _ x hx => by cases hx; rfl) (fun _ => listsAdmin_adminOnly rfl) acts

theorem revertOwner_flows (tag : Byte) (s : State) : s.Flows (revertOwner tag s) :=
  .ite (fun _ => s.replyTo_flows ..) fun _ => .ite (fun _ => s.replyTo_flows ..) fun _ =>
    .ite (fun _ => s.replyTo_flows ..) fun _ => .trans (State.enter_flows (policyEntry_fits _ _ _) [])
      (State.startWork_flows (Work.fits_committing _) ..)

theorem State.revertEnter_flows (s : State) (step : RevertStep) : s.Flows (s.revertEnter step) := by
  cases step with
  | policy => exact State.enter_flows (policyEntry_fits _ _ _) []
  | pairing => exact State.enter_flows (pairingEntry_fits _ _ _) []
  | absent r => exact State.enter_flows (rangeEntry_none_fits _ _ _) []
  | key => exact (s.drawKey_flows 0).trans (State.enter_flows (keyEntry_fits _ _ _ _) [])
  | range => exact State.enter_flows (rangeEntry_global_fits _ _) []
  | custody => exact State.enter_flows (custodyEntry_fits _ _ _) []

theorem State.makeAbsent_flows (s : State) (r : RangeId) : s.Flows (s.makeAbsent r) :=
  (s.unbindRange_flows r).trans (State.setRange_flows (.of_absent rfl rfl))

theorem State.unpaired_flows (s : State) : s.Flows s.unpaired := .of_same rfl

theorem State.takeGlobal_flows (s : State) : s.Flows s.takeGlobal := by
  unfold State.takeGlobal
  split
  · rename_i c st hc hst
    refine State.editRange_flows fun x hx => ⟨fun hs hr y hy => ?_, fun hl y hy => ?_, fun hr => absurd rfl hr⟩
    · cases hy
      exact hs.2.1 rfl c hc
    · cases hy
      exact (hl.1 0).2 c hc
  · exact .refl s

theorem State.revertStop_flows (s : State) (last : RevertStep) (r : Result) : s.Flows (s.revertStop last r) := by
  unfold State.revertStop
  dsimp only
  refine .trans ?_ (State.answer_flows ..)
  have hpairing : s.Flows (if last = .policy then { s with policy := s.store.policy }
      else { s with policy := s.store.policy }.unpaired) :=
    .ite (fun _ => s.policy_flows _) fun _ => (s.policy_flows _).trans (State.unpaired_flows _)
  generalize (if last = .policy then { s with policy := s.store.policy }
      else { s with policy := s.store.policy }.unpaired) = s2 at hpairing ⊢
  have hgone := (hpairing.trans (.foldl State.makeAbsent_flows s2.committedAbsent s2)).trans
    (State.raiseIf_flows (!s2.committedAbsent.isEmpty) _)
  generalize State.raiseIf (!s2.committedAbsent.isEmpty) (s2.committedAbsent.foldl State.makeAbsent s2) = s4
    at hgone ⊢
  have hslot := hgone.trans (s4.setKey_flows 0 s.store.keys[0].erased)
  have hglobal := hslot.trans (State.takeGlobal_flows _)
  have hrange (x : State) :
      x.Flows (x.enterAll [keyEraseEntry 0 [], rangeEntry 0 (x.range 0).stored []]) := by
    refine State.enterAll_flows ?_
    simp only [List.forall_mem_cons, List.not_mem_nil, false_implies, implies_true, and_true]
    exact ⟨keyEraseEntry_fits _ _ _, rangeEntry_live_fits _ _ _⟩
  split
  · exact hslot.trans (State.enterAll_flows (by simp [keyEraseEntry_fits]))
  · exact hglobal.trans (hrange _)
  · exact hglobal.trans (hrange _)
  · exact hgone

theorem State.revertFinish_flows (s : State) : s.Flows s.revertFinish := by
  unfold State.revertFinish
  dsimp only
  have hgone := ((s.policy_flows s.store.policy).trans (State.unpaired_flows _)).trans
    (.foldl State.makeAbsent_flows explicitRanges _)
  generalize explicitRanges.foldl State.makeAbsent { s with policy := s.store.policy }.unpaired = s2 at hgone ⊢
  have hglobal : s2.TakesEntry 0 ⟨some .global, false, false, none, (s2.range 0).lane⟩ :=
    { holder := fun _ _ => rfl
      shown := fun _ _ x hx => by cases hx; rfl
      listed := fun _ => listsAdmin_adminOnly rfl
      extent := fun hr => absurd rfl hr }
  have hkey := (hgone.trans (State.setRange_flows hglobal)).trans (State.setKey_flows _ 0 s.store.keys[0])
  generalize (s2.setRange 0 ⟨some .global, false, false, none, (s2.range 0).lane⟩).setKey 0 s.store.keys[0] = s3
    at hkey ⊢
  refine .trans (.trans (.trans (.trans ?_ (State.notifyBoth_flows ..)) (State.raiseEpoch_flows _))
    (State.restoreGlobal_flows _)) (State.answer_flows ..)
  exact hkey.trans (.of_same (by rfl))

theorem State.reverted_flows (s : State) (step : RevertStep) : s.Flows (s.reverted step) := by
  unfold State.reverted
  dsimp only
  have hlimit : s.Flows (if step = .policy then s.limitDeviceCount else s) :=
    .ite (fun _ => s.limitDeviceCount_flows) fun _ => .refl s
  generalize (if step = .policy then s.limitDeviceCount else s) = s1 at hlimit ⊢
  refine .ite (fun _ => hlimit.trans (State.revertStop_flows ..)) fun _ => hlimit.trans ?_
  split
  · exact s1.revertFinish_flows
  · exact .ite (fun _ => s1.revertStop_flows ..) fun _ => s1.revertEnter_flows _

/-! ## Unlocking and locking -/

theorem unlockOwner_flows (tag : Byte) (pl : List Byte) (s : State) : s.Flows (unlockOwner tag pl s) := by
  unfold unlockOwner
  split
  · exact s.replyTo_flows ..
  · exact s.beginCheck_flows _ _ _ _ fun _ => ⟨trivial, trivial⟩

theorem RangeEntry.grantTo_hasRight (e : RangeEntry) (a : AuthId) (w : Rights) :
    (e.grantTo a w).hasRight = true := by
  rcases w.names_a_right with h | h <;> simp [RangeEntry.grantTo, RangeEntry.hasRight, h]

theorem State.grantOne_flows (s : State) (a : AuthId) (w : Rights) (r : RangeId) :
    s.Flows (s.grantOne a w r).1 := by
  unfold State.grantOne
  split
  · exact .refl s
  · split
    · exact .refl s
    · split
      · exact .refl s
      · dsimp only
        split
        · exact .refl s
        · exact (s.bind_flows r).trans
            (State.setRange_flows (.of_live (.inr (.inr (RangeEntry.grantTo_hasRight _ a w))) rfl))

theorem State.grantAll_flows (s : State) (a : AuthId) (w : Rights) (l : List RangeId) :
    s.Flows (s.grantAll a w l).1 := by
  induction l generalizing s with
  | nil => exact .refl s
  | cons r l ih => exact (s.grantOne_flows a w r).trans (ih _)

theorem State.recover_flows (s : State) : s.Flows s.recover :=
  .trans (.trans (.trans (.of_same (by rfl)) (State.storeCustody_flows ..)) (State.notifyBoth_flows ..)) (State.raiseEpoch_flows _)

theorem State.goUnlock_flows (s : State) (a : AuthId) (l : List RangeId) (w : Rights) :
    s.Flows (s.goUnlock a l w) :=
  .ite (fun _ => .trans ((s.grantAll_flows a w l).trans (State.raiseIfMoved_flows ..)) (State.answer_flows ..))
    fun _ => .ite (fun _ => .trans (s.recover_flows.trans (State.grantAll_flows ..)) (State.answer_flows ..))
      fun _ => s.answer_flows ..

theorem State.lockOne_flows (w : Rights) (s : State) (r : RangeId) : s.Flows (State.lockOne w s r) :=
  .ite (fun _ => s.lockRange_flows w r) fun _ => .refl s

theorem lockOwner_flows (tag : Byte) (pl : List Byte) (s : State) : s.Flows (lockOwner tag pl s) := by
  unfold lockOwner
  split
  · exact s.replyTo_flows ..
  · exact .trans ((State.Flows.foldl (State.lockOne_flows _) _ s).trans (State.raiseIfMoved_flows ..))
      (State.replyTo_flows ..)

theorem standbyOwner_flows (tag : Byte) (s : State) : s.Flows (standbyOwner tag s) :=
  .trans ((State.Flows.foldl (fun x r => x.lockRange_flows .both r) _ s).trans (State.raiseIfMoved_flows ..))
    (State.replyTo_flows ..)

/-! ## Scrubbing -/

theorem State.nextJob_flows (s : State) : s.Flows s.nextJob := by
  unfold State.nextJob
  split
  · exact State.scrub_flows fun _ j hj => by cases hj; exact Nat.zero_le _
  · exact .refl s

theorem retireOwner_flows (tag : Byte) (pl : List Byte) (s : State) : s.Flows (retireOwner tag pl s) :=
  s.beginAdmin_flows _ _ _ _ _ _ fun _ _ _ => ⟨trivial, trivial⟩

theorem State.goRetire_flows (s : State) (r : RangeId) : s.Flows (s.goRetire r) := by
  refine .ite (fun _ => s.answer_flows ..) fun _ => .ite (fun _ => s.answer_flows ..) fun _ => ?_
  split
  · exact s.answer_flows ..
  · exact .trans ((s.lockRange_flows .both r).trans (State.raiseIfMoved_flows ..))
      (State.commitRequest_flows (by simp [retireGroupEntry_fits]))

theorem State.rangeRetired_flows (s : State) (r : RangeId) : s.Flows (s.rangeRetired r) := by
  unfold State.rangeRetired
  dsimp only
  have hvoid := ((s.eraseSlot_flows r).trans (State.setRangeState_flows _ r .void)).trans
    (State.unbindRange_flows _ r)
  refine .trans (.ite (fun _ => hvoid) fun _ => ?_) (State.answer_flows ..)
  refine .trans ?_ (State.nextJob_flows _)
  exact hvoid.trans (State.scrub_flows fun h => h)

theorem State.keysErased_flows (s : State) : s.Flows s.keysErased := by
  have hranges : s.Flows { s with ranges := mapVec RangeEntry.voided s.ranges } :=
    State.mapRanges_flows fun r =>
      .of_map (f := fun c => { c with state := .void }) (.inl ⟨rfl, rfl⟩) rfl fun _ => ⟨rfl, rfl, rfl, rfl⟩
  have hlanes := hranges.trans
    (State.mapLanes_flows (f := fun l => { l with range := none }) (fun _ => le_rfl) s.lane)
  exact hlanes.trans (.of_same (by rfl))

theorem State.custodyJobStored_flows (s : State) : s.Flows s.custodyJobStored :=
  State.scrub_flows fun _ j hj => by cases hj; exact Nat.zero_le _

theorem scrubTakeOwner_flows (tag : Byte) (s : State) : s.Flows (scrubTakeOwner tag s) := by
  unfold scrubTakeOwner
  split
  · exact s.replyTo_flows ..
  · rename_i j hj
    split
    · exact s.replyTo_flows ..
    · rename_i hreason
      refine .trans (State.scrub_flows fun _ x hx => ?_) (State.replyTo_flows ..)
      cases hx
      have hroom : j.orders.length < 4 := by
        by_contra h
        have hfull : Config.orderWindow ≤ j.orders.length := Nat.le_of_not_lt h
        unfold State.takeReason at hreason
        simp only [hfull, if_true] at hreason
        split at hreason
        · cases hreason
        · split at hreason <;> cases hreason
      simp
      omega

theorem removeDone_length (l : List Order) (c n : Nat) (cp : Option Nat) :
    (removeDone l c n cp).orders.length ≤ l.length := by
  induction l generalizing c n cp with
  | nil => exact le_rfl
  | cons o l ih =>
    unfold removeDone
    split
    · dsimp only
      split <;> exact (ih ..).trans (Nat.le_succ _)
    · exact le_rfl

theorem State.completeRetire_flows (s : State) (r : RangeId) : s.Flows (s.completeRetire r) :=
  .trans (.trans (.trans ((s.setRangeState_flows r .blank).trans (State.notify_flows ..))
    (State.setJob_none_flows _)) (State.nextJob_flows _)) (State.enter_flows (retireGroupEntry_fits _ _ _ _ _ _) [])

theorem State.spendEnter_flows (s : State) (step : SpendStep) : s.Flows (s.spendEnter step) := by
  cases step with
  | journal => exact State.enter_flows (journalEntry_fits _ _ _ _) []
  | custody => exact State.enter_flows (custodyEntry_fits _ _ _) []
  | range r => exact State.enter_flows (rangeEntry_live_fits _ _ _) []

theorem State.spent_flows (s : State) (step : SpendStep) : s.Flows (s.spent step) := by
  unfold State.spent
  split
  · exact s.spendEnter_flows _
  · exact .refl s

theorem State.markSpent_flows (s : State) : s.Flows s.markSpent :=
  .trans (s.setJob_none_flows.trans (.foldl (fun x r => x.setRangeState_flows r .blank) _ _)) (.of_same (by rfl))

theorem State.spendAll_flows (s : State) : s.Flows s.spendAll := by
  refine s.markSpent_flows.trans (State.enterAll_flows fun w hw => ?_)
  rcases List.mem_cons.1 hw with rfl | hw
  · exact journalEntry_fits _ _ _ _
  · rcases List.mem_cons.1 hw with rfl | hw
    · exact custodyEntry_fits _ _ _
    · obtain ⟨r, -, rfl⟩ := List.mem_map.1 hw
      exact rangeEntry_live_fits _ _ _

theorem State.completeJob_flows (s : State) (j : JournalJob) : s.Flows (s.completeJob j) := by
  unfold State.completeJob
  split
  · exact s.completeRetire_flows _
  · exact s.setJob_none_flows
  · exact (s.markSpent_flows.trans (State.spendEnter_flows ..)).trans (State.notifyBoth_flows ..)

theorem State.checkpoint_flows (s : State) (c : Nat) : s.Flows (s.checkpoint c) :=
  State.enter_flows (journalEntry_fits _ _ _ _) []

theorem scrubDoneOwner_flows (tag : Byte) (pl : List Byte) (s : State) : s.Flows (scrubDoneOwner tag pl s) := by
  unfold scrubDoneOwner
  dsimp only
  split
  · exact s.replyTo_flows ..
  · rename_i j hj
    split
    · exact s.replyTo_flows ..
    · refine .ite (fun _ => s.replyTo_flows ..) fun _ => ?_
      refine .trans (.trans ?_ (State.updateFinalCursor_flows _)) (State.replyTo_flows ..)
      have hjob (o : List Order) (ho : o.length ≤ j.orders.length) (x : JournalJob) (n m : Nat) :
          s.Flows (s.setJob (some ⟨x, m, o, n⟩)) :=
        State.scrub_flows fun h y hy => by cases hy; exact ho.trans (h j hj)
      have hremoved : ∀ id c n, (removeDone (markDone id j.orders) c n none).orders.length ≤ j.orders.length :=
        fun id c n => (removeDone_length ..).trans (by simp [markDone])
      refine .ite (fun _ => (hjob _ (hremoved ..) ..).trans (State.completeJob_flows ..)) fun _ => ?_
      split
      · exact (hjob _ (hremoved ..) ..).trans (State.checkpoint_flows ..)
      · exact hjob _ (hremoved ..) ..

theorem pauseOwner_flows (k : ReqKind) (b : Bool) (tag : Byte) (s : State) : s.Flows (pauseOwner k b tag s) := by
  unfold pauseOwner
  split
  · split
    · exact .ite (fun _ => s.replyTo_flows ..) fun _ => State.beginCommit_flows (by simp [journalEntry_fits]) ..
    · exact s.replyTo_flows ..
  · exact s.replyTo_flows ..

theorem State.pauseStored_flows (s : State) (r : RangeId) (b : Bool) : s.Flows (s.pauseStored r b) := by
  unfold State.pauseStored
  split
  · rename_i j hj
    refine .ite (fun _ => .trans (State.scrub_flows fun h x hx => ?_) (State.answer_flows ..)) fun _ =>
      s.answer_flows ..
    cases hx
    exact h j hj
  · exact s.answer_flows ..

/-! ## Completions -/

theorem State.afterCheck_flows {s : State} {f : InFlight} {a : AuthId} {req : CredReq}
    (hf : s.drive.inFlight = some f) (hw : f.work = .refunding a req) : s.Flows (s.afterCheck a req) := by
  cases req with
  | unlock l w => exact s.goUnlock_flows a l w
  | setRange r start length v p =>
    refine State.goSetRange_flows (fun hs => ?_) start length p
    have hshown := hs.2.2.2 f hf
    rw [hw] at hshown
    exact hshown
  | dropRange r => exact s.goDropRange_flows r
  | grant r t => exact s.goGrant_flows r t
  | revoke r t => exact State.goRevoke_flows hf hw
  | retire r => exact s.goRetire_flows r
  | rekey r => exact s.goRekey_flows r
  | setAuthority t op c l => exact s.goSetAuthority_flows t op c l
  | setPolicy v => exact s.goSetPolicy_flows v
  | freezePolicy => exact s.goFreezePolicy_flows
  | wipe l h => exact s.goWipe_flows l h

theorem State.refunded_flows (s : State) : s.Flows s.refunded := by
  unfold State.refunded
  split
  · rename_i hf
    exact ((s.tries_flows _).trans (State.setBackoff_flows ..)).trans (State.afterCheck_flows hf rfl)
  · exact s.tries_flows _

theorem State.limitStored_flows (s : State) (t : AuthId) : s.Flows (s.limitStored t) :=
  .ite (fun _ => (s.tries_flows _).trans (State.notify_flows ..)) fun _ => s.tries_flows _

theorem State.foreignTest_flows (s : State) : s.Flows s.foreignTest :=
  .ite (fun _ => s.take_flows _) fun _ => .refl s

/-- What waits on an entry flows, whatever it is (R155). -/
theorem State.act_flows (s : State) (a : Act) : s.Flows (s.act a) := by
  cases a with
  | charged => exact s.compare_flows
  | refunded => exact s.refunded_flows
  | geometryStored => exact s.geometryStored_flows
  | authorityStored i => exact .of_same rfl
  | triesStored => exact s.tries_flows _
  | limitStored i => exact s.limitStored_flows i
  | backoffCleared i => exact s.setBackoff_flows i 0
  | enrolled => exact s.enrolled_flows
  | rangeDefined r => exact s.rangeDefined_flows r
  | rangeEdited r => exact s.rangeEdited_flows r
  | rangeDropped r => exact s.rangeDropped_flows r
  | accessStored r => exact s.accessStored_flows r
  | rangeRekeyed r => exact s.rangeRekeyed_flows r
  | rangeRetired r => exact s.rangeRetired_flows r
  | policyStored => exact s.policyStored_flows
  | foreignTest => exact s.foreignTest_flows
  | keysErased => exact s.keysErased_flows
  | custodyJobStored => exact s.custodyJobStored_flows
  | pauseStored r b => exact s.pauseStored_flows r b
  | reverted step => exact s.reverted_flows step
  | spending step => exact s.spent_flows step
  | answer p a => exact s.answer_flows p _

end Sys2Proof.Machine

/-!
PROOFS. The Lane Controller, the ports' own requests, and taken frames.
-/

namespace Sys2Proof.Machine

open Sys2Proof

/-! ## The Lane Controller -/

theorem State.setLink_flows (s : State) (l : LinkState) : s.Flows (s.setLink l) := .of_same rfl

theorem State.settleHold_flows (s : State) : s.Flows s.settleHold := by
  unfold State.settleHold
  split
  · exact .ite (fun _ => s.answer_flows ..) fun _ => (s.setLink_flows _).trans (State.answer_flows ..)
  · exact .refl s

theorem State.finishSlot_flows (s : State) : s.Flows s.finishSlot := .trans (.of_same (by rfl)) (State.settleHold_flows _)

theorem State.startSlot_flows (s : State) : s.Flows s.startSlot := by
  refine .ite (fun _ => ?_) fun _ => .refl s
  split
  · split
    · exact .of_same rfl
    · exact .refl s
  · exact .refl s

theorem State.setRange_locked_flows (s : State) (r : RangeId) : s.Flows (s.setRange r (s.range r).locked) :=
  State.setRange_flows (.of_live (.inr (.inl rfl)) rfl)

theorem State.faultLane_flows (s : State) (n : Nat) (l : LaneRec) : s.Flows (s.faultLane n l) := by
  have hlane : s.Flows (s.updLane n fun x => { x with state := .fault, plan := .clear }) :=
    State.updLane_flows_of_votes fun _ => le_rfl
  unfold State.faultLane
  dsimp only
  split
  · exact hlane.trans (State.notify_flows ..)
  · refine .trans (.trans (.trans ?_ (State.notify_flows ..)) (State.notify_flows ..)) (State.raiseIf_flows ..)
    exact hlane.trans (State.setRange_locked_flows _ _)

/-- The slot in progress is a lane's, with that lane's record. -/
theorem State.laneAt_of_slotInProgress {s : State} {n : Nat} {l : LaneRec} {sent : Sent}
    (h : s.slotInProgress = some (n, l, sent)) : s.laneAt n = some l := by
  unfold State.slotInProgress at h
  split at h
  · split at h
    · obtain ⟨x, hx, e⟩ := Option.map_eq_some_iff.1 h
      cases e
      exact hx
    · cases h
  · cases h

/-- A lane's record replaced by one with its votes, or none. -/
theorem State.updLane_const_flows {s : State} {n : Nat} {l x : LaneRec} (h : s.laneAt n = some l)
    (hx : l.votes.length ≤ 3 → x.votes.length ≤ 3) : s.Flows (s.updLane n fun _ => x) :=
  State.updLane_flows fun _ _ hv => hx (hv l (List.mem_of_getElem? h))

theorem State.loadAnswered_flows {s : State} {n : Nat} {l : LaneRec} (h : s.laneAt n = some l) (a : LoadAnswer) :
    s.Flows (s.loadAnswered n l a) := by
  refine .ite (fun _ => ?_) fun _ => .ite (fun _ => ?_) fun _ =>
    .ite (fun _ => .trans ?_ (State.faultLane_flows ..)) fun _ => ?_
  · exact State.updLane_const_flows h id
  · exact State.updLane_const_flows h fun _ => Nat.zero_le _
  · exact State.updLane_const_flows h id
  · exact State.updLane_const_flows h id

theorem State.loadSlotEnd_flows (s : State) (a : LoadAnswer) : s.Flows (s.loadSlotEnd a) := by
  unfold State.loadSlotEnd
  split
  · rename_i h
    exact (State.loadAnswered_flows (State.laneAt_of_slotInProgress h) a).trans (State.finishSlot_flows _)
  · exact .refl s

theorem State.clearAnswered_flows (s : State) (n : Nat) (l : LaneRec) (a : HeldAnswer) :
    s.Flows (s.clearAnswered n l a) := by
  cases a with
  | held c => exact State.updLane_flows_of_votes fun _ => le_rfl
  | empty =>
    exact .ite (fun _ => State.updLane_flows_of_votes fun _ => le_rfl) fun _ =>
      .trans ((s.unbind_flows n).trans (State.updLane_flows_of_votes fun _ => Nat.zero_le _))
        (State.restoreIfUnbound_flows _)

theorem State.clearSlotEnd_flows (s : State) (a : HeldAnswer) : s.Flows (s.clearSlotEnd a) := by
  unfold State.clearSlotEnd
  split
  · exact (s.clearAnswered_flows ..).trans (State.finishSlot_flows _)
  · exact .refl s

theorem addVote_length (votes : List Vote) (v : Vote) : (addVote votes v).length ≤ 3 := by
  simp [addVote]
  omega

theorem State.probeAnswered_flows {s : State} {n : Nat} {l : LaneRec} (h : s.laneAt n = some l)
    (believed : Option Code) (a : HeldAnswer) : s.Flows (s.probeAnswered n l believed a) := by
  unfold State.probeAnswered
  split
  · have hvote (o : SlotOutcome) (v : Vote) :
        s.Flows (s.updLane n fun _ => { l with votes := addVote l.votes v, last := some o }) :=
      State.updLane_const_flows h fun _ => addVote_length ..
    exact .ite (fun _ => (hvote _ _).trans (State.faultLane_flows ..)) fun _ => hvote _ _
  · cases a <;> exact State.updLane_flows_of_votes fun _ => le_rfl
  · exact State.updLane_flows_of_votes fun _ => le_rfl

theorem State.probeSlotEnd_flows (s : State) (a : HeldAnswer) : s.Flows (s.probeSlotEnd a) := by
  unfold State.probeSlotEnd
  split
  · rename_i h
    exact (State.probeAnswered_flows (State.laneAt_of_slotInProgress h) _ a).trans (State.finishSlot_flows _)
  · exact .refl s

theorem State.loseLane_flows (s : State) (r : RangeId) : s.Flows (s.loseLane r) :=
  .ite (fun _ => .trans ((s.unbindRange_flows r).trans (State.setRange_locked_flows ..)) (State.notify_flows ..))
    fun _ => s.unbindRange_flows r

theorem State.lanes_length_unbindRange (s : State) (r : RangeId) :
    (s.unbindRange r).lane.lanes.length = s.lane.lanes.length := by
  unfold State.unbindRange
  split
  · simp [State.updLane]
  · rfl

theorem State.lanes_length_loseLane (s : State) (r : RangeId) :
    (s.loseLane r).lane.lanes.length = s.lane.lanes.length := by
  unfold State.loseLane
  dsimp only
  split
  · simp [s.lanes_length_unbindRange r]
  · exact s.lanes_length_unbindRange r

theorem State.lanes_length_loseLanes (s : State) (l : List RangeId) :
    (l.foldl State.loseLane s).lane.lanes.length = s.lane.lanes.length := by
  induction l generalizing s with
  | nil => rfl
  | cons r l ih => rw [List.foldl_cons, ih, s.lanes_length_loseLane]

theorem State.adoptCount_flows (s : State) (count : Nat) : s.Flows (s.adoptCount count) := by
  unfold State.adoptCount
  dsimp only
  split
  · exact .refl s
  · rename_i hcount
    split
    · rename_i hlt
      have hlost := State.Flows.foldl State.loseLane_flows (s.rangesOn fun n => decide (count ≤ n)) s
      refine hlost.trans (State.lanes_flows (fun ⟨h4, h16, hv⟩ => ⟨?_, ?_, fun x hx => ?_⟩) _)
      · have hlength := s.lanes_length_loseLanes (s.rangesOn fun n => decide (count ≤ n))
        simp only [List.length_take]
        omega
      · simp; omega
      · exact hv x (List.mem_of_mem_take hx)
    · refine State.lanes_flows (fun ⟨h4, h16, hv⟩ => ⟨?_, ?_, fun x hx => ?_⟩) _
      · simp; omega
      · simp; omega
      · rcases List.mem_append.1 hx with hx | hx
        · exact hv x hx
        · rw [List.eq_of_mem_replicate hx]; exact Nat.zero_le _

theorem State.linkUp_flows (s : State) : s.Flows s.linkUp := by
  unfold State.linkUp
  dsimp only
  refine .ite (fun _ => .trans (.trans ?_ (State.notify_flows ..)) (State.restoreGlobal_flows _)) fun _ =>
    .trans ?_ (State.notify_flows ..)
  all_goals
    exact State.mapLanes_flows (fun x => by split <;> exact le_rfl) ⟨[], .up, 0, .lane 0, none⟩

theorem State.turnSlotEnd_flows (s : State) (count : Nat) : s.Flows (s.turnSlotEnd count) := by
  unfold State.turnSlotEnd
  split
  · exact .trans ((s.adoptCount_flows count).trans (State.linkUp_flows _)) (State.raiseIf_flows ..)
  · exact .trans (.trans (.trans ((s.adoptCount_flows count).trans (.of_same (by rfl))) (State.restoreIfUnbound_flows _))
      (State.raiseIf_flows ..)) (State.finishSlot_flows _)
  · exact .refl s

theorem State.linkDown_flows (s : State) : s.Flows s.linkDown := by
  unfold State.linkDown
  dsimp only
  have hlost := State.Flows.foldl State.loseLane_flows (s.rangesOn fun _ => true) s
  generalize (s.rangesOn fun _ => true).foldl State.loseLane s = s1 at hlost ⊢
  have hdown : s.Flows { s1 with
      lane := { s1.lane with lanes := s1.lane.lanes.map LaneRec.lost, link := .down, silence := 0 } } :=
    hlost.trans (State.mapLanes_flows (fun _ => Nat.zero_le _) { s1.lane with link := .down, silence := 0 })
  refine .ite (fun _ => .trans ?_ (State.restoreIfUnbound_flows _)) fun _ => ?_
  all_goals exact .trans (hdown.trans (State.notify_flows ..)) (State.raiseIf_flows ..)

theorem State.turnSilent_flows (s : State) : s.Flows s.turnSilent :=
  .ite (fun _ => .trans (.of_same (by rfl)) (State.linkDown_flows _)) fun _ => .of_same rfl

theorem State.slotSilent_flows (s : State) : s.Flows s.slotSilent := by
  unfold State.slotSilent
  split
  · exact s.turnSilent_flows.trans (State.finishSlot_flows _)
  · split
    · refine .trans ?_ (State.finishSlot_flows _)
      exact State.updLane_flows_of_votes fun _ => le_rfl
    · exact .refl s
  · exact .refl s

theorem laneHoldOwner_flows (tag : Byte) (s : State) : s.Flows (laneHoldOwner tag s) := by
  refine .ite (fun _ => s.replyTo_flows ..) fun _ => ?_
  split
  · exact s.replyTo_flows ..
  · exact s.replyTo_flows ..
  · exact State.startWork_flows (Work.fits_holding s false) ..

theorem laneReleaseOwner_flows (tag : Byte) (s : State) : s.Flows (laneReleaseOwner tag s) := by
  refine .trans ?_ (State.replyTo_flows ..)
  exact .ite (fun _ => s.setLink_flows _) fun _ => .refl s

/-! ## The ports' own requests -/

theorem statusOwner_flows (p : Port) (tag : Byte) (pl : List Byte) (s : State) :
    s.Flows (statusOwner p tag pl s) := by
  unfold statusOwner
  split
  · exact s.replyTo_flows ..
  · exact .ite (fun _ => (s.replyTo_flows ..).trans (.of_same (by rfl))) fun _ => s.replyTo_flows ..

theorem fetchOwner_stays (p : Port) (tag : Byte) (s : State) : s.Stays (fetchOwner p tag s) :=
  .trans (State.setPort_stays (by simp) fun f hf => .inr (by simp only at hf; rw [hf]; rfl))
    (State.replyTo_flows ..).toStays

theorem restartOwner_flows (tag : Byte) (s : State) : s.Flows (restartOwner tag s) := .of_same rfl

theorem PortState.readOut_inFlight (q : PortState) (n : Nat) :
    (q.readOut n).inFlight = q.inFlight ∨ (q.readOut n).inFlight = none := by
  unfold PortState.readOut
  dsimp only
  split
  · exact .inl rfl
  · split
    · simp only [PortState.takeOut]
      split
      · exact .inr rfl
      · exact .inl rfl
    · exact .inl rfl

theorem PortState.readOut_notices (q : PortState) (n : Nat) : (q.readOut n).notices = q.notices := by
  unfold PortState.readOut
  dsimp only
  split
  · rfl
  · split <;> rfl

theorem PortState.readOut_overflow (q : PortState) (n : Nat) : (q.readOut n).overflow = q.overflow := by
  unfold PortState.readOut
  dsimp only
  split
  · rfl
  · split <;> rfl

theorem State.readOut_flows (s : State) (p : Port) (n : Nat) : s.Flows (s.setPort p ((s.port p).readOut n)) :=
  State.setPort_flows ((s.port p).readOut_notices n) ((s.port p).readOut_overflow n) fun f hf => .inr (by
    rcases (s.port p).readOut_inFlight n with e | e
    · rw [← e, hf]; rfl
    · rw [e] at hf; cases hf)

theorem State.supplyRecovered_flows (s : State) : s.Flows s.supplyRecovered :=
  .ite (fun _ => (s.notify_flows ..).trans (State.clearFinalExact_flows _)) fun _ =>
    .ite (fun _ => (s.notify_flows ..).trans (State.storeCustody_flows ..)) fun _ => s.notify_flows ..

/-! ## Frames and events -/

theorem takeRequest_stays (k : ReqKind) (p : Port) (tag : Byte) (pl : List Byte) {owner : State → State}
    (h : ∀ s : State, s.Stays (owner s)) (s : State) : s.Stays (takeRequest k p tag pl owner s) := by
  have hend := (s.settle_stays p).trans (State.endTransaction_flows _ p).toStays
  obtain e | e | ⟨r, e⟩ | e := takeRequest_cases k p tag pl owner s <;> rw [e]
  · exact .refl s
  · exact hend
  · exact hend.trans (State.replyTo_flows ..).toStays
  · exact (hend.trans (h _)).trans (State.sealEvent_stays ..)

end Sys2Proof.Machine

/-!
PROOFS. Every command and every step; O58 and O10.
-/

namespace Sys2Proof.Machine

open Sys2Proof

/-! ## Events on the ports and the device -/

/-- The event that `s` met and that left `t` told its epoch, if another one, on the Drive Port (R22). -/
def State.TellsEpoch (s t : State) : Prop :=
  t.epoch = s.epoch ∨ t.drive.overflow = true ∨
    ∃ ahead behind, t.drive.notices = ahead ++ changed t.epoch t.custody.state :: behind ∧
      s.drive.notices.length ≤ ahead.length ∧ ∀ n ∈ behind, n.epoch = t.epoch

/-- A command's event, or none: nothing is lost, and the epoch is told where no RESTART took effect. -/
structure State.Event (s t : State) : Prop extends s.Stays t where
  tells : s.restartPending = none ∨ t.restartPending.isSome = true → s.TellsEpoch t

theorem State.Event.refl (s : State) : s.Event s := ⟨.refl s, fun _ => .inl rfl⟩

theorem getElem?_stampNotices {old i : Nat} (c : Custody) (q : PortState) (h : old ≤ i) :
    (stampNotices old c q).notices[i]? = (q.notices[i]?).map fun n => { n with custody := c } := by
  simp only [stampNotices]
  rcases Nat.lt_or_ge i q.notices.length with hi | hi
  · have hlen : (q.notices.take old).length = old := by simp; omega
    rw [List.getElem?_append_right (by omega), hlen, List.getElem?_map, List.getElem?_drop, Nat.add_sub_cancel' h]
  · rw [List.getElem?_eq_none (by simp; omega), List.getElem?_eq_none hi]
    rfl

/-- The seal gives the told increment the custody state that the event leaves (R180). -/
theorem State.Told.tellsEpoch {b s : State} (h : b.Told s) : b.TellsEpoch (State.sealEvent b s) := by
  obtain ⟨-, h | h | ⟨i, c, hi, hn, hbehind⟩⟩ := h
  · exact .inl h
  · exact .inr (.inl h)
  · refine .inr (.inr ⟨(State.sealEvent b s).drive.notices.take i, (State.sealEvent b s).drive.notices.drop (i + 1),
      ?_, ?_, fun n hmem => ?_⟩)
    · have hi' : (State.sealEvent b s).drive.notices[i]? = some (changed s.epoch s.custody.state) := by
        simp only [State.sealEvent, getElem?_stampNotices _ _ hi, hn]
        rfl
      obtain ⟨hlt, hget⟩ := List.getElem?_eq_some_iff.1 hi'
      conv_lhs => rw [← List.take_append_drop i (State.sealEvent b s).drive.notices, List.drop_eq_getElem_cons hlt, hget]
      rfl
    · have hlt := (List.getElem?_eq_some_iff.1 hn).1
      simp only [State.sealEvent, List.length_take, stampNotices_length]
      omega
    · obtain ⟨j, hj⟩ := List.mem_iff_getElem?.1 hmem
      rw [List.getElem?_drop] at hj
      simp only [State.sealEvent] at hj
      rw [getElem?_stampNotices _ _ (by omega)] at hj
      obtain ⟨m, hm, rfl⟩ := Option.map_eq_some_iff.1 hj
      exact hbehind _ m (by omega) hm

theorem State.Told.refl (s : State) : s.Told s := ⟨le_rfl, .inl rfl⟩

theorem State.Flows.tellsEpoch {s t : State} (h : s.Flows t) : s.TellsEpoch (State.sealEvent s t) :=
  (h.told s (.refl s)).tellsEpoch

theorem State.restartPending_settle_of_restart {s : State} {p : Port} (h : s.restartOn p ≠ none) :
    (s.settle p).restartPending = none := by
  cases p with
  | platform => exact absurd rfl h
  | drive => exact s.restartOn_settle .drive

theorem State.settle_restart_cases (s : State) (p : Port) :
    s.settle p = s ∨ s.restartPending ≠ none ∧ (s.settle p).restartPending = none := by
  by_cases h : s.restartOn p = none
  · exact .inl (State.settle_of_none h)
  · refine .inr ⟨fun e => h ?_, State.restartPending_settle_of_restart h⟩
    cases p
    · exact e
    · rfl

/-- The end of a transaction, on the state as settled. -/
theorem State.settled_event {s t : State} {p : Port} (h : (s.settle p).Stays t)
    (hr : t.restartPending = (s.settle p).restartPending) (he : t.epoch = (s.settle p).epoch) : s.Event t where
  toStays := (s.settle_stays p).trans h
  tells := fun hpending => by
    obtain e | ⟨hs, ht⟩ := s.settle_restart_cases p
    · rw [e] at he; exact .inl he
    · rw [hr, ht] at hpending
      rcases hpending with hp | hp
      · exact absurd hp hs
      · cases hp

theorem takeRequest_event (k : ReqKind) (p : Port) (tag : Byte) (pl : List Byte) {owner : State → State}
    (h : ∀ x : State, x.Stays (owner x) ∧ x.TellsEpoch (State.sealEvent x (owner x))) (s : State) :
    s.Event (takeRequest k p tag pl owner s) := by
  have hend := State.endTransaction_flows (s.settle p) p
  by_cases hrestart : s.restartOn p = none
  · obtain e | e | ⟨r, e⟩ | e := takeRequest_cases k p tag pl owner s <;> rw [e]
    · exact .refl s
    · exact State.settled_event hend.toStays (State.setPort_restartPending ..) (State.setPort_epoch ..)
    · exact State.settled_event (hend.trans (State.replyTo_flows ..)).toStays
        (by simp [State.replyTo, State.reply, State.endTransaction])
        (by simp [State.replyTo, State.reply, State.endTransaction])
    · rw [State.settle_of_none hrestart] at hend ⊢
      obtain ⟨hstays, htells⟩ := h (s.endTransaction p)
      refine ⟨(hend.toStays.trans hstays).trans (State.sealEvent_stays ..), fun _ => ?_⟩
      have hepoch : (s.endTransaction p).epoch = s.epoch := State.setPort_epoch ..
      have hnotices : (s.endTransaction p).drive.notices = s.drive.notices := s.notices_endTransaction p .drive
      simpa only [State.TellsEpoch, hepoch, hnotices] using htells
  · obtain ⟨r, hr⟩ := Option.ne_none_iff_exists'.1 hrestart
    cases hp : s.powered
    · rw [show takeRequest k p tag pl owner s = s by simp [takeRequest, hp]]
      exact .refl s
    · rw [takeRequest_of_restart hp hr]
      exact State.settled_event hend.toStays (State.setPort_restartPending ..) (State.setPort_epoch ..)

theorem takeRequest_event_of_flows (k : ReqKind) (p : Port) (tag : Byte) (pl : List Byte)
    {owner : State → State} (h : ∀ x : State, x.Flows (owner x)) (s : State) :
    s.Event (takeRequest k p tag pl owner s) :=
  takeRequest_event k p tag pl (fun x => ⟨(h x).toStays, (h x).tellsEpoch⟩) s

theorem deviceEvent_event {f : State → State} (h : ∀ x : State, x.Flows (f x)) (s : State) :
    s.Event (deviceEvent f s) := by
  unfold deviceEvent
  split
  · exact ⟨(h s).toStays.trans (State.sealEvent_stays ..), fun _ => (h s).tellsEpoch⟩
  · exact .refl s

/-- A transaction that no owner takes: the state as settled, its end, and a reply or none. -/
theorem takeFrame_event (p : Port) (k t : Byte) (b : ReplyBody) (s : State) :
    s.Event (takeFrame p (fun x => x.reply p k t b) s) := by
  unfold takeFrame
  have hend := State.endTransaction_flows (s.settle p) p
  split
  · exact .refl s
  · dsimp only
    split
    · exact State.settled_event hend.toStays (State.setPort_restartPending ..) (State.setPort_epoch ..)
    · exact State.settled_event (hend.trans (State.reply_flows ..)).toStays
        (by simp [State.reply, State.endTransaction]) (by simp [State.reply, State.endTransaction])

theorem endTransaction_event (p : Port) (s : State) :
    s.Event (if s.powered then (s.settle p).endTransaction p else s) := by
  split
  · exact State.settled_event (State.endTransaction_flows _ p).toStays (State.setPort_restartPending ..)
      (State.setPort_epoch ..)
  · exact .refl s

/-- Every command but a completion, a start and a loss of power. -/
theorem exec_event {c : Instr} {s t : State} (h : exec c s = .next t) (hstart : ∀ kept, c ≠ .startInstant kept)
    (hloss : c ≠ .powerLoss) (hcommit : c ≠ .commitComplete) : s.Event t := by
  cases c with
  | resolve p tag pl => cases h; exact takeRequest_event_of_flows _ _ _ _ (resolveOwner_flows tag pl) s
  | unlock p tag pl => cases h; exact takeRequest_event_of_flows _ _ _ _ (unlockOwner_flows tag pl) s
  | lock p tag pl => cases h; exact takeRequest_event_of_flows _ _ _ _ (lockOwner_flows tag pl) s
  | present p tag pl => cases h; exact takeRequest_event_of_flows _ _ _ _ (presentOwner_flows tag) s
  | standby p tag pl => cases h; exact takeRequest_event_of_flows _ _ _ _ (standbyOwner_flows tag) s
  | geometry p tag pl => cases h; exact takeRequest_event_of_flows _ _ _ _ (geometryOwner_flows tag pl) s
  | enrol p tag pl => cases h; exact takeRequest_event_of_flows _ _ _ _ (enrolOwner_flows tag pl) s
  | setRange p tag pl => cases h; exact takeRequest_event_of_flows _ _ _ _ (setRangeOwner_flows tag pl) s
  | dropRange p tag pl => cases h; exact takeRequest_event_of_flows _ _ _ _ (dropRangeOwner_flows tag pl) s
  | grant p tag pl => cases h; exact takeRequest_event_of_flows _ _ _ _ (grantOwner_flows tag pl) s
  | revoke p tag pl => cases h; exact takeRequest_event_of_flows _ _ _ _ (revokeOwner_flows tag pl) s
  | retire p tag pl => cases h; exact takeRequest_event_of_flows _ _ _ _ (retireOwner_flows tag pl) s
  | rekey p tag pl => cases h; exact takeRequest_event_of_flows _ _ _ _ (rekeyOwner_flows tag pl) s
  | setAuthorityCredential p tag pl =>
    cases h; exact takeRequest_event_of_flows _ _ _ _ (setAuthorityOwner_flows .credential tag pl) s
  | setAuthorityLimit p tag pl =>
    cases h; exact takeRequest_event_of_flows _ _ _ _ (setAuthorityOwner_flows .limit tag pl) s
  | setAuthorityEnable p tag pl =>
    cases h; exact takeRequest_event_of_flows _ _ _ _ (setAuthorityOwner_flows .enable tag pl) s
  | setAuthorityDisable p tag pl =>
    cases h; exact takeRequest_event_of_flows _ _ _ _ (setAuthorityOwner_flows .disable tag pl) s
  | setAuthorityReinstate p tag pl =>
    cases h; exact takeRequest_event_of_flows _ _ _ _ (setAuthorityOwner_flows .reinstate tag pl) s
  | setPolicy p tag pl => cases h; exact takeRequest_event_of_flows _ _ _ _ (setPolicyOwner_flows tag pl) s
  | freezePolicy p tag pl => cases h; exact takeRequest_event_of_flows _ _ _ _ (freezePolicyOwner_flows tag pl) s
  | wipe p tag pl => cases h; exact takeRequest_event_of_flows _ _ _ _ (wipeOwner_flows tag pl) s
  | revert p tag pl => cases h; exact takeRequest_event_of_flows _ _ _ _ (revertOwner_flows tag) s
  | scrubTake p tag pl => cases h; exact takeRequest_event_of_flows _ _ _ _ (scrubTakeOwner_flows tag) s
  | scrubDone p tag pl => cases h; exact takeRequest_event_of_flows _ _ _ _ (scrubDoneOwner_flows tag pl) s
  | scrubPause p tag pl => cases h; exact takeRequest_event_of_flows _ _ _ _ (pauseOwner_flows _ _ tag) s
  | scrubResume p tag pl => cases h; exact takeRequest_event_of_flows _ _ _ _ (pauseOwner_flows _ _ tag) s
  | laneHold p tag pl => cases h; exact takeRequest_event_of_flows _ _ _ _ (laneHoldOwner_flows tag) s
  | laneRelease p tag pl => cases h; exact takeRequest_event_of_flows _ _ _ _ (laneReleaseOwner_flows tag) s
  | restart p tag pl => cases h; exact takeRequest_event_of_flows _ _ _ _ (restartOwner_flows tag) s
  | restartTakesEffect =>
    cases h
    split
    · exact State.settled_event (p := .drive) (.refl _) rfl rfl
    · exact .refl s
  | status p tag pl => cases h; exact takeRequest_event_of_flows _ _ _ _ (statusOwner_flows p tag pl) s
  | fetch p tag pl =>
    cases h
    refine takeRequest_event _ _ _ _ (fun x => ⟨fetchOwner_stays p tag x, .inl ?_⟩) s
    exact (State.setPort_epoch ..).trans (State.setPort_epoch ..)
  | pair p tag pl => cases h; exact takeRequest_event_of_flows _ _ _ _ (pairOwner_flows tag pl) s
  | challenge p tag pl => cases h; exact takeRequest_event_of_flows _ _ _ _ (challengeOwner_flows tag) s
  | checkIn p tag pl => cases h; exact takeRequest_event_of_flows _ _ _ _ (checkInOwner_flows tag pl) s
  | wipeOrder p tag pl => cases h; exact takeRequest_event_of_flows _ _ _ _ (wipeOrderOwner_flows tag pl) s
  | garbledFrame p bytes => cases h; exact takeFrame_event p _ _ _ s
  | unknownKind p kind tag pl => cases h; exact takeFrame_event p _ _ _ s
  | linkBreak p bytes => cases h; exact endTransaction_event p s
  | frameOverUnreadReply p bytes => cases h; exact endTransaction_event p s
  | readTransaction p n =>
    cases h
    split
    · exact State.settled_event (State.readOut_flows _ p n).toStays (State.setPort_restartPending ..)
        (State.setPort_epoch ..)
    · exact .refl s
  | laneSlotStart => cases h; exact deviceEvent_event State.startSlot_flows s
  | loadSlotEnd a => cases h; exact deviceEvent_event (fun x => x.loadSlotEnd_flows a) s
  | clearSlotEnd a => cases h; exact deviceEvent_event (fun x => x.clearSlotEnd_flows a) s
  | probeSlotEnd a => cases h; exact deviceEvent_event (fun x => x.probeSlotEnd_flows a) s
  | turnSlotEnd n => cases h; exact deviceEvent_event (fun x => x.turnSlotEnd_flows n) s
  | slotAnswerWindowExpiry => cases h; exact deviceEvent_event State.slotSilent_flows s
  | commitComplete => exact absurd rfl hcommit
  | supplyWarningAsserted =>
    cases h
    have hasserted : s.Flows { s with supplyWarning := true } := .of_same rfl
    split
    · refine ⟨(hasserted.trans (State.placeFinal_flows _)).toStays, fun _ => .inl ?_⟩
      obtain ⟨q, e⟩ := State.placeFinal_frame { s with supplyWarning := true }
      rw [e]
    · exact ⟨hasserted.toStays, fun _ => .inl rfl⟩
  | supplyWarningDeasserted =>
    cases h
    have hclear : s.Flows { s with supplyWarning := false } := .of_same rfl
    split
    · have h := State.supplyRecovered_flows { s with supplyWarning := false }
      exact ⟨(hclear.trans h).toStays.trans (State.sealEvent_stays ..), fun _ => h.tellsEpoch⟩
    · exact ⟨hclear.toStays, fun _ => .inl rfl⟩
  | startInstant kept => exact absurd rfl (hstart kept)
  | powerLoss => exact absurd rfl hloss
  | backoffExpiry a => cases h; exact deviceEvent_event (fun x => x.setBackoff_flows a 0) s
  | pairingWindowExpiry =>
    cases h; exact deviceEvent_event (fun x => .ite (fun _ => x.expireWindow_flows) fun _ => .refl x) s
  | checkinClockAdvance =>
    cases h; exact deviceEvent_event (fun x => .ite (fun _ => x.advanceCheckin_flows) fun _ => .refl x) s
  | checkinWarning =>
    cases h; exact deviceEvent_event (fun x => .ite (fun _ => x.advanceCheckin_flows) fun _ => .refl x) s
  | checkinExpired =>
    cases h; exact deviceEvent_event (fun x => .ite (fun _ => x.advanceCheckin_flows) fun _ => .refl x) s
  | escalationClockAdvance =>
    cases h; exact deviceEvent_event (fun x => .ite (fun _ => x.advanceEscalation_flows) fun _ => .refl x) s
  | escalation =>
    cases h; exact deviceEvent_event (fun x => .ite (fun _ => x.advanceEscalation_flows) fun _ => .refl x) s

/-! ## The head entry completes -/

/-- A Range record that a commit leaves comes from the store or from one of its writes. -/
theorem Records.origin_of_commit {ws : List RecordWrite} {st : Records} {r : RangeId} {c : RangeRec}
    (h : (st.commit ws).ranges[r.val] = some c) :
    ∃ d, (st.ranges[r.val] = some d ∨ .range r (some d) ∈ ws) ∧ d.start = c.start ∧ d.length = c.length ∧
      d.visibility = c.visibility ∧ d.access = c.access := by
  induction ws generalizing st with
  | nil => exact ⟨c, .inl h, rfl, rfl, rfl, rfl⟩
  | cons w ws ih =>
    obtain ⟨d, hd, hs, hl, hv, ha⟩ := ih (st := st.write w) h
    rcases hd with hd | hd
    · have hwrite : ∃ x, (st.ranges[r.val] = some x ∨ .range r (some x) ∈ w :: ws) ∧ x.start = d.start ∧
          x.length = d.length ∧ x.visibility = d.visibility ∧ x.access = d.access := by
        cases w with
        | range q x =>
          simp only [Records.write, Vector.getElem_set] at hd
          split at hd
          · rename_i hq
            exact ⟨d, .inr (by rw [hd, Fin.ext hq]; exact List.mem_cons_self), rfl, rfl, rfl, rfl⟩
          · exact ⟨d, .inl hd, rfl, rfl, rfl, rfl⟩
        | rangeState q x =>
          simp only [Records.write, Vector.getElem_set] at hd
          split at hd
          · rename_i hq
            obtain ⟨y, hy, rfl⟩ := Option.map_eq_some_iff.1 hd
            exact ⟨y, .inl (by simpa only [hq] using hy), rfl, rfl, rfl, rfl⟩
          · exact ⟨d, .inl hd, rfl, rfl, rfl, rfl⟩
        | _ => exact ⟨d, .inl hd, rfl, rfl, rfl, rfl⟩
      obtain ⟨x, hx, hs', hl', hv', ha'⟩ := hwrite
      exact ⟨x, hx, hs'.trans hs, hl'.trans hl, hv'.trans hv, ha'.trans ha⟩
    · exact ⟨d, .inr (List.mem_cons_of_mem _ hd), hs, hl, hv, ha⟩

/-- The store after the head entry's writes, the entry gone from the queue (R155). -/
def State.committed (s : State) (e : Entry) (rest : List Entry) : State :=
  { s with store := s.store.commit e.writes, queue := rest }

theorem State.committed_keeps {s : State} {e : Entry} {rest : List Entry} (hq : s.queue = e :: rest) :
    s.Keeps (s.committed e rest) where
  queue := fun h => by
    simp only [State.queueFits, hq, nonFinal_cons] at h
    exact (Nat.le_add_left _ _).trans h
  shown := fun ⟨hlive, hstored, hentries, hwork⟩ => by
    rw [hq, List.cons_append, List.forall_mem_cons] at hentries
    refine ⟨hlive, fun _ c hc => ?_, hentries.2, hwork⟩
    obtain ⟨d, hd, -, -, hv, -⟩ := Records.origin_of_commit (r := 0) hc
    rw [← hv]
    rcases hd with hd | hd
    · exact hstored rfl d hd
    · exact hentries.1 _ hd rfl d rfl
  listed := fun ⟨hlists, hentries, hwork⟩ => by
    rw [hq, List.cons_append, List.forall_mem_cons] at hentries
    refine ⟨fun r => ⟨(hlists r).1, fun c hc => ?_⟩, hentries.2, hwork⟩
    obtain ⟨d, hd, -, -, -, ha⟩ := Records.origin_of_commit (r := r) hc
    rw [← ha]
    rcases hd with hd | hd
    · exact (hlists r).2 d hd
    · exact hentries.1 _ hd d rfl
  notices := id; lanes := id; holders := id; orders := id

theorem State.acts_flow (l : List Act) (s : State) : s.Flows (l.foldl State.act s) :=
  .foldl State.act_flows l s

theorem State.completeHead_of_cons {s : State} {e : Entry} {rest : List Entry} (hq : s.queue = e :: rest) :
    s.completeHead = e.acts.foldl State.act (State.promoteHeld s.held.length (s.committed e rest)) := by
  simp only [State.completeHead, hq, State.committed]

theorem State.completeHead_of_nil {s : State} (hq : s.queue = []) : s.completeHead = s := by
  simp only [State.completeHead, hq]

theorem State.completeHead_flows {s : State} {e : Entry} {rest : List Entry} (hq : s.queue = e :: rest) :
    (s.committed e rest).Flows s.completeHead := by
  rw [State.completeHead_of_cons hq]
  exact (State.promoteHeld_flows ..).trans (State.acts_flow ..)

theorem State.completeHead_keeps (s : State) : s.Keeps s.completeHead := by
  cases hq : s.queue with
  | nil => rw [State.completeHead_of_nil hq]; exact .refl s
  | cons e rest => exact (State.committed_keeps hq).trans (State.completeHead_flows hq).toKeeps

theorem execCommitComplete_keeps (s : State) : s.Keeps (deviceEvent State.completeHead s) := by
  unfold deviceEvent
  split
  · exact s.completeHead_keeps.trans (State.sealEvent_stays ..).toKeeps
  · exact .refl s

theorem execCommitComplete_tells (s : State) : s.TellsEpoch (deviceEvent State.completeHead s) := by
  unfold deviceEvent
  split
  · cases hq : s.queue with
    | nil => rw [State.completeHead_of_nil hq]; exact .inl rfl
    | cons e rest => exact ((State.completeHead_flows hq).told s (State.Told.refl (s.committed e rest))).tellsEpoch
  · exact .inl rfl

/-! ## Start and loss of power -/

theorem State.load_keeps (s : State) (p : Bool) (c : StartCause) : s.Keeps (s.load p c) where
  notices := fun _ => ⟨Nat.zero_le _, Nat.zero_le _⟩
  queue := fun _ => Nat.zero_le _
  lanes := fun _ => by
    refine ⟨Nat.le_refl 4, Nat.le_add_right 4 12, fun l hl => ?_⟩
    rw [List.eq_of_mem_replicate hl]
    exact Nat.zero_le _
  holders := fun _ r _ => by simp [State.load, State.range]
  orders := fun _ j hj => by
    obtain ⟨x, -, rfl⟩ := Option.map_eq_some_iff.1 hj
    exact Nat.zero_le _
  shown := fun h => by
    refine ⟨?_, h.2.1, fun e he => absurd he List.not_mem_nil, fun f hf => by cases hf⟩
    simp only [State.load, State.range, getElem_mapVec]
    exact h.2.1
  listed := fun h => by
    refine ⟨fun r => ⟨?_, (h.1 r).2⟩, fun e he => absurd he List.not_mem_nil, fun f hf => by cases hf⟩
    simpa only [State.load, State.range, getElem_mapVec] using (h.1 r).2

theorem State.correctKeys_flows (s : State) : s.Flows s.correctKeys :=
  .foldl (fun x r => (x.eraseSlot_flows r).trans (State.enter_flows (keyEraseEntry_fits _ _ _) [])) _ s

theorem State.correctGlobal_flows (s : State) : s.Flows s.correctGlobal := by
  refine .ite (fun _ => ?_) fun _ => .refl s
  refine .trans ((s.setRangeState_flows 0 _).trans (State.eraseSlot_flows _ 0)) (State.enterAll_flows ?_)
  simp only [List.forall_mem_cons, List.not_mem_nil, false_implies, implies_true, and_true]
  exact ⟨keyEraseEntry_fits _ _ _, rangeEntry_live_fits _ _ _⟩

theorem State.correctJournal_flows (s : State) : s.Flows s.correctJournal := by
  unfold State.correctJournal
  split
  · exact s.spendAll_flows
  · exact .foldl (fun x r => (x.setRangeState_flows r .blank).trans
      (State.enter_flows (rangeEntry_live_fits _ _ _) [])) _ s
  · exact .refl s
  · exact s.setJob_none_flows.trans (State.enter_flows (journalEntry_fits _ _ _ _) [])
  · exact .refl s

theorem State.startWarning_flows (s : State) (b : Bool) : s.Flows (s.startWarning b) :=
  .ite (fun _ => s.warn_flows) fun _ => .ite (fun _ => s.notifyBoth_flows _) fun _ => .refl s

theorem State.startTriggers_flows (s : State) : s.Flows s.startTriggers := by
  unfold State.startTriggers
  dsimp only
  have htake {x : State} (h : s.Flows x) (p : Prop) [Decidable p] (t : Trigger) :
      s.Flows (if p then x.take t else x) := .ite (fun _ => h.trans (x.take_flows t)) fun _ => h
  have hwarn {x : State} (h : s.Flows x) (p : Prop) [Decidable p] (b : Bool) :
      s.Flows (if p then x.take .checkinExpired else x.startWarning b) :=
    .ite (fun _ => h.trans (x.take_flows _)) fun _ => h.trans (x.startWarning_flows b)
  have hescalate {x : State} (h : s.Flows x) (p : Prop) [Decidable p] :
      s.Flows (if p then x.respond x.custody.target [] else x) :=
    .ite (fun _ => h.trans (x.respond_flows ..)) fun _ => h
  exact htake (hescalate (hwarn (htake (.refl s) _ _) _ _) _) _ _

theorem startNotices_length (e : Epoch) (c : Custody) (q : PortState) :
    (startNotices e c q).notices.length ≤ q.notices.length := by
  simpa [startNotices] using List.length_filter_le _ _

/-- From the load to the end of the start instant nothing is lost. -/
theorem State.start_stays (s : State) (kept : Bool) :
    ∃ c, ({ s with startMarker := true }.load true c).Stays (s.start kept) := by
  refine ⟨if kept && s.startMarker then .supplyDip else .powerOn, ?_⟩
  unfold State.start
  dsimp only
  generalize ({ s with startMarker := true }.load true
    (if (kept && s.startMarker) = true then StartCause.supplyDip else .powerOn)) = s0
  have hcorrected := s0.correctKeys_flows.trans ((State.correctGlobal_flows _).trans
    ((State.correctJournal_flows _).trans ((State.choosePresentation_flows _).trans (State.startTriggers_flows _))))
  generalize s0.correctKeys.correctGlobal.correctJournal.choosePresentation.startTriggers = s1 at hcorrected ⊢
  have hnotices : s1.Stays { s1 with
      drive := startNotices s1.epoch s1.custody.state s1.drive
      platform := startNotices s1.epoch s1.custody.state s1.platform } :=
    ⟨⟨fun h => ⟨(startNotices_length ..).trans h.1, (startNotices_length ..).trans h.2⟩, id, id, id, id, id, id⟩,
      rfl, .inl rfl, fun _ c hr h => ⟨c, ⟨hr, .inl h⟩, rfl, rfl⟩⟩
  split
  · exact (hcorrected.toStays.trans hnotices).trans (State.placeFinal_flows _).toStays
  · exact hcorrected.toStays.trans hnotices

theorem State.start_keeps (s : State) (kept : Bool) : s.Keeps (s.start kept) := by
  obtain ⟨c, h⟩ := s.start_stays kept
  exact (show s.Keeps { s with startMarker := true } from .of_same rfl).trans ((State.load_keeps _ true c).trans h.toKeeps)

theorem State.powerLoss_keeps (s : State) : s.Keeps (if s.powered then s.load false .none else s) := by
  split
  · exact s.load_keeps ..
  · exact .refl s

/-! ## One second -/

theorem State.tickBackoff_flows (s : State) : s.Flows s.tickBackoff := .of_same rfl

theorem State.tickWindow_stays (s : State) : s.Stays s.tickWindow := by
  unfold State.tickWindow
  split
  · exact .refl s
  · split
    · exact (s.custody_flows _).toStays
    · exact s.expireWindow_flows.toStays.trans (State.sealEvent_stays ..)

theorem State.tickCheckin_stays (s : State) : s.Stays s.tickCheckin := by
  unfold State.tickCheckin
  split
  · exact .refl s
  · split
    · exact (s.custody_flows _).toStays
    · exact s.advanceCheckin_flows.toStays.trans (State.sealEvent_stays ..)

theorem State.tickEscalation_stays (s : State) : s.Stays s.tickEscalation := by
  unfold State.tickEscalation
  split
  · exact .refl s
  · split
    · exact (s.custody_flows _).toStays
    · exact s.advanceEscalation_flows.toStays.trans (State.sealEvent_stays ..)

theorem State.tick_stays (s : State) : s.Stays s.tick := by
  unfold State.tick
  split
  · exact .refl s
  · have h := s.tickBackoff_flows.toStays.trans ((State.tickWindow_stays _).trans (State.tickCheckin_stays _))
    dsimp only
    split
    · exact h.trans (State.tickEscalation_stays _)
    · exact h

/-! ## A step -/

theorem exec_keeps {c : Instr} {s t : State} (h : exec c s = .next t) : s.Keeps t := by
  by_cases hstart : ∃ kept, c = .startInstant kept
  · obtain ⟨kept, rfl⟩ := hstart
    cases h
    exact s.start_keeps kept
  · by_cases hloss : c = .powerLoss
    · subst hloss; cases h; exact s.powerLoss_keeps
    · by_cases hcommit : c = .commitComplete
      · subst hcommit; cases h; exact execCommitComplete_keeps s
      · exact (exec_event h (fun kept e => hstart ⟨kept, e⟩) hloss hcommit).toKeeps

/-- Every step keeps every bound. -/
theorem step_keeps {s t : State} (h : step s = .next t) : s.Keeps t := by
  unfold step at h
  split at h
  · cases h; exact s.tick_stays.toKeeps
  · rename_i rest _
    exact (show s.Keeps { s with pending := rest } from .of_same rfl).trans (exec_keeps h)

/-- Settles O58: `step_keeps`, for the two bounds of the queues. -/
theorem everyStepKeepsTheQueuesBounded : Obligations.EveryStepKeepsTheQueuesBounded :=
  fun _ _ ⟨hnotices, hqueue⟩ h => ⟨(step_keeps h).notices hnotices, (step_keeps h).queue hqueue⟩

/-- Settles O10: the event's own increment is told by `exec_event`, a completion's by its acts. -/
theorem epochChangesAreNoticed : Obligations.EpochChangesAreNoticed := by
  intro c s t h hstart hloss hpending hepoch
  have htells : s.TellsEpoch t := by
    by_cases hcommit : c = .commitComplete
    · subst hcommit
      cases h
      exact execCommitComplete_tells s
    · exact (exec_event h hstart hloss hcommit).tells hpending
  exact htells.resolve_left hepoch

end Sys2Proof.Machine

/-!
PROOFS. Placement, the entries of SET_RANGE, and the state after reset; O59 and O60.
-/

namespace Sys2Proof.Machine

open Sys2Proof

/-! ## Placement -/

/-- Where the extents are old ones and the geometry is the stored one, the ranges stay placed. -/
theorem State.placed_of_origins {s t : State} (h : s.placed) (hgeometry : t.geometry = s.geometry)
    (hstored : t.store.identity.geometry = s.geometry)
    (horigin : ∀ r c, t.places r c → ∃ d, s.places r d ∧ d.start = c.start ∧ d.length = c.length) : t.placed := by
  obtain ⟨-, hfits, hapart⟩ := h
  have huser : t.userSectors = s.userSectors := by simp only [State.userSectors, hgeometry]
  refine ⟨hstored.trans hgeometry.symm, fun r c hc => ?_, fun r q c d hrq hc hd => ?_⟩
  · obtain ⟨x, hx, hs, hl⟩ := horigin r c hc
    have := hfits r x hx
    simpa only [State.fitsUser, huser, ← hs, ← hl] using this
  · obtain ⟨x, hx, hs, hl⟩ := horigin r c hc
    obtain ⟨y, hy, hs', hl'⟩ := horigin q d hd
    have := hapart r q x y hrq hx hy
    simpa only [RangeRec.apart, ← hs, ← hl, ← hs', ← hl'] using this

theorem State.Stays.origin {s t : State} (h : s.Stays t) {r : RangeId} {c : RangeRec} (hc : t.places r c) :
    ∃ d, s.places r d ∧ d.start = c.start ∧ d.length = c.length := by
  obtain ⟨hr, hc | hc⟩ := hc
  · exact h.extents r c hr hc
  · exact ⟨c, ⟨hr, .inr (h.store ▸ hc)⟩, rfl, rfl⟩

theorem State.Stays.placed {s t : State} (h : s.Stays t) (hs : s.placed) : t.placed := by
  have hg := hs.1
  refine State.placed_of_origins hs (h.geometry.elim id fun e => e.trans hg) ?_ fun r c => h.origin
  rw [h.store, hg]

theorem State.load_placed {s : State} (h : s.placed) (p : Bool) (c : StartCause) : (s.load p c).placed := by
  refine State.placed_of_origins h h.1 h.1 fun r x hx => ?_
  obtain ⟨hr, hx⟩ := hx
  refine ⟨x, ⟨hr, .inr ?_⟩, rfl, rfl⟩
  simpa only [State.load, State.range, getElem_mapVec, or_self] using hx

theorem State.start_placed {s : State} (h : s.placed) (kept : Bool) : (s.start kept).placed := by
  obtain ⟨c, hstays⟩ := s.start_stays kept
  exact hstays.placed (State.load_placed (s := { s with startMarker := true }) h true c)

/-! ### The entry under way -/

/-- Without an Identity record among them, the writes leave the stored geometry. -/
theorem Records.commit_geometry {ws : List RecordWrite} {st : Records} (h : ∀ i, .identity i ∉ ws) :
    (st.commit ws).identity.geometry = st.identity.geometry := by
  induction ws generalizing st with
  | nil => rfl
  | cons w ws ih =>
    refine (ih (st := st.write w) fun i hi => h i (List.mem_cons_of_mem _ hi)).trans ?_
    cases w with
    | identity i => exact absurd List.mem_cons_self (h i)
    | _ => rfl

/-- Once GEOMETRY's completion acts, the geometry in force is the stored one, whatever else acts. -/
theorem State.acts_geometry {l : List Act} (h : .geometryStored ∈ l) (s : State) :
    (l.foldl State.act s).geometry = s.store.identity.geometry := by
  induction l generalizing s with
  | nil => cases h
  | cons a l ih =>
    rw [List.foldl_cons]
    rcases List.mem_cons.1 h with rfl | h
    · exact (State.acts_flow l (s.act .geometryStored)).geometry.elim id id
    · rw [ih h, (s.act_flows a).store]

/-- A range record after the head's commit was there before, or the head brings it in. -/
theorem State.places_committed {s : State} {e : Entry} {rest : List Entry} {r : RangeId} {c : RangeRec}
    (h : (s.committed e rest).places r c) :
    ∃ d, (s.places r d ∨ r ≠ 0 ∧ .range r (some d) ∈ e.writes) ∧ d.start = c.start ∧ d.length = c.length := by
  obtain ⟨hr, hc | hc⟩ := h
  · exact ⟨c, .inl ⟨hr, .inl hc⟩, rfl, rfl⟩
  · obtain ⟨d, hd, hs, hl, -, -⟩ := Records.origin_of_commit hc
    exact ⟨d, hd.imp (fun hd => ⟨hr, .inr hd⟩) fun hd => ⟨hr, hd⟩, hs, hl⟩

theorem State.fitsUser_committed {s : State} {e : Entry} {rest : List Entry} {r : RangeId} {c : RangeRec}
    (hs : s.placed) (he : e.settled s) (h : (s.committed e rest).places r c) : s.fitsUser c := by
  obtain ⟨d, hd, hstart, hlength⟩ := State.places_committed h
  have hfits : s.fitsUser d := hd.elim (hs.2.1 r d) fun ⟨hr, hd⟩ => (he.1 r d hd hr).1
  simpa only [State.fitsUser, hstart, hlength] using hfits

theorem RangeRec.apart_comm {c d : RangeRec} (h : c.apart d) : d.apart c := Or.symm h

theorem State.apart_committed {s : State} {e : Entry} {rest : List Entry} {r q : RangeId} {c d : RangeRec}
    (hs : s.placed) (he : e.settled s) (hrq : r ≠ q) (hc : (s.committed e rest).places r c)
    (hd : (s.committed e rest).places q d) : c.apart d := by
  obtain ⟨x, hx, hstart, hlength⟩ := State.places_committed hc
  obtain ⟨y, hy, hstart', hlength'⟩ := State.places_committed hd
  have hapart : x.apart y := by
    rcases hx with hx | ⟨hr, hx⟩ <;> rcases hy with hy | ⟨hq, hy⟩
    · exact hs.2.2 r q x y hrq hx hy
    · exact RangeRec.apart_comm ((he.1 q y hy hq).2.1 r x hrq hx)
    · exact (he.1 r x hx hr).2.1 q y hrq.symm hy
    · rcases (he.1 r x hx hr).2.2 q y hy with e | e
      · exact absurd e.symm hrq
      · exact absurd e hq
  simpa only [RangeRec.apart, hstart, hlength, hstart', hlength'] using hapart

/-- Without geometry no extent lies in user media. -/
theorem State.not_fitsUser_of_no_geometry {s : State} (h : s.geometry = none) (c : RangeRec) : ¬s.fitsUser c := by
  rintro ⟨h1, h2⟩
  simp only [State.userSectors, h] at h2
  omega

theorem State.completeHead_placed {s : State} (hs : s.placed)
    (hhead : ∀ e, s.queue.head? = some e → e.settled s) : s.completeHead.placed := by
  cases hq : s.queue with
  | nil => rw [State.completeHead_of_nil hq]; exact hs
  | cons e rest =>
    have he : e.settled s := hhead e (by rw [hq]; rfl)
    have hflows := State.completeHead_flows hq
    by_cases hidentity : ∃ i, .identity i ∈ e.writes
    · obtain ⟨i, hi⟩ := hidentity
      obtain ⟨hnone, hact⟩ := he.2 i hi
      have hempty (r : RangeId) (c : RangeRec) : ¬s.completeHead.places r c := fun hc => by
        obtain ⟨d, hd, -, -⟩ := hflows.origin hc
        exact State.not_fitsUser_of_no_geometry hnone d (State.fitsUser_committed hs he hd)
      refine ⟨?_, fun r c hc => absurd hc (hempty r c), fun r _ c _ _ hc => absurd hc (hempty r c)⟩
      rw [State.completeHead_of_cons hq, State.acts_geometry hact, (State.acts_flow ..).store]
    · have hgeometry : (s.committed e rest).store.identity.geometry = s.geometry :=
        (Records.commit_geometry fun i hi => hidentity ⟨i, hi⟩).trans hs.1
      exact hflows.toStays.placed
        ⟨hgeometry, fun r c => State.fitsUser_committed hs he, fun r q c d => State.apart_committed hs he⟩

theorem step_placed {s t : State} (hs : s.placed) (hhead : ∀ e, s.queue.head? = some e → e.settled s)
    (h : step s = .next t) : t.placed := by
  unfold step at h
  split at h
  · cases h; exact s.tick_stays.placed hs
  · rename_i c rest hpending
    have hs' : { s with pending := rest }.placed := hs
    by_cases hstart : ∃ kept, c = .startInstant kept
    · obtain ⟨kept, rfl⟩ := hstart
      cases h
      exact State.start_placed hs' kept
    · by_cases hloss : c = .powerLoss
      · subst hloss
        cases h
        split
        · exact State.load_placed hs' _ _
        · exact hs'
      · by_cases hcommit : c = .commitComplete
        · subst hcommit
          cases h
          unfold deviceEvent
          split
          · exact (State.sealEvent_stays ..).placed
              (State.completeHead_placed (s := { s with pending := rest }) hs' hhead)
          · exact hs'
        · exact (exec_event h (fun kept e => hstart ⟨kept, e⟩) hloss hcommit).placed hs'

/-! ### SET_RANGE's entries -/

/-- A refund completes: the request goes on in the state that has taken it (R77). -/
theorem exec_commitComplete_of_refund {s : State} {k : ReqKind} {tag : Byte} {a : AuthId} {req : CredReq}
    {t : TriesRec} (h : s.AtRefund k tag a req t) :
    exec .commitComplete s = .next (State.sealEvent s ((s.refundTaken a t).afterCheck a req)) := by
  obtain ⟨⟨hpowered, -, -⟩, hflight, hqueue, hheld⟩ := h
  have hrefunded : s.completeHead = (s.committed (triesEntry t [.refunded]) []).refunded := by
    rw [State.completeHead_of_cons hqueue, hheld]
    rfl
  have hgoes : (s.committed (triesEntry t [.refunded]) []).refunded = (s.refundTaken a t).afterCheck a req := by
    have hf : (s.committed (triesEntry t [.refunded]) []).drive.inFlight = some ⟨k, tag, .refunding a req⟩ := hflight
    unfold State.refunded
    rw [hf]
    rfl
  calc exec .commitComplete s = .next (deviceEvent State.completeHead s) := rfl
    _ = _ := by rw [deviceEvent_of_powered hpowered, hrefunded, hgoes]

/-- Beside the extent that SET_RANGE enters stands no other range's (R11). -/
theorem State.settled_of_checks {s : State} (hlive : s.storedAreLive) {r : RangeId} {c : RangeRec}
    (hr : r ≠ 0 → s.fitsUser c ∧ s.overlaps r c.start c.length = false) {e : Entry}
    (he : ∀ w ∈ e.writes, (∃ k, w = .key r k) ∨ w = .range r (some c)) : e.settled s := by
  refine ⟨fun q d hq hq0 => ?_, fun i hi => ?_⟩
  · obtain ⟨k, hk⟩ | hk := he _ hq
    · cases hk
    · cases hk
      obtain ⟨hfits, hoverlaps⟩ := hr hq0
      refine ⟨hfits, fun p d hp hd => ?_, fun p d hd => ?_⟩
      · obtain ⟨hp0, hd⟩ := hd
        obtain ⟨x, hx, hs, hl⟩ : ∃ x, (s.range p).stored = some x ∧ x.start = d.start ∧ x.length = d.length := by
          rcases hd with hd | hd
          · exact ⟨d, hd, rfl, rfl⟩
          · exact hlive p hp0 d hd
        have hexplicit : p ∈ explicitRanges := by
          have hall : ∀ p : RangeId, p ≠ 0 → p ∈ explicitRanges := by decide
          exact hall p hp0
        have hno := List.any_eq_false.1 hoverlaps p hexplicit
        simp only [hx, Option.map_some, Option.getD_some, Bool.and_eq_true, bne_iff_ne, decide_eq_true_iff,
          not_and, Nat.not_lt] at hno
        have := hno hp
        simp only [RangeRec.apart]
        omega
      · obtain ⟨k, hk⟩ | hk := he _ hd
        · cases hk
        · cases hk
          exact .inl rfl
  · obtain ⟨k, hk⟩ | hk := he _ hi <;> cases hk

/-- Under Supply Warning a request's commits are refused (R153). -/
theorem State.commitRequest_of_warning {s : State} (h : s.supplyWarning = true) (ws : List Entry) :
    s.commitRequest ws = s.answer .drive (.code .deferred) := by
  simp [State.commitRequest, State.refusesWrites, h]

/-- One commit of a request, into an empty queue. -/
theorem State.commitRequest_one {s : State} (hq : s.queue = []) (hh : s.held = []) (hw : s.supplyWarning = false)
    (w : Entry) : s.commitRequest [w] = { s with queue := [w] }.setWork .drive .committing := by
  simp only [State.commitRequest, State.refusesWrites_of_empty hq hh hw ([w].map (·.key)) (by decide : 1 ≤ 4),
    State.enterAll_one_of_empty hq hh]

/-- Two commits of a request, into an empty queue. -/
theorem State.commitRequest_two {s : State} (hq : s.queue = []) (hh : s.held = []) (hw : s.supplyWarning = false)
    (v w : Entry) : s.commitRequest [v, w] = { s with queue := [v, w] }.setWork .drive .committing := by
  simp only [State.commitRequest, State.refusesWrites_of_empty hq hh hw ([v, w].map (·.key)) (by decide : 2 ≤ 4),
    State.enterAll_two_of_empty hq hh]

theorem State.defineRange_of_warning {s : State} (h : s.supplyWarning = true) (r : RangeId) (c : RangeRec) :
    s.defineRange r c = s.answer .drive (.code .deferred) := by
  simp [State.defineRange, State.refusesWrites, h]

/-- A definition enters the drawn Key record and then the Range record (R12). -/
theorem State.defineRange_of_empty {s : State} (hq : s.queue = []) (hh : s.held = [])
    (hw : s.supplyWarning = false) (r : RangeId) (c : RangeRec) :
    s.defineRange r c =
      { (s.drawKey r).2 with
        queue := [keyEntry r (s.drawKey r).1 [],
          rangeEntry r (some c) [.rangeDefined r, .answer .drive .epoch]] }.setWork .drive .committing := by
  have hrefuses := State.refusesWrites_of_empty hq hh hw [.single (.key r), .single (.range r)]
    (Nat.le_add_left 2 2)
  simp only [State.defineRange, hrefuses]
  exact State.commitRequest_two (s := (s.drawKey r).2) hq hh hw _ _

/-- An entry that SET_RANGE makes for an extent that passed its checks. -/
def Entry.ofSetRange (s : State) (r : RangeId) (start length : Nat) (e : Entry) : Prop :=
  ∃ c : RangeRec, c.start = start ∧ c.length = length ∧
    (r ≠ 0 → s.fitsUser c ∧ s.overlaps r start length = false) ∧
    ∀ w ∈ e.writes, (∃ k, w = .key r k) ∨ w = .range r (some c)

/-- What SET_RANGE's refund changes: the Drive Port, the draws, and the queue with entries that passed its
checks (R11 to R13). -/
theorem State.goSetRange_entries {s : State} (hq : s.queue = []) (hh : s.held = []) (r : RangeId)
    (start length : Nat) (v : Visibility) (p : SleepPolicy) :
    ∃ d n q, s.goSetRange r start length v p = { s with drive := d, draws := n, queue := q } ∧
      ∀ e ∈ q, e.ofSetRange s r start length := by
  have hanswer (b : ReplyBody) : ∃ d n q, s.answer .drive b = { s with drive := d, draws := n, queue := q } ∧
      ∀ e ∈ q, e.ofSetRange s r start length := by
    obtain ⟨x, i, y, e⟩ := s.answer_frame .drive b
    exact ⟨_, s.draws, s.queue, e, by rw [hq]; exact nofun⟩
  unfold State.goSetRange
  split
  · exact hanswer _
  · split
    · exact hanswer _
    · rename_i hfits
      split
      · exact hanswer _
      · rename_i hoverlaps
        have hchecks (c : RangeRec) (hs : c.start = start) (hl : c.length = length) (hr : r ≠ 0) :
            s.fitsUser c ∧ s.overlaps r start length = false := by
          have hr' : r.val ≠ 0 := fun e => hr (Fin.ext e)
          refine ⟨?_, by simpa [hr'] using hoverlaps⟩
          simp only [State.fitsUser, hs, hl]
          simp only [hr', ne_eq, not_false_eq_true, true_and, not_or, Config.granule, Nat.not_lt] at hfits
          omega
        rcases Bool.eq_false_or_eq_true s.supplyWarning with hw | hw
        · split
          · rw [State.defineRange_of_warning hw]
            exact hanswer _
          · split
            · exact hanswer _
            · rw [State.commitRequest_of_warning hw]
              exact hanswer _
        · split
          · rw [State.defineRange_of_empty hq hh hw]
            refine ⟨_, _, _, rfl, fun e he => ⟨⟨start, length, v, .active, adminOnly, p⟩, rfl, rfl,
              hchecks _ rfl rfl, fun w hw => ?_⟩⟩
            rcases List.mem_cons.1 he with rfl | he
            · exact .inl ⟨_, List.mem_singleton.1 hw⟩
            · rw [List.mem_singleton.1 he] at hw
              exact .inr (List.mem_singleton.1 hw)
          · split
            · exact hanswer _
            · rename_i c _ _
              rw [State.commitRequest_one hq hh hw]
              refine ⟨_, _, _, rfl, fun e he => ⟨{ c with start, length, visibility := v, sleep := p }, rfl, rfl, hchecks _ rfl rfl, fun w hw => .inr ?_⟩⟩
              rw [List.mem_singleton.1 he] at hw
              exact List.mem_singleton.1 hw

theorem setRange_enters_settled {s t : State} {tag : Byte} {x : TriesRec} {r : RangeId} {start length : Nat}
    {v : Visibility} {p : SleepPolicy} (h : s.AtRefund .setRange tag 0 (.setRange r start length v p) x)
    (hlive : s.storedAreLive) (ht : exec .commitComplete s = .next t) : ∀ e ∈ t.queue, e.settled t := by
  rw [exec_commitComplete_of_refund h] at ht
  obtain ⟨d, n, q, hgoes, hentries⟩ := State.goSetRange_entries (s := s.refundTaken 0 x) rfl h.2.2.2 r start length v p
  have hafter : (s.refundTaken 0 x).afterCheck 0 (.setRange r start length v p) =
      { s.refundTaken 0 x with drive := d, draws := n, queue := q } := hgoes
  rw [hafter] at ht
  cases ht
  intro e he
  obtain ⟨c, rfl, rfl, hr, hw⟩ := hentries e he
  exact State.settled_of_checks hlive hr hw

/-- Settles O59: the tables by `step_keeps`, the placement by `step_placed`, and SET_RANGE's entries by the checks
that they passed. -/
theorem everyStepKeepsTheTablesBounded : Obligations.EveryStepKeepsTheTablesBounded := by
  refine ⟨fun s t hs h => ?tables, fun s t hs hhead h => step_placed hs hhead h, ?setRange⟩
  case tables =>
    obtain ⟨hlanes, hholders, horders, hshown, hlisted⟩ := hs
    have hkeeps := step_keeps h
    exact ⟨hkeeps.lanes hlanes, hkeeps.holders hholders, hkeeps.orders horders, hkeeps.shown hshown,
      hkeeps.listed hlisted⟩
  case setRange =>
    intro s t tag x r start length v p h _ hlive ht
    exact setRange_enters_settled h hlive ht

/-! ## Reset -/

theorem State.reset_queuesBounded : State.reset.queuesBounded :=
  ⟨⟨Nat.zero_le _, Nat.zero_le _⟩, Nat.zero_le _⟩

/-- Settles O60: range 0 alone is present at delivery, and nothing is queued. -/
theorem resetMeetsTheBounds : Obligations.ResetMeetsTheBounds := by
  have hlive : ∀ r : RangeId, (State.reset.range r).stored = if r = 0 then some .global else none := by
    intro r
    simp only [State.range, State.reset, Vector.getElem_set]
    split <;> rename_i h
    · rw [if_pos (Fin.ext h.symm)]
    · rw [if_neg fun e => h (congrArg Fin.val e.symm), Vector.getElem_replicate]
      rfl
  have hstored : ∀ r : RangeId, State.reset.store.ranges[r.val] = if r = 0 then some .global else none := by
    intro r
    simp only [State.reset, Records.delivered, Vector.getElem_set]
    split <;> rename_i h
    · rw [if_pos (Fin.ext h.symm)]
    · rw [if_neg fun e => h (congrArg Fin.val e.symm), Vector.getElem_replicate]
  have hshown (c : Option RangeRec) (h : c = some .global) : shownIfGlobal 0 c := by
    rintro - x hx
    rw [h] at hx
    cases hx
    rfl
  have hlisted (r : RangeId) (c : Option RangeRec) (h : c = if r = 0 then some .global else none) :
      listsAdmin c := by
    intro x hx
    rw [h] at hx
    split at hx <;> cases hx
    rfl
  have hplaces (r : RangeId) (c : RangeRec) : ¬State.reset.places r c := by
    rintro ⟨hr, hc | hc⟩
    · rw [hlive, if_neg hr] at hc; cases hc
    · rw [hstored, if_neg hr] at hc; cases hc
  refine ⟨State.reset_queuesBounded, ⟨?lanes, ?holders, nofun, ?shown, ?listed⟩,
    rfl, fun r c hc => absurd hc (hplaces r c), fun r _ c _ _ hc => absurd hc (hplaces r c)⟩
  case lanes =>
    refine ⟨Nat.le_refl 4, Nat.le_add_right 4 12, fun l hl => ?_⟩
    simp only [State.reset, List.mem_cons, List.not_mem_nil, or_false] at hl
    rcases hl with rfl | rfl | rfl | rfl <;> exact Nat.zero_le _
  case holders =>
    intro r _
    simp only [State.range, State.reset, Vector.getElem_set]
    split
    · rfl
    · rw [Vector.getElem_replicate]; rfl
  case shown =>
    exact ⟨hshown _ (hlive 0), hshown _ (hstored 0), fun e he => absurd he List.not_mem_nil,
      fun f hf => by cases hf⟩
  case listed =>
    exact ⟨fun r => ⟨hlisted r _ (hlive r), hlisted r _ (hstored r)⟩, fun e he => absurd he List.not_mem_nil,
      fun f hf => by cases hf⟩

end Sys2Proof.Machine

/-!
PROOFS. Steps, frames and ports: what a step runs (O1, O2, O55), a frame's bytes read back (O3, O4), and what the
ports answer by themselves (O5, O6).
-/

namespace Sys2Proof.Machine

open Sys2Proof

/-! ## A step and a second -/

/-- Settles O1: the definition of a step, at a queue with a front. -/
theorem stepRunsTheFrontCommand : Obligations.StepRunsTheFrontCommand := by
  intro s c rest h
  rw [step, h]

/-- What a second of powered time leaves as it was, but for the backoff timers. -/
structure State.SameSecond (s t : State) : Prop where
  pending : t.pending = s.pending
  store : t.store = s.store
  backoff : t.backoff = s.backoff

theorem State.SameSecond.of_same {s t : State} (h : (t.pending, t.store, t.backoff) = (s.pending, s.store, s.backoff)) :
    s.SameSecond t := by
  simp only [Prod.mk.injEq] at h
  obtain ⟨hp, hs, hb⟩ := h
  exact ⟨hp, hs, hb⟩

theorem State.SameSecond.trans {s t u : State} (h : s.SameSecond t) (h' : t.SameSecond u) : s.SameSecond u :=
  ⟨h'.pending.trans h.pending, h'.store.trans h.store, h'.backoff.trans h.backoff⟩

theorem State.respond_sameSecond (s : State) (l : Level) (acts : List Act) : s.SameSecond (s.respond l acts) := by
  obtain ⟨_, _, _, _, _, _, _, _, _, _, _, e⟩ := s.respond_frame l acts
  rw [e]
  exact .of_same rfl

theorem State.storeCustody_sameSecond (s : State) (b c : Bool) (acts : List Act) :
    s.SameSecond (s.storeCustody b c acts) := by
  obtain ⟨_, _, e⟩ := s.storeCustody_frame b c acts
  rw [e]
  exact .of_same rfl

theorem State.warn_sameSecond (s : State) : s.SameSecond s.warn :=
  .trans (t := { s with custody := { s.custody with state := .warned } }.notifyBoth .checkinDue)
    (by obtain ⟨_, _, e⟩ := State.notifyBoth_frame { s with custody := { s.custody with state := .warned } } .checkinDue
        rw [e]; exact .of_same rfl)
    (State.storeCustody_sameSecond ..)

theorem State.advanceCheckin_sameSecond (s : State) : s.SameSecond s.advanceCheckin := by
  have hclock (c : CustodyCtl) : s.SameSecond ({ s with custody := c }.updateFinalClocks) := .of_same rfl
  unfold State.advanceCheckin
  dsimp only
  split
  · refine .trans ?_ (State.storeCustody_sameSecond ..)
    split
    · exact (hclock _).trans (State.respond_sameSecond ..)
    · split
      · exact (hclock _).trans (State.warn_sameSecond _)
      · exact hclock _
  · split
    · exact (hclock _).trans (State.respond_sameSecond ..)
    · split
      · exact (hclock _).trans (State.warn_sameSecond _)
      · exact hclock _

theorem State.advanceEscalation_sameSecond (s : State) : s.SameSecond s.advanceEscalation := by
  have hclock (c : CustodyCtl) : s.SameSecond ({ s with custody := c }.updateFinalClocks) := .of_same rfl
  unfold State.advanceEscalation
  dsimp only
  split
  · refine .trans ?_ (State.storeCustody_sameSecond ..)
    split
    · exact (hclock _).trans (State.respond_sameSecond ..)
    · exact hclock _
  · split
    · exact (hclock _).trans (State.respond_sameSecond ..)
    · exact hclock _

/-- The pairing window's expiry changes of the clocks nothing, and not the custody state (R117). -/
theorem State.expireWindow_frame (s : State) :
    ∃ v n q h, s.expireWindow =
      { s with
        custody := { s.custody with window := Config.pairingWindow, verdict := v, foreignCount := n }
        queue := q
        held := h } := by
  unfold State.expireWindow State.becomeForeign
  dsimp only
  split
  · split
    · obtain ⟨q, h, e⟩ := State.storeCustody_frame { s with
        custody := { s.custody with
          window := Config.pairingWindow, verdict := .foreign
          foreignCount := min (s.custody.foreignCount + 1) 15 } } false false [.foreignTest]
      exact ⟨_, _, q, h, e⟩
    · exact ⟨_, _, _, _, rfl⟩
  · exact ⟨_, _, _, _, rfl⟩

/-- The pairing window's second leaves the clocks and the custody state as they were. -/
theorem State.tickWindow_frame (s : State) :
    ∃ w v n d f q h, s.tickWindow =
      { s with
        custody := { s.custody with window := w, verdict := v, foreignCount := n }
        drive := d
        platform := f
        queue := q
        held := h } := by
  unfold State.tickWindow
  split
  · exact ⟨_, _, _, _, _, _, _, rfl⟩
  · split
    · exact ⟨_, _, _, _, _, _, _, rfl⟩
    · obtain ⟨v, n, q, h, e⟩ := s.expireWindow_frame
      rw [e]
      exact ⟨_, _, _, _, _, _, _, rfl⟩

theorem State.tickCheckin_sameSecond (s : State) : s.SameSecond s.tickCheckin := by
  unfold State.tickCheckin
  split
  · exact .of_same rfl
  · split
    · exact .of_same rfl
    · exact s.advanceCheckin_sameSecond.trans (.of_same (by rfl))

theorem State.tickEscalation_sameSecond (s : State) : s.SameSecond s.tickEscalation := by
  unfold State.tickEscalation
  split
  · exact .of_same rfl
  · split
    · exact .of_same rfl
    · exact s.advanceEscalation_sameSecond.trans (.of_same (by rfl))

/-- A response moves no clock but the escalation clock (R122, R123). -/
theorem State.respond_checkin (s : State) (l : Level) (acts : List Act) :
    (s.respond l acts).custody.checkin = s.custody.checkin := by
  unfold State.respond
  split
  · obtain ⟨d, f, v, la, e⟩ := s.conceal_frame
    dsimp only
    obtain ⟨sc, n, q, h, e'⟩ := State.storeResponse_frame (State.raiseIf s.custody.state.inUse
      (if (s.custody.state.inUse && decide (s.lane.link = .held)) = true then
        ({ (if s.custody.state.inUse = true then s.conceal else s) with
          custody := { (if s.custody.state.inUse = true then s.conceal else s).custody with
            state := l.target } }.notifyBoth .custodyChanged).notify .drive .laneLinkUp
      else { (if s.custody.state.inUse = true then s.conceal else s) with
          custody := { (if s.custody.state.inUse = true then s.conceal else s).custody with
            state := l.target } }.notifyBoth .custodyChanged)) s.custody.state acts
    rw [e']
    cases s.custody.state.inUse
    · simp [State.raiseIf]
    · cases s.lane.link <;> simp [State.raiseIf, e]
  · rfl

theorem State.advanceEscalation_checkin (s : State) : s.advanceEscalation.custody.checkin = s.custody.checkin := by
  unfold State.advanceEscalation
  dsimp only
  split
  · obtain ⟨q, h, e⟩ := State.storeCustody_frame _ false false []
    rw [e]
    split
    · exact State.respond_checkin ..
    · rfl
  · split
    · exact State.respond_checkin ..
    · rfl

theorem State.tickEscalation_checkin (s : State) : s.tickEscalation.custody.checkin = s.custody.checkin := by
  unfold State.tickEscalation
  split
  · rfl
  · split
    · rfl
    · exact s.advanceEscalation_checkin

/-- The two custody clocks never count together: the check-in clock counts in GUARDED and WARNED, the escalation
clock in CONCEALED (R118, R120). -/
theorem State.escalationCounting_of_checkinCounting {s : State} (h : s.checkinCounting = true) :
    s.escalationCounting = false := by
  simp only [State.checkinCounting, Custody.inUse, Bool.and_eq_true, Bool.or_eq_true, decide_eq_true_iff] at h
  rcases h.1.1 with h | h <;> simp [State.escalationCounting, h]

/-- Settles O2: each of the second's four parts, with what it leaves. -/
theorem idleStepIsOneSecond : Obligations.IdleStepIsOneSecond := by
  intro s hidle
  have hstep : step s = .next s.tick := by rw [step, hidle]
  refine ⟨fun hp => by rw [hstep, State.tick, hp]; rfl, fun hp => ⟨s.tick, hstep, ?_⟩⟩
  obtain ⟨w, v, n, d, f, q, h, hwindow⟩ := s.tickBackoff.tickWindow_frame
  have htick : s.tick =
      if s.escalationCounting then s.tickBackoff.tickWindow.tickCheckin.tickEscalation
      else s.tickBackoff.tickWindow.tickCheckin := by rw [State.tick, hp]; rfl
  have hcounting : s.tickBackoff.tickWindow.checkinCounting = s.checkinCounting := by rw [hwindow]; rfl
  have hsame : s.tickBackoff.SameSecond s.tick := by
    have hcheckin : s.tickBackoff.SameSecond s.tickBackoff.tickWindow.tickCheckin :=
      .trans (by rw [hwindow]; exact .of_same rfl) (State.tickCheckin_sameSecond _)
    rw [htick]
    split
    · exact hcheckin.trans (State.tickEscalation_sameSecond _)
    · exact hcheckin
  refine ⟨hsame.pending.trans hidle, hsame.store, fun a => ?_, fun hc => ?_, fun hc hsecs => ?_⟩
  · rw [hsame.backoff]
    exact getElem_mapVec ..
  · have hstill : s.tickBackoff.tickWindow.tickCheckin.custody.checkin = s.custody.checkin := by
      rw [State.tickCheckin, hcounting, hc, hwindow]
      rfl
    rw [htick]
    split
    · exact (State.tickEscalation_checkin _).trans hstill
    · exact hstill
  · have hlt : s.tickBackoff.tickWindow.custody.checkinSecs + 1 < Config.minute := by
      rw [hwindow]
      exact Nat.add_lt_add_right hsecs 1
    rw [htick, State.escalationCounting_of_checkinCounting hc, State.tickCheckin, hcounting, hc]
    simp only [Bool.not_true, Bool.false_eq_true, if_false, hlt, if_true]
    rw [hwindow]
    exact ⟨rfl, rfl⟩

/-- A load reads the records, the marker, the input's level, the random source and the commands waiting. -/
theorem State.load_congr {s t : State} (hstore : s.store = t.store) (hmarker : s.startMarker = t.startMarker)
    (hwarning : s.supplyWarning = t.supplyWarning) (hdraws : s.draws = t.draws) (hpending : s.pending = t.pending)
    (kept : Bool) (c : StartCause) : s.load kept c = t.load kept c := by
  simp only [State.load, hstore, hmarker, hwarning, hdraws, hpending]

/-- So does a start. -/
theorem State.start_congr {s t : State} (hstore : s.store = t.store) (hmarker : s.startMarker = t.startMarker)
    (hwarning : s.supplyWarning = t.supplyWarning) (hdraws : s.draws = t.draws) (hpending : s.pending = t.pending)
    (kept : Bool) : s.start kept = t.start kept := by
  have hload (c : StartCause) : { s with startMarker := true }.load true c = { t with startMarker := true }.load true c :=
    State.load_congr (s := { s with startMarker := true }) (t := { t with startMarker := true })
      hstore rfl hwarning hdraws hpending true c
  unfold State.start
  dsimp only
  rw [hload, hmarker, hwarning]

/-- Settles O55: both states load alike. -/
theorem startForgetsWhatWasHeld : Obligations.StartForgetsWhatWasHeld := by
  intro s t kept hstore hmarker hwarning hdraws hpending
  refine ⟨congrArg Host.Outcome.next (State.start_congr hstore hmarker hwarning hdraws hpending kept), ?_⟩
  rintro u ⟨⟩
  refine congrArg Host.Outcome.next ?_
  split
  · exact State.start_congr rfl rfl rfl rfl rfl kept
  · rfl

/-! ## Frames -/

@[simp] theorem length_leBytes (n x : Nat) : (leBytes n x).length = n := by
  induction n generalizing x with
  | zero => rfl
  | succ n ih => simp [leBytes, ih]

theorem leNat_leBytes (n x : Nat) : leNat (leBytes n x) = x % 256 ^ n := by
  induction n generalizing x with
  | zero => simp [leBytes, leNat, Nat.mod_one]
  | succ n ih =>
    rw [leBytes, leNat, ih, BitVec.toNat_ofNat, pow_succ' 256 n, Nat.mod_mul]

/-- The bytes of a frame, field by field. -/
theorem frameBytes_eq (kind tag : Byte) (payload : List Byte) :
    frameBytes kind tag payload =
      [0x5E#8, kind, tag] ++ leBytes 2 payload.length ++ payload ++
        leBytes 2 (crc16 (kind :: tag :: (leBytes 2 payload.length ++ payload))).toNat := by
  simp [frameBytes]

@[simp] theorem length_frameBytes (kind tag : Byte) (payload : List Byte) :
    (frameBytes kind tag payload).length = 7 + payload.length := by
  simp [frameBytes_eq]
  omega

/-- Any transaction that carries at least a frame's five first bytes carries its length. -/
theorem fieldAt_length {kind tag : Byte} {payload bytes : List Byte} (hp : payload.length ≤ 256)
    (hb : bytes.take 5 = [0x5E#8, kind, tag] ++ leBytes 2 payload.length) : fieldAt bytes 3 2 = payload.length := by
  have h : (bytes.drop 3).take 2 = leBytes 2 payload.length := by
    rw [List.take_drop, hb]
    rfl
  rw [fieldAt, h, leNat_leBytes]
  omega

theorem take_five_frameBytes (kind tag : Byte) (payload rest : List Byte) :
    (frameBytes kind tag payload ++ rest).take 5 = [0x5E#8, kind, tag] ++ leBytes 2 payload.length := by
  simp [frameBytes_eq]

/-- The body that a frame's check covers: the kind, the tag, the length and the payload (R174). -/
theorem drop_one_frameBytes (kind tag : Byte) (payload rest : List Byte) :
    ((frameBytes kind tag payload ++ rest).drop 1).take (4 + payload.length) =
      kind :: tag :: (leBytes 2 payload.length ++ payload) := by
  simp [frameBytes_eq, List.take_cons, List.take_append]

theorem readFrame_frameBytes {kind tag : Byte} {payload : List Byte} (hp : payload.length ≤ 256)
    (rest : List Byte) : readFrame (frameBytes kind tag payload ++ rest) = .frame kind tag payload := by
  have hlen := fieldAt_length hp (take_five_frameBytes kind tag payload rest)
  have hcheck : fieldAt (frameBytes kind tag payload ++ rest) (5 + payload.length) 2 =
      (crc16 (kind :: tag :: (leBytes 2 payload.length ++ payload))).toNat := by
    have hbytes : frameBytes kind tag payload ++ rest =
        ([0x5E#8, kind, tag] ++ leBytes 2 payload.length ++ payload) ++
          (leBytes 2 (crc16 (kind :: tag :: (leBytes 2 payload.length ++ payload))).toNat ++ rest) := by
      rw [frameBytes_eq, List.append_assoc]
    rw [fieldAt, hbytes, List.drop_left' (by simp; omega), List.take_left' (by simp), leNat_leBytes]
    exact Nat.mod_eq_of_lt (BitVec.isLt _)
  have hpayload : ((frameBytes kind tag payload ++ rest).drop 5).take payload.length = payload := by
    simp [frameBytes_eq, leBytes]
  have hmark : byteAt (frameBytes kind tag payload ++ rest) 0 = 0x5E := by simp [frameBytes_eq, byteAt]
  unfold readFrame
  dsimp only
  rw [hlen, drop_one_frameBytes, hcheck, hpayload, hmark, if_neg (by simp; omega), if_neg (by simp; omega)]
  simp [frameBytes_eq]

/-- Cut before its last check byte, a frame is a link break (R173). -/
theorem readFrame_take_frameBytes {kind tag : Byte} {payload : List Byte} (hp : payload.length ≤ 256) {n : Nat}
    (hn : n < (frameBytes kind tag payload).length) :
    readFrame ((frameBytes kind tag payload).take n) = .linkBreak := by
  rw [length_frameBytes] at hn
  have hshort : ((frameBytes kind tag payload).take n).length = n := by simp; omega
  unfold readFrame
  dsimp only
  rw [if_pos]
  rw [hshort]
  by_cases h5 : n < 5
  · exact .inl h5
  · have htake : ((frameBytes kind tag payload).take n).take 5 =
        [0x5E#8, kind, tag] ++ leBytes 2 payload.length := by
      rw [List.take_take, Nat.min_eq_left (by omega)]
      simpa using take_five_frameBytes kind tag payload []
    rw [fieldAt_length hp htake]
    exact .inr ⟨hp, hn⟩

/-- Settles O3. -/
theorem frameReadsBack : Obligations.FrameReadsBack :=
  fun _ _ _ hp => ⟨readFrame_frameBytes hp, fun _ hn => readFrame_take_frameBytes hp hn⟩

theorem ofCode_code (k : ReqKind) : ReqKind.ofCode k.code = some k := by
  cases k <;> rfl

/-- A frame's first byte is not the read marker, so it never reads as a read transaction (R185). -/
theorem commandOfDriveTransaction_frameBytes (slotFull : Bool) (kind tag : Byte) (payload : List Byte) :
    commandOfDriveTransaction slotFull (frameBytes kind tag payload) =
      commandOfRequestTransaction slotFull .drive (frameBytes kind tag payload) := by
  rw [frameBytes_eq]
  rfl

/-- Settles O4: the frame reads back, and its kind is a request's. -/
theorem requestFrameIsItsCommand : Obligations.RequestFrameIsItsCommand := by
  intro k tag payload hp
  have hread := readFrame_frameBytes (kind := k.code) (tag := tag) hp []
  rw [List.append_nil] at hread
  simp only [commandOfDriveTransaction_frameBytes, commandOfRequestTransaction, hread, ofCode_code]
  exact ⟨rfl, rfl⟩

/-! ## Frames that reach no owner -/

/-- Every request's command is its transaction with its owner (R173, R176). -/
theorem exec_requestCommand (k : ReqKind) (p : Port) (tag : Byte) (pl : List Byte) :
    ∃ owner, ∀ s, exec (requestCommand k p tag pl) s = .next (takeRequest k p tag pl owner s) := by
  cases k
  case setAuthority =>
    unfold requestCommand
    dsimp only
    split <;> exact ⟨_, fun _ => rfl⟩
  all_goals exact ⟨_, fun _ => rfl⟩

/-- Settles O5: with no RESTART waiting the transaction's end is all that the state meets, and the port's own reply
goes into an empty slot. -/
theorem framesThatReachNoOwner : Obligations.FramesThatReachNoOwner := by
  intro s p hp hr
  have hsettle := State.settle_of_none hr
  have hdiscard : (if s.powered then (s.settle p).endTransaction p else s) = s.setPort p (s.port p).heard := by
    rw [hp, hsettle]
    rfl
  refine ⟨fun i => rfl, fun _ => congrArg _ hdiscard, fun hslot => ?_, fun hslot => ?_⟩
  · have hkind (kind : Byte) : unknownReplyKind kind = if kind.toNat < 0x80 then kind + 0x80 else kind := by
      rw [unknownReplyKind, ← ite_not]
      simp only [not_le]
    refine ⟨fun _ => ?_, fun kind tag _ => ?_⟩
    · simp [exec, execGarbledFrame, takeFrame, hp, hsettle, hslot, State.endTransaction, State.reply, PortState.heard]
    · simp [exec, execUnknownKind, takeFrame, hp, hsettle, hslot, State.endTransaction, State.reply, PortState.heard,
        hkind]
  · have hframe (f : State → State) : takeFrame p f s = s.setPort p (s.port p).heard := by
      simp [takeFrame, hp, hsettle, hslot, State.endTransaction, PortState.heard]
    refine ⟨fun _ => ⟨congrArg _ hdiscard, congrArg _ (hframe _)⟩, fun _ _ _ => congrArg _ (hframe _),
      fun k tag pl => ?_⟩
    obtain ⟨owner, hexec⟩ := exec_requestCommand k p tag pl
    rw [hexec, takeRequest_of_unread hp hslot hr]

/-- Settles O6: the first check that fails gives the code. -/
theorem portChecksAnswerInOrder : Obligations.PortChecksAnswerInOrder := by
  intro s k p tag pl hs
  obtain ⟨owner, hexec⟩ := exec_requestCommand k p tag pl
  have hrefused {r : Result} (h : frameRefusal s k p pl = some r) :
      exec (requestCommand k p tag pl) s = .next (s.setPort p ((s.port p).answered k tag (.code r))) := by
    rw [hexec, takeRequest_of_refused hs h]
  refine ⟨fun hserved => hrefused ?_, fun hserved hlen => hrefused ?_,
    fun hserved hlen hflight hresolve hstatus => hrefused ?_⟩
  · simp [frameRefusal, hserved]
  · simp [frameRefusal, hserved, hlen]
  · simp [frameRefusal, hserved, hlen, hflight, exemptFromBusy, hresolve, hstatus]

end Sys2Proof.Machine

/-!
PROOFS. Requests of the Range Table as events: a request answered at once, one that enters its commits, and the
completion of a commit that the reply waits for; then PRESENT and GEOMETRY.
-/

namespace Sys2Proof.Machine

open Sys2Proof

/-! ## A request's transaction -/

theorem frameRefusal_of_ready {s : State} {k : ReqKind} {p : Port} {pl : List Byte} (hs : (s.port p).inFlight = none)
    (hserved : servedOn k p = true) (hlen : admitsLength k pl = true) : frameRefusal s k p pl = none := by
  simp [frameRefusal, hserved, hlen, hs]

/-- A request that its owner answers at once: its port's reply alone (R174). -/
theorem takeRequest_of_reply {s : State} {p : Port} (hs : s.Hears p) {k : ReqKind} {pl : List Byte}
    (h : frameRefusal s k p pl = none) {tag : Byte} {owner : State → State} {b : ReplyBody}
    (howner : owner (s.endTransaction p) = (s.endTransaction p).replyTo k p tag b) :
    takeRequest k p tag pl owner s = s.setPort p ((s.port p).answered k tag b) :=
  takeRequest_of_quiet hs h tag (howner.trans (s.replyTo_endTransaction k p tag b))
    (State.notices_setPort_le (Nat.le_refl _))

theorem State.startWork_endTransaction (s : State) (q : List Entry) (k : ReqKind) (p : Port) (tag : Byte) (w : Work) :
    { s.endTransaction p with queue := q }.startWork k p tag w =
      { s with queue := q }.setPort p ((s.port p).flying k tag w) := by
  cases p <;> rfl

theorem State.beginCommit_of_refused {s : State} {ws : List Entry} {r : Result}
    (h : s.refusesWrites (ws.map (·.key)) = some r) (k : ReqKind) (p : Port) (tag : Byte) :
    s.beginCommit k p tag ws = s.replyTo k p tag (.code r) := by
  simp [State.beginCommit, h]

/-- One commit of a request that begins with it, into an empty queue. -/
theorem State.beginCommit_one {s : State} (hq : s.queue = []) (hh : s.held = []) (hw : s.supplyWarning = false)
    (k : ReqKind) (p : Port) (tag : Byte) (w : Entry) :
    s.beginCommit k p tag [w] = { s with queue := [w] }.startWork k p tag .committing := by
  simp only [State.beginCommit, State.refusesWrites_of_empty hq hh hw ([w].map (·.key)) (by decide : 1 ≤ 4),
    State.enterAll_one_of_empty hq hh]

theorem State.refusesWrites_of_warning {s : State} (h : s.supplyWarning = true) (keys : List EntryKey) :
    s.refusesWrites keys = some .deferred := by
  simp [State.refusesWrites, h]

/-- No waiting entry holds the record. -/
theorem State.willMerge_single {s : State} {r : RecordId}
    (h : ∀ e ∈ s.queue.tail, ∀ x ∈ e.writes, x.record ≠ some r) : s.willMerge (.single r) = false := by
  refine List.any_eq_false.2 fun e he => ?_
  simpa [Entry.holds, Entry.contains] using fun _ => h e he

/-- A full queue, or one that a held write waits for, takes no write that does not merge (R153). -/
theorem State.refusesWrites_of_full {s : State} (hw : s.supplyWarning = false)
    (hfull : 4 ≤ nonFinal s.queue ∨ s.held ≠ []) {r : RecordId} (h : s.willMerge (.single r) = false) :
    s.refusesWrites [.single r] = some .busy := by
  have hfree : s.freeEntries = 0 := by
    unfold State.freeEntries
    split
    · rename_i hheld
      obtain hfour | hne := hfull
      · simp only [Config.queueCapacity]
        omega
      · exact absurd (List.isEmpty_iff.1 hheld) hne
    · rfl
  simp [State.refusesWrites, hw, hfree, h]

theorem State.refusesWrites_endTransaction (s : State) (p : Port) (keys : List EntryKey) :
    (s.endTransaction p).refusesWrites keys = s.refusesWrites keys := by
  cases p <;> rfl

/-- A request whose commits the store refuses is answered by the refusal's code (R153). -/
theorem takeRequest_of_refusedCommit {s : State} {p : Port} (hs : s.Hears p) {k : ReqKind} {pl : List Byte}
    (h : frameRefusal s k p pl = none) {tag : Byte} {owner : State → State} {ws : List Entry} {r : Result}
    (howner : owner (s.endTransaction p) = (s.endTransaction p).beginCommit k p tag ws)
    (hr : s.refusesWrites (ws.map (·.key)) = some r) :
    takeRequest k p tag pl owner s = s.setPort p ((s.port p).answered k tag (.code r)) :=
  takeRequest_of_reply hs h
    (howner.trans (State.beginCommit_of_refused ((s.refusesWrites_endTransaction p _).trans hr) k p tag))

/-- A request that begins with its one commit, into an empty queue. -/
theorem takeRequest_of_commit {s : State} {p : Port} (hs : s.Hears p) {k : ReqKind} {pl : List Byte}
    (h : frameRefusal s k p pl = none) {tag : Byte} {owner : State → State} {w : Entry}
    (howner : owner (s.endTransaction p) = (s.endTransaction p).beginCommit k p tag [w])
    (hq : s.queue = []) (hh : s.held = []) (hw : s.supplyWarning = false) :
    takeRequest k p tag pl owner s = { s with queue := [w] }.setPort p ((s.port p).flying k tag .committing) := by
  have hcommit : owner (s.endTransaction p) =
      { s with queue := [w] }.setPort p ((s.port p).flying k tag .committing) := by
    rw [howner, State.beginCommit_one (by simpa using hq) (by simpa using hh) (by simpa using hw),
      State.startWork_endTransaction]
  refine takeRequest_of_quiet hs h tag hcommit fun p' => ?_
  cases p <;> cases p' <;> exact Nat.le_refl _

/-! ## Completions -/

/-- The only entry completes: its writes are made and then its effects happen (R150). -/
theorem exec_commitComplete_of_one {s : State} (hp : s.powered = true) {e : Entry} (hq : s.queue = [e])
    (hh : s.held = []) :
    exec .commitComplete s = .next (State.sealEvent s (e.acts.foldl State.act (s.committed e []))) := by
  have hhead : s.completeHead = e.acts.foldl State.act (s.committed e []) := by
    rw [State.completeHead_of_cons hq, hh]
    rfl
  calc exec .commitComplete s = .next (deviceEvent State.completeHead s) := rfl
    _ = _ := by rw [deviceEvent_of_powered hp, hhead]

/-- The head entry completes with no write held: the next entry is the head. -/
theorem exec_commitComplete_of_cons {s : State} (hp : s.powered = true) {e : Entry} {rest : List Entry}
    (hq : s.queue = e :: rest) (hh : s.held = []) :
    exec .commitComplete s = .next (State.sealEvent s (e.acts.foldl State.act (s.committed e rest))) := by
  have hhead : s.completeHead = e.acts.foldl State.act (s.committed e rest) := by
    rw [State.completeHead_of_cons hq, hh]
    rfl
  calc exec .commitComplete s = .next (deviceEvent State.completeHead s) := rfl
    _ = _ := by rw [deviceEvent_of_powered hp, hhead]

@[simp] theorem PortState.inFlight_push (q : PortState) (n : Notice) : (q.push n).inFlight = q.inFlight := by
  unfold PortState.push
  split <;> rfl

@[simp] theorem PortState.replySlot_push (q : PortState) (n : Notice) : (q.push n).replySlot = q.replySlot := by
  unfold PortState.push
  split <;> rfl

theorem PortState.push_committing (q : PortState) (n : Notice) (k : ReqKind) (tag : Byte) :
    (q.push n).committing k tag = (q.committing k tag).push n := by
  unfold PortState.push PortState.committing
  split <;> rfl

theorem PortState.push_finished (q : PortState) (n : Notice) (r : Option Reply) (f : Option InFlight) :
    { q.push n with replySlot := r, inFlight := f } = { q with replySlot := r, inFlight := f }.push n := by
  unfold PortState.push
  split <;> rfl

/-- The answer of a request in flight, into the empty slot, that queued no notice (R178, R180). -/
theorem State.sealEvent_answer {s x : State} {p : Port} {k : ReqKind} {tag : Byte} {w : Work}
    (hflight : (x.port p).inFlight = some ⟨k, tag, w⟩) (hslot : (x.port p).replySlot = none)
    (hd : x.drive.notices.length ≤ s.drive.notices.length)
    (hp : x.platform.notices.length ≤ s.platform.notices.length) (b : ReplyBody) :
    State.sealEvent s (x.answer p b) = x.setPort p ((x.port p).finished k tag b) := by
  rw [State.answer_of_empty hflight hslot, State.sealEvent_of_quiet]
  · rfl
  · cases p
    · exact hd
    · exact hd
  · cases p
    · exact hp
    · exact hp

/-- The answer behind an increment of the epoch, the event's only notice (R22, R178, R180). -/
theorem State.sealEvent_raiseEpoch_answer {s x : State} {k : ReqKind} {tag : Byte} {w : Work}
    (hflight : x.drive.inFlight = some ⟨k, tag, w⟩) (hslot : x.drive.replySlot = none)
    (hd : x.drive.notices.length = s.drive.notices.length)
    (hp : x.platform.notices.length ≤ s.platform.notices.length) (b : ReplyBody) :
    State.sealEvent s (x.raiseEpoch.answer .drive b) =
      { x with
        epoch := x.epoch + 1
        drive := (x.drive.finished k tag b).push (changed (x.epoch + 1) x.custody.state) } := by
  have hraised : (x.raiseEpoch.port .drive).inFlight = some ⟨k, tag, w⟩ ∧ (x.raiseEpoch.port .drive).replySlot = none := by
    exact ⟨(x.drive.inFlight_push _).trans hflight, (x.drive.replySlot_push _).trans hslot⟩
  have hseal : State.sealEvent s (x.raiseEpoch.answer .drive b) =
      (State.sealEvent s x.raiseEpoch).setPort .drive
        { (State.sealEvent s x.raiseEpoch).drive with
          replySlot := some ⟨replyKind k, tag, b⟩, inFlight := none } := by
    rw [State.answer_of_empty hraised.1 hraised.2]
    rfl
  rw [hseal, State.sealEvent_raiseEpoch hd hp]
  simp only [State.raiseEpoch_drive, PortState.push_finished]
  rfl

/-! ## PRESENT (R19) -/

/-- A request that its owner answers behind a conditional increment of the epoch, the event's only notice. -/
theorem takeRequest_of_raiseIf {s x : State} (hs : s.Hears .drive) {k : ReqKind} {pl : List Byte}
    (h : frameRefusal s k .drive pl = none) {tag : Byte} {owner : State → State} {c : Bool} {b : ReplyBody}
    (howner : owner (s.endTransaction .drive) = (State.raiseIf c x).replyTo k .drive tag b)
    (hd : x.drive = s.drive.heard) (hp : x.platform = s.platform) :
    takeRequest k .drive tag pl owner s =
      { x with
        epoch := if c then x.epoch + 1 else x.epoch
        drive :=
          let q := s.drive.answered k tag b
          if c then q.push (changed (x.epoch + 1) x.custody.state) else q } := by
  rw [takeRequest_of_taken hs h, howner, State.sealEvent_raiseIf_replyTo, State.raiseIf_replyTo, hd]
  · rfl
  · rw [hd]
    rfl
  · rw [hp]
    rfl

/-- Settles O15: the owner's three modes. -/
theorem presentShowsTheDrive : Obligations.PresentShowsTheDrive := by
  intro s tag ⟨hs, hflight⟩
  have hport := frameRefusal_of_ready (k := .present) (pl := []) hflight rfl rfl
  refine ⟨fun hmode => ?_, fun hmode => congrArg Host.Outcome.next ?_, fun hmode => congrArg Host.Outcome.next ?_⟩
  · have howner : presentOwner tag (s.endTransaction .drive) =
        (State.raiseIf true { s.endTransaction .drive with mode := .normal }).replyTo .present .drive tag
          (.epoch .ok (s.epoch + 1)) := by
      simp only [presentOwner, State.endTransaction_mode, hmode]
      rfl
    exact congrArg Host.Outcome.next (takeRequest_of_raiseIf hs hport howner rfl rfl)
  · exact takeRequest_of_reply hs hport (by simp [presentOwner, hmode])
  · exact takeRequest_of_reply hs hport (by simp [presentOwner, hmode])

/-! ## GEOMETRY (R8) -/

/-- Settles O16: the owner's checks in their order, the Identity commit, and its completion. -/
theorem geometryIsSetOnce : Obligations.GeometryIsSetOnce := by
  intro s tag pl hlen m i legal answer entry
  have hexec (x : State) : exec (.geometry .drive tag pl) x =
      .next (takeRequest .geometry .drive tag pl (geometryOwner tag pl) x) := rfl
  refine ⟨fun ⟨hs, hflight⟩ => ?_, fun ⟨⟨hp, hslot, _⟩, hflight, hq, hh⟩ => ?_⟩
  · have hport := frameRefusal_of_ready (k := .geometry) (pl := pl) hflight rfl (by simp [admitsLength, hlen])
    have hrefused {r : Result} (howner : geometryOwner tag pl (s.endTransaction .drive) =
        (s.endTransaction .drive).replyTo .geometry .drive tag (.code r)) :
        exec (.geometry .drive tag pl) s = answer r := by
      rw [hexec, takeRequest_of_reply hs hport howner]
      rfl
    have hparse : parseGeometry pl = if legal then some ⟨m, i⟩ else none := by
      have hi : fieldAt pl 6 4 = i := by
        rw [fieldAt, List.take_of_length_le (by simp [hlen])]
      rw [parseGeometry, hi]
      rfl
    refine ⟨fun hstate => hrefused (by simp [geometryOwner, hstate]), fun hopen hnone =>
      ⟨fun hill => hrefused ?_, fun hleg => ?_⟩⟩
    · simp [geometryOwner, hopen, hnone, hparse, hill]
    · have howner : geometryOwner tag pl (s.endTransaction .drive) =
          (s.endTransaction .drive).beginCommit .geometry .drive tag [entry] := by
        simp [geometryOwner, hopen, hnone, hparse, hleg]
        rfl
      refine ⟨fun hw => ?_, fun hw => ⟨fun hfull hno => ?_, fun hq hh => ?_⟩⟩
      · exact congrArg Host.Outcome.next
          (takeRequest_of_refusedCommit hs hport howner (State.refusesWrites_of_warning hw _))
      · exact congrArg Host.Outcome.next (takeRequest_of_refusedCommit hs hport howner
          (State.refusesWrites_of_full hw hfull (State.willMerge_single hno)))
      · exact congrArg Host.Outcome.next (takeRequest_of_commit hs hport howner hq hh hw)
  · rw [exec_commitComplete_of_one hp hq hh]
    refine congrArg _ ((State.sealEvent_raiseEpoch_answer (x := { s.committed entry [] with geometry := some ⟨m, i⟩ })
      hflight hslot rfl (Nat.le_refl _) _).trans ?_)
    rfl

end Sys2Proof.Machine

/-!
PROOFS. The Range Table's credentialed requests, SET_RANGE, DROP_RANGE, GRANT, REVOKE and REKEY: what each does at its
refund, with the commit queue empty behind it, and what the completion of its commits does.
-/

namespace Sys2Proof.Machine

open Sys2Proof

/-! ## At the refund -/

theorem Custody.inUse_iff {c : Custody} : c.inUse = true ↔ c = .guarded ∨ c = .warned := by
  simp [Custody.inUse]

theorem Custody.inUse_eq_false_iff {c : Custody} : c.inUse = false ↔ ¬(c = .guarded ∨ c = .warned) := by
  rw [← Custody.inUse_iff, Bool.not_eq_true]

/-- A request answered at its refund: the refund taken and the reply, nothing else. -/
theorem exec_refund_of_answer {s : State} {k : ReqKind} {tag : Byte} {a : AuthId} {req : CredReq} {t : TriesRec}
    (h : s.AtRefund k tag a req t) {b : ReplyBody}
    (hgo : (s.refundTaken a t).afterCheck a req = (s.refundTaken a t).answer .drive b) :
    exec .commitComplete s = .next { s.refundTaken a t with drive := s.drive.finished k tag b } := by
  rw [exec_commitComplete_of_refund h, hgo]
  obtain ⟨⟨-, hslot, -⟩, hflight, -, -⟩ := h
  exact congrArg Host.Outcome.next
    (State.sealEvent_answer (x := s.refundTaken a t) (p := .drive) hflight hslot (Nat.le_refl _) (Nat.le_refl _) b)

/-- A request that enters its commits at its refund and queues no notice. -/
theorem exec_refund_of_commit {s : State} {k : ReqKind} {tag : Byte} {a : AuthId} {req : CredReq} {t : TriesRec}
    (h : s.AtRefund k tag a req t) {x : State} {ws : List Entry}
    (hgo : (s.refundTaken a t).afterCheck a req = { x with queue := ws }.setWork .drive .committing)
    (hd : x.drive = s.drive) (hp : x.platform = s.platform) :
    exec .commitComplete s = .next { x with queue := ws, drive := s.drive.committing k tag } := by
  have hwork : { x with queue := ws }.setWork .drive .committing =
      { x with queue := ws, drive := s.drive.committing k tag } := by
    obtain ⟨-, hflight, -, -⟩ := h
    simp [State.setWork, hd, hflight, PortState.committing, State.setPort]
  rw [exec_commitComplete_of_refund h, hgo, hwork]
  exact congrArg Host.Outcome.next (State.sealEvent_of_quiet (Nat.le_refl _) (by rw [hp]))

/-- A request that enters its commits at its refund behind a conditional increment of the epoch, the event's only
notice. -/
theorem exec_refund_of_raisingCommit {s : State} {k : ReqKind} {tag : Byte} {a : AuthId} {req : CredReq} {t : TriesRec}
    (h : s.AtRefund k tag a req t) {x : State} {c : Bool} {ws : List Entry}
    (hgo : (s.refundTaken a t).afterCheck a req =
      { State.raiseIf c x with queue := ws }.setWork .drive .committing)
    (hd : x.drive = s.drive) (hp : x.platform = s.platform) :
    exec .commitComplete s =
      .next { x with
        epoch := if c then x.epoch + 1 else x.epoch
        queue := ws
        drive :=
          let q := s.drive.committing k tag
          if c then q.push (changed (x.epoch + 1) x.custody.state) else q } := by
  cases c
  · exact exec_refund_of_commit h hgo hd hp
  · rw [exec_commitComplete_of_refund h, hgo]
    obtain ⟨-, hflight, -, -⟩ := h
    have hraised : { State.raiseIf true x with queue := ws }.setWork .drive .committing =
        { x with queue := ws, drive := s.drive.committing k tag }.raiseEpoch := by
      have hport : { x.drive.push (changed (x.epoch + 1) x.custody.state) with
          inFlight := (x.drive.push (changed (x.epoch + 1) x.custody.state)).inFlight.map fun f =>
            { f with work := .committing } } =
          (s.drive.committing k tag).push (changed (x.epoch + 1) x.custody.state) := by
        rw [PortState.inFlight_push, hd, hflight]
        exact s.drive.push_committing ..
      exact congrArg (fun d : PortState => { x with epoch := x.epoch + 1, queue := ws, drive := d }) hport
    rw [hraised]
    exact congrArg Host.Outcome.next (State.sealEvent_raiseEpoch rfl (by rw [hp]))

/-! ## At a completion -/

/-- The completion that a reply waits for, where it queued no notice. -/
theorem exec_completion_of_answer {s : State} {p : Port} {k : ReqKind} {tag : Byte} {e : Entry}
    (h : s.AtCommit p k tag e) {x : State} {b : ReplyBody}
    (hacts : e.acts.foldl State.act (s.committed e []) = x.answer p b)
    (hd : x.drive = s.drive) (hp : x.platform = s.platform) :
    exec .commitComplete s = .next (x.setPort p ((s.port p).finished k tag b)) := by
  obtain ⟨⟨hpowered, hslot, -⟩, hflight, hq, hh⟩ := h
  have hport : x.port p = s.port p := by cases p <;> assumption
  rw [← hport] at hflight hslot
  rw [exec_commitComplete_of_one hpowered hq hh, hacts, State.sealEvent_answer hflight hslot (by rw [hd]) (by rw [hp]), hport]

/-- The completion that a reply waits for, behind an increment of the epoch that is the event's only notice. -/
theorem exec_completion_of_raise {s : State} {k : ReqKind} {tag : Byte} {e : Entry}
    (h : s.AtCommit .drive k tag e) {x : State} {b : ReplyBody}
    (hacts : e.acts.foldl State.act (s.committed e []) = x.raiseEpoch.answer .drive b)
    (hd : x.drive = s.drive) (hp : x.platform = s.platform) :
    exec .commitComplete s =
      .next { x with
        epoch := x.epoch + 1
        drive := (s.drive.finished k tag b).push (changed (x.epoch + 1) x.custody.state) } := by
  obtain ⟨⟨hpowered, hslot, -⟩, hflight, hq, hh⟩ := h
  simp only [State.port_drive, ← hd] at hflight hslot ⊢
  rw [exec_commitComplete_of_one hpowered hq hh, hacts,
    State.sealEvent_raiseEpoch_answer hflight hslot (by rw [hd]) (by rw [hp])]

/-- The state in which the effects of the only entry begin: its writes made (R155). -/
def State.written (s : State) (ws : List RecordWrite) : State := { s with store := s.store.commit ws, queue := [] }

/-- The completion of an entry with one effect before its answer. -/
theorem exec_completion_of_act {s : State} {p : Port} {k : ReqKind} {tag : Byte} {key : EntryKey}
    {ws : List RecordWrite} {a : Act} {ans : Answer} (h : s.AtCommit p k tag ⟨key, ws, [a, .answer p ans]⟩) {x : State}
    (hact : (s.written ws).act a = x) (hd : x.drive = s.drive) (hp : x.platform = s.platform) :
    exec .commitComplete s = .next (x.setPort p ((s.port p).finished k tag (x.answerBody ans))) := by
  subst hact
  exact exec_completion_of_answer h rfl hd hp

/-- The same where the effect ends in an increment of the epoch. -/
theorem exec_completion_of_raisingAct {s : State} {k : ReqKind} {tag : Byte} {key : EntryKey}
    {ws : List RecordWrite} {a : Act} {ans : Answer}
    (h : s.AtCommit .drive k tag ⟨key, ws, [a, .answer .drive ans]⟩) {x : State}
    (hact : (s.written ws).act a = x.raiseEpoch) (hd : x.drive = s.drive) (hp : x.platform = s.platform) :
    exec .commitComplete s =
      .next { x with
        epoch := x.epoch + 1
        drive := (s.drive.finished k tag (x.raiseEpoch.answerBody ans)).push
          (changed (x.epoch + 1) x.custody.state) } := by
  have hacts : ([a, .answer .drive ans] : List Act).foldl State.act (s.written ws) =
      x.raiseEpoch.answer .drive (x.raiseEpoch.answerBody ans) := by
    rw [← hact]
    rfl
  exact exec_completion_of_raise h hacts hd hp

/-- A Range record's write is the stored record from its completion on (R155). -/
theorem State.storedRange_written (s : State) (r : RangeId) (c : Option RangeRec) :
    (s.written [.range r c]).storedRange r = c := by
  simp [State.storedRange, State.written, Records.commit, Records.write]

/-! ## SET_RANGE -/

theorem mem_explicitRanges {r : RangeId} : r ∈ explicitRanges ↔ r ≠ 0 := by
  revert r
  decide

theorem State.overlaps_iff (s : State) (r : RangeId) (start length : Nat) :
    s.overlaps r start length = true ↔ ∃ q c, q ≠ 0 ∧ q ≠ r ∧ (s.range q).stored = some c ∧
      start < c.start + c.length ∧ c.start < start + length := by
  simp only [State.overlaps, List.any_eq_true, mem_explicitRanges, Bool.and_eq_true, bne_iff_ne]
  refine exists_congr fun q => ?_
  cases (s.range q).stored <;> simp

theorem State.reshapeRefused_iff (s : State) (r : RangeId) (c : RangeRec) (start length : Nat) :
    s.reshapeRefused r c start length = true ↔ (c.start ≠ start ∨ c.length ≠ length) ∧
      (c.state = .void ∨ c.state = .active ∧ (s.range r).hasRight = true) := by
  cases h : c.state <;> simp [State.reshapeRefused, h]

theorem val_ne_zero_iff {r : RangeId} : r.val ≠ 0 ↔ r ≠ 0 := not_congr (Fin.ext_iff (b := 0)).symm

/-- The extent that SET_RANGE admits (R11 step 5). -/
theorem State.extentRefused_iff {s : State} {r : RangeId} {start length : Nat} :
    (r.val ≠ 0 ∧ (length = 0 ∨ s.userSectors / Config.granule < start + length)) ↔
      ¬(r = 0 ∨ 1 ≤ length ∧ start + length ≤ s.userSectors / 8) := by
  simp only [val_ne_zero_iff, Config.granule, not_or, not_and_or]
  exact and_congr_right fun _ => by omega

/-- Past the checks of custody, extent and overlap an absent range is defined (R12). -/
theorem State.goSetRange_of_absent {s : State} {r : RangeId} {start length : Nat}
    (huse : s.custody.state.inUse = true) (hfits : r = 0 ∨ 1 ≤ length ∧ start + length ≤ s.userSectors / 8)
    (hclear : r ≠ 0 → s.overlaps r start length = false) (hstored : (s.range r).stored = none) (v : Visibility)
    (p : SleepPolicy) :
    s.goSetRange r start length v p = s.defineRange r ⟨start, length, v, .active, adminOnly, p⟩ := by
  rw [State.goSetRange, huse, if_neg (by decide), if_neg (fun h => State.extentRefused_iff.1 h hfits),
    if_neg (by simpa [val_ne_zero_iff] using hclear), hstored]

/-- Past the same checks a present range is reshaped or refused (R11 step 8, R13). -/
theorem State.goSetRange_of_present {s : State} {r : RangeId} {start length : Nat}
    (huse : s.custody.state.inUse = true) (hfits : r = 0 ∨ 1 ≤ length ∧ start + length ≤ s.userSectors / 8)
    (hclear : r ≠ 0 → s.overlaps r start length = false) {c : RangeRec} (hstored : (s.range r).stored = some c)
    (v : Visibility) (p : SleepPolicy) :
    s.goSetRange r start length v p =
      if s.reshapeRefused r c start length then s.answer .drive (.code .state)
      else
        s.commitRequest
          [rangeEntry r (some { c with start, length, visibility := v, sleep := p })
            [.rangeEdited r, .answer .drive .epoch]] := by
  rw [State.goSetRange, huse, if_neg (by decide), if_neg (fun h => State.extentRefused_iff.1 h hfits),
    if_neg (by simpa [val_ne_zero_iff] using hclear), hstored]

/-- Settles O17: the owner's checks in their order. -/
theorem setRangeIsRefusedInOrder : Obligations.SetRangeIsRefusedInOrder := by
  intro s tag t r start length v p h answer inUse fits overlap stuck
  have hrefused {x : Result} (hgo : (s.refundTaken 0 t).goSetRange r start length v p =
      (s.refundTaken 0 t).answer .drive (.code x)) : exec .commitComplete s = answer x :=
    exec_refund_of_answer h hgo
  have huse : inUse → (s.refundTaken 0 t).custody.state.inUse = true := Custody.inUse_iff.2
  have hover : (s.refundTaken 0 t).overlaps r start length = true ↔ _ := State.overlaps_iff ..
  refine ⟨fun hno => hrefused ?_, fun hin hbad => hrefused ?_, fun hin hok ⟨hr, hmeets⟩ => hrefused ?_,
    fun hin hok hclear ⟨c, hc, hstuck⟩ => hrefused ?_⟩
  · rw [State.goSetRange, show (s.refundTaken 0 t).custody.state.inUse = false from Custody.inUse_eq_false_iff.2 hno]
    rfl
  · have hbad' : ¬(r = 0 ∨ 1 ≤ length ∧ start + length ≤ (s.refundTaken 0 t).userSectors / 8) := hbad
    rw [State.goSetRange, huse hin, if_neg (by decide), if_pos (State.extentRefused_iff.2 hbad')]
  · rw [State.goSetRange, huse hin, if_neg (by decide), if_neg (fun h => State.extentRefused_iff.1 h (by exact hok)),
      if_pos (by simpa [hr] using hover.2 hmeets)]
  · have hapart : r ≠ 0 → (s.refundTaken 0 t).overlaps r start length = false := fun hr =>
      Bool.eq_false_iff.2 fun hmeets => hclear ⟨hr, hover.1 hmeets⟩
    exact (State.goSetRange_of_present (huse hin) hok hapart hc v p).trans
      (if_pos ((State.reshapeRefused_iff (s.refundTaken 0 t) ..).2 hstuck))

/-- Settles O18: the two ways past the checks, and the two completions. -/
theorem setRangeDefinesAndEdits : Obligations.SetRangeDefinesAndEdits := by
  intro s tag r start length v p
  refine ⟨?refund, ?defined, ?edited⟩
  case refund =>
    intro t h hin hw hfits hapart k key
    have huse : (s.refundTaken 0 t).custody.state.inUse = true := Custody.inUse_iff.2 hin
    have hclear : r ≠ 0 → (s.refundTaken 0 t).overlaps r start length = false := by
      refine fun hr => Bool.eq_false_iff.2 fun hmeets => ?_
      obtain ⟨q, c, hq, hqr, hc, hlo, hhi⟩ := (State.overlaps_iff ..).1 hmeets
      have := hapart hr q c hq hqr hc
      omega
    refine ⟨fun hnone => ?_, fun c hc hfree => ?_⟩
    · exact exec_refund_of_commit (x := ((s.refundTaken 0 t).drawKey r).2) h
        ((State.goSetRange_of_absent huse hfits hclear hnone v p).trans
          (State.defineRange_of_empty (s := s.refundTaken 0 t) rfl h.2.2.2 hw ..)) rfl rfl
    · have hkeeps : ¬(s.refundTaken 0 t).reshapeRefused r c start length = true := by
        rw [State.reshapeRefused_iff]
        have hright : ((s.refundTaken 0 t).range r).hasRight = (s.range r).hasRight := rfl
        rintro ⟨hmoves, hstuck⟩
        rcases hfree with ⟨hs, hl⟩ | hblank | ⟨hactive, hno⟩
        · exact hmoves.elim (· hs) (· hl)
        · simp [hblank] at hstuck
        · simp [hactive, hright, hno] at hstuck
      refine exec_refund_of_commit (x := s.refundTaken 0 t) h ?_ rfl rfl
      exact (State.goSetRange_of_present huse hfits hclear hc v p).trans
        ((if_neg hkeeps).trans (State.commitRequest_one (s := s.refundTaken 0 t) rfl h.2.2.2 hw _))
  case defined =>
    intro c h
    have hact : (s.written [.range r (some c)]).rangeDefined r =
        (((s.written [.range r (some c)]).setRange r ⟨some c, false, false, none, none⟩).setKey r
          s.store.keys[r.val]).raiseEpoch := by
      rw [State.rangeDefined, State.storedRange_written]
      rfl
    exact exec_completion_of_raisingAct h hact rfl rfl
  case edited =>
    intro old c hold h e s1
    have hact : (s.written [.range r (some c)]).rangeEdited r =
        State.raiseIf (decide (old.start ≠ c.start ∨ old.length ≠ c.length) || State.moved s s1) s1 := by
      have hlive : ((s.written [.range r (some c)]).range r).stored = some old := hold
      rw [State.rangeEdited, hlive, State.storedRange_written]
      simp only [State.editRange, RangeEntry.edit, hlive]
      rfl
    by_cases hstays : old.start = c.start ∧ old.length = c.length ∧ s1.concealedSet = s.concealedSet
    · have hstill : (decide (old.start ≠ c.start ∨ old.length ≠ c.length) || State.moved s s1) = false := by
        simp [hstays, State.moved]
      rw [hstill] at hact
      rw [if_pos hstays]
      exact exec_completion_of_act h hact rfl rfl
    · have hraised : (decide (old.start ≠ c.start ∨ old.length ≠ c.length) || State.moved s s1) = true := by
        simp only [State.moved, Bool.or_eq_true, decide_eq_true_iff]
        tauto
      rw [hraised] at hact
      rw [if_neg hstays]
      exact exec_completion_of_raisingAct h hact rfl rfl

/-! ## DROP_RANGE -/

theorem State.rangeState_eq (s : State) (r : RangeId) : s.rangeState r = (s.range r).stored.map fun c => c.state := rfl

/-- Settles O19: the owner's cases by the range's state, and the three completions. -/
theorem dropRangeReturnsTheSectors : Obligations.DropRangeReturnsTheSectors := by
  intro s tag r gone note
  refine ⟨?refund, fun h => ?dropped, fun e hs hh hq => ?first, fun h => ?erased⟩
  case refund =>
    intro t h inUse st locked s1
    have huse : inUse → s1.custody.state.inUse = true := Custody.inUse_iff.2
    refine ⟨fun hno => ?_, fun hin hw => ⟨fun hblank => ?_, fun hactive hlocked => ?_⟩⟩
    · refine exec_refund_of_answer h ?_
      change s1.goDropRange r = s1.answer .drive (.code .state)
      unfold State.goDropRange
      by_cases hin : inUse
      · rw [huse hin, if_neg (by decide)]
        split
        · rename_i hblank
          exact absurd ⟨hin, .inl hblank⟩ hno
        · rename_i hactive
          refine if_pos (Bool.not_eq_false _ ▸ fun hfree => hno ⟨hin, .inr ⟨hactive, ?_⟩⟩)
          obtain ⟨hright, hlane⟩ := Bool.or_eq_false_iff.1 hfree
          exact ⟨hright, Option.isSome_eq_false_iff.1 hlane |> Option.isNone_iff_eq_none.1⟩
        · rfl
      · rw [show s1.custody.state.inUse = false from Custody.inUse_eq_false_iff.2 hin]
        rfl
    · refine exec_refund_of_commit (x := s1) h ?_ rfl rfl
      have hgo : s1.goDropRange r = s1.commitRequest [rangeEntry r none [.rangeDropped r, .answer .drive .epoch]] := by
        rw [State.goDropRange, huse hin, State.rangeState_eq, show (s1.range r).stored.map (fun c => c.state) = _ from hblank]
        rfl
      exact hgo.trans (State.commitRequest_one (s := s1) rfl h.2.2.2 hw _)
    · refine exec_refund_of_commit (x := s1) h ?_ rfl rfl
      have hfree : ((s1.range r).hasRight || (s1.range r).lane.isSome) = false := by
        rw [show (s1.range r).hasRight = false from hlocked.1, show (s1.range r).lane = none from hlocked.2]
        rfl
      have hgo : s1.goDropRange r =
          s1.commitRequest [rangeEntry r none [.rangeDropped r], keyEraseEntry r [.answer .drive .epoch]] := by
        rw [State.goDropRange, huse hin, State.rangeState_eq, show (s1.range r).stored.map (fun c => c.state) = _ from hactive]
        simp only [hfree]
        rfl
      exact hgo.trans (State.commitRequest_two (s := s1) rfl h.2.2.2 hw _ _)
  case dropped => exact exec_completion_of_raisingAct h rfl rfl rfl
  case first =>
    rw [exec_commitComplete_of_cons hs.1 hq hh]
    exact congrArg Host.Outcome.next (State.sealEvent_raiseEpoch rfl (Nat.le_refl _))
  case erased => exact exec_completion_of_answer h rfl rfl rfl

/-! ## GRANT -/

/-- A change of an access list completes (R16, R17). -/
theorem State.accessStored_written {s : State} {r : RangeId} {c : RangeRec} (hc : (s.range r).stored = some c)
    (access : Vector Bool 8) :
    (s.written [.range r (some { c with access := access })]).accessStored r =
      (s.written [.range r (some { c with access := access })]).setRange r
        { s.range r with stored := some { c with access := access } } := by
  rw [State.accessStored, State.storedRange_written]
  simp only [State.editRange, RangeEntry.edit, show ((s.written _).range r).stored = some c from hc]
  rfl

/-- Settles O20. -/
theorem grantAddsAMember : Obligations.GrantAddsAMember := by
  intro s tag r c a hc c' entry
  have huse (t : TriesRec) (hin : s.custody.state = .guarded ∨ s.custody.state = .warned) :
      (s.refundTaken 0 t).custody.state.inUse = true := Custody.inUse_iff.2 hin
  refine ⟨fun t h hin => ⟨fun hmember => ?_, fun hnew hw => ?_⟩, fun h => ?_⟩
  · have hgo : (s.refundTaken 0 t).goGrant r a = (s.refundTaken 0 t).answer .drive (.code .ok) := by
      rw [State.goGrant, huse t hin, show ((s.refundTaken 0 t).range r).stored = some c from hc]
      simp only [hmember]
      rfl
    exact exec_refund_of_answer h hgo
  · have hgo : (s.refundTaken 0 t).goGrant r a = (s.refundTaken 0 t).commitRequest [entry] := by
      rw [State.goGrant, huse t hin, show ((s.refundTaken 0 t).range r).stored = some c from hc]
      simp only [hnew]
      rfl
    exact exec_refund_of_commit (x := s.refundTaken 0 t) h
      (hgo.trans (State.commitRequest_one (s := s.refundTaken 0 t) rfl h.2.2.2 hw _)) rfl rfl
  · exact exec_completion_of_act h (State.accessStored_written hc _) rfl rfl

/-! ## REVOKE -/

/-- The lane of a range that is locked is released (R53, R103). -/
theorem State.lanes_lockRange_both {s : State} {r : RangeId} {n : Nat} (h : (s.range r).lane = some n) :
    (s.lockRange .both r).lane.lanes = s.lane.lanes.modify n LaneRec.release := by
  have hlane : ((s.setRange r (s.range r).locked).range r).lane = some n := by simpa using h
  rw [State.lockRange_both, State.releaseOf, hlane]
  rfl

theorem State.lane_lockRange_both_of_unbound {s : State} {r : RangeId} (h : (s.range r).lane = none) :
    (s.lockRange .both r).lane = s.lane := by
  have hlane : ((s.setRange r (s.range r).locked).range r).lane = none := by simpa using h
  rw [State.lockRange_both, State.releaseOf, hlane]
  rfl

theorem State.goRevoke_of_member {s : State} {r : RangeId} {c : RangeRec} {a : AuthId}
    (huse : s.custody.state.inUse = true) (hc : (s.range r).stored = some c) (hmember : c.access[a.val] = true)
    (hfree : s.refusesWrites [.single (.range r)] = none) :
    s.goRevoke r a =
      (s.revokeRights r a).commitRequest
        [rangeEntry r (some (c.withAccess a false))
          [.accessStored r, .answer .drive (.revoked ((s.revokeRights r a).clearPending r))]] := by
  rw [State.goRevoke, huse, if_neg (by decide), hc]
  simp only [hmember, hfree]
  rfl

theorem State.clearPending_raiseIf_lockRange (s : State) (b : Bool) (r : RangeId) :
    (State.raiseIf b (s.lockRange .both r)).clearPending r = (s.range r).lane.isSome := by
  simp [State.clearPending, State.range_lockRange_both]

/-- Settles O21: the owner's three cases by the target, and the completion. -/
theorem revokeRemovesTheHolder : Obligations.RevokeRemovesTheHolder := by
  intro s tag r c a hc c' entry
  refine ⟨?refund, fun mark h => exec_completion_of_act h (State.accessStored_written hc _) rfl rfl⟩
  intro t h hin hw s1
  have huse : s1.custody.state.inUse = true := Custody.inUse_iff.2 hin
  have hfree : s1.refusesWrites [.single (.range r)] = none :=
    State.refusesWrites_of_empty (s := s1) rfl h.2.2.2 hw _ (Nat.le_add_left 1 3)
  refine ⟨fun hout => ?stranger, fun hmember hother => ?member, fun hmember hholder => ?holder⟩
  case stranger =>
    have hgo : s1.goRevoke r a = s1.answer .drive (.revoked s1.epoch (s1.clearPending r)) := by
      rw [State.goRevoke, huse, if_neg (by decide), show (s1.range r).stored = some c from hc]
      simp only [hout]
      rfl
    exact exec_refund_of_answer h hgo
  case member =>
    have hrights : s1.revokeRights r a = s1 := if_neg hother
    have hgo := State.goRevoke_of_member huse hc hmember hfree
    rw [hrights] at hgo
    exact exec_refund_of_commit (x := s1) h
      (hgo.trans (State.commitRequest_one (s := s1) rfl h.2.2.2 hw _)) rfl rfl
  case holder =>
    obtain ⟨l, hlock⟩ := s1.lockRange_frame .both r
    have hrights : s1.revokeRights r a = State.raiseIf (State.moved s1 (s1.lockRange .both r)) (s1.lockRange .both r) :=
      if_pos hholder
    have hgo := State.goRevoke_of_member huse hc hmember hfree
    rw [hrights, State.clearPending_raiseIf_lockRange] at hgo
    have hempty : (State.raiseIf (State.moved s1 (s1.lockRange .both r)) (s1.lockRange .both r)).queue = [] ∧
        (State.raiseIf (State.moved s1 (s1.lockRange .both r)) (s1.lockRange .both r)).held = [] ∧
        (State.raiseIf (State.moved s1 (s1.lockRange .both r)) (s1.lockRange .both r)).supplyWarning = false := by
      obtain ⟨e, d, hraise⟩ := State.raiseIf_frame (State.moved s1 (s1.lockRange .both r)) (s1.lockRange .both r)
      rw [hraise, hlock]
      exact ⟨rfl, h.2.2.2, hw⟩
    refine ⟨_, exec_refund_of_raisingCommit h
      (hgo.trans (State.commitRequest_one hempty.1 hempty.2.1 hempty.2.2 _)) (by rw [hlock]; rfl) (by rw [hlock]; rfl),
      ?range, fun q hq => ?others, fun n hn => State.lanes_lockRange_both (s := s1) hn,
      fun hn => State.lane_lockRange_both_of_unbound (s := s1) hn, rfl, ?epoch, ?frame, ?flight, ?slot⟩
    case range => exact (State.range_lockRange_both s1 r r).trans (if_pos rfl)
    case others => exact (State.range_lockRange_both s1 r q).trans (if_neg hq.symm)
    case epoch =>
      have hepoch : (s1.lockRange .both r).epoch = s.epoch := by rw [hlock]; rfl
      have hmoved : (State.moved s1 (s1.lockRange .both r) = true) =
          ¬(s1.lockRange .both r).concealedSet = s.concealedSet := decide_eq_true_eq
      refine Eq.trans ?_ (ite_not ((s1.lockRange .both r).concealedSet = s.concealedSet) (s.epoch + 1) s.epoch)
      simp only [hmoved, hepoch]
    case frame => rw [hlock]
    case flight =>
      cases State.moved s1 (s1.lockRange .both r)
      · rfl
      · exact PortState.inFlight_push ..
    case slot =>
      cases State.moved s1 (s1.lockRange .both r)
      · exact h.1.2.1
      · exact (PortState.replySlot_push ..).trans h.1.2.1

/-! ## REKEY -/

/-- Settles O22. -/
theorem rekeyReturnsABlankRange : Obligations.RekeyReturnsABlankRange := by
  intro s tag r
  refine ⟨?refund, fun c g w x hc hk h => ?completion⟩
  case refund =>
    intro t h inUse s1 k key
    have huse : inUse → s1.custody.state.inUse = true := Custody.inUse_iff.2
    refine ⟨fun hno => exec_refund_of_answer h ?_, fun c hin hw hc hblank => ?_⟩
    · change s1.goRekey r = s1.answer .drive (.code .state)
      unfold State.goRekey
      by_cases hin : inUse
      · rw [huse hin, if_neg (by decide)]
        split
        · rfl
        · rename_i c hc
          exact if_pos fun hblank => hno ⟨hin, by
            rw [show (s.range r).stored = some c from hc, Option.map_some, hblank]⟩
      · rw [show s1.custody.state.inUse = false from Custody.inUse_eq_false_iff.2 hin]
        rfl
    · have hgo : s1.goRekey r = (s1.drawKey r).2.commitRequest
          [keyEntry r (s1.drawKey r).1 [],
           rangeEntry r (some { c with state := .active }) [.rangeRekeyed r, .answer .drive (.rekeyed r)]] := by
        rw [State.goRekey, huse hin, if_neg (by decide), show (s1.range r).stored = some c from hc]
        simp only [hblank, ne_eq, not_true_eq_false, if_false,
          State.refusesWrites_of_empty (s := s1) rfl h.2.2.2 hw [.single (.key r), .single (.range r)]
            (Nat.le_add_left 2 2)]
      exact exec_refund_of_commit (x := (s1.drawKey r).2) h
        (hgo.trans (State.commitRequest_two (s := (s1.drawKey r).2) rfl h.2.2.2 hw _ _)) rfl rfl
  case completion =>
    have hact : (s.written [.range r (some { c with state := .active })]).rangeRekeyed r =
        ((s.written [.range r (some { c with state := .active })]).setRange r
          ⟨some { c with state := .active }, false, false, none, none⟩).setKey r ⟨g, some (w, x)⟩ := by
      rw [State.rangeRekeyed, show ((s.written _).range r).stored = some c from hc, show (s.written _).store.keys[r.val] = _ from hk]
      rfl
    have hbody : (((s.written [.range r (some { c with state := .active })]).setRange r
        ⟨some { c with state := .active }, false, false, none, none⟩).setKey r ⟨g, some (w, x)⟩).answerBody (.rekeyed r) =
          .rekeyed g x := by
      simp [State.answerBody, State.rekeyReply, State.checkCode]
    have hexec := exec_completion_of_act h hact rfl rfl
    rw [hbody] at hexec
    exact hexec

end Sys2Proof.Machine

/-!
PROOFS. Slots of the lane link: what a slot's start sends, and what an answered LOAD, CLEAR or PROBE slot does to the
lane, its range, the epoch and the notices.
-/

namespace Sys2Proof.Machine

open Sys2Proof

/-! ## Notices that an event queues with the custody state it leaves -/

/-- The port's notices with some more behind them, each with the custody state `c`. -/
def PortState.Adds (c : Custody) (q q' : PortState) : Prop :=
  ∃ l, q'.notices = q.notices ++ l ∧ ∀ n ∈ l, n.custody = c

theorem PortState.Adds.of_same {c : Custody} {q q' : PortState} (h : q'.notices = q.notices) : q.Adds c q' :=
  ⟨[], by simp [h], nofun⟩

theorem PortState.Adds.push {c : Custody} {q q' : PortState} (h : q.Adds c q') {n : Notice} (hn : n.custody = c) :
    q.Adds c (q'.push n) := by
  obtain ⟨l, hl, hc⟩ := h
  unfold PortState.push
  split
  · refine ⟨l ++ [n], by simp [hl], fun m hm => ?_⟩
    rcases List.mem_append.1 hm with hm | hm
    · exact hc m hm
    · rw [List.mem_singleton.1 hm, hn]
  · exact ⟨l, hl, hc⟩

/-- The increment's notice carries the custody state of its instant (R22). -/
theorem PortState.Adds.raiseIf {q : PortState} {x : State} (h : q.Adds x.custody.state x.drive) (b : Bool) :
    q.Adds (State.raiseIf b x).custody.state (State.raiseIf b x).drive := by
  cases b
  · exact h
  · exact h.push (n := changed (x.epoch + 1) x.custody.state) rfl

theorem stampNotices_of_adds {c : Custody} {q q' : PortState} (h : q.Adds c q') :
    stampNotices q.notices.length c q' = q' := by
  obtain ⟨l, hl, hc⟩ := h
  have hmap : l.map (fun n => { n with custody := c }) = l :=
    (List.map_congr_left fun n hn => by rw [← hc n hn]; rfl).trans (List.map_id l)
  have hnotices : (q'.notices.take q.notices.length ++
      (q'.notices.drop q.notices.length).map fun n => { n with custody := c }) = q'.notices := by
    rw [hl, List.take_left, List.drop_left, hmap]
  rw [stampNotices, hnotices]

/-- An event whose notices all carry the custody state it leaves ends as it stands (R180). -/
theorem State.sealEvent_of_adds {b s : State} (hd : b.drive.Adds s.custody.state s.drive)
    (hp : b.platform.Adds s.custody.state s.platform) : State.sealEvent b s = s := by
  rw [State.sealEvent, stampNotices_of_adds hd, stampNotices_of_adds hp]

/-- An event of the device itself whose notices all carry the custody state it leaves. -/
theorem deviceEvent_of_adds {s t : State} {f : State → State} (hp : s.powered = true) (hf : f s = t)
    (hd : s.drive.Adds t.custody.state t.drive) (hplat : s.platform.Adds t.custody.state t.platform) :
    deviceEvent f s = t := by
  rw [deviceEvent_of_powered hp, hf, State.sealEvent_of_adds hd hplat]

/-! ## The concealed set -/

theorem State.concealedSet_eq_iff {s t : State} :
    s.concealedSet = t.concealedSet ↔ ∀ r, s.isConcealed r = t.isConcealed r := by
  refine ⟨fun h r => ?_, fun h => List.filter_congr fun r _ => h r⟩
  have hmem : r ∈ s.concealedSet ↔ r ∈ t.concealedSet := by rw [h]
  simp only [State.concealedSet, List.mem_filter, mem_allRanges, true_and] at hmem
  exact Bool.eq_iff_iff.2 hmem

/-- A change of one range's entry that keeps its record joins it to the concealed set exactly where its read right
goes and the record hides it (R4, R21). -/
theorem State.moved_setRange_locked (s : State) (r : RangeId) :
    State.moved s (s.setRange r (s.range r).locked) = true ↔
      s.isConcealed r = false ∧ (s.range r).read = true ∧ s.mode ≠ .blank ∧
        (s.range r).stored.map (fun c => c.visibility) = some .hiddenWhileLocked := by
  have hother (q : RangeId) (hq : r ≠ q) : (s.setRange r (s.range r).locked).isConcealed q = s.isConcealed q := by
    simp [State.isConcealed, hq]
  have hself : (s.setRange r (s.range r).locked).isConcealed r = s.isConcealed r ↔
      ¬(s.isConcealed r = false ∧ (s.range r).read = true ∧ s.mode ≠ .blank ∧
        (s.range r).stored.map (fun c => c.visibility) = some .hiddenWhileLocked) := by
    simp only [State.isConcealed, State.range_setRange_self, State.setRange_mode, RangeEntry.locked]
    cases (s.range r).stored with
    | none => simp
    | some c =>
      by_cases hv : c.visibility = .hiddenWhileLocked <;> by_cases hread : (s.range r).read = true <;>
        by_cases hm : s.mode = .blank <;> simp_all
  have hiff : (s.setRange r (s.range r).locked).concealedSet = s.concealedSet ↔
      (s.setRange r (s.range r).locked).isConcealed r = s.isConcealed r := by
    refine State.concealedSet_eq_iff.trans ⟨fun h => h r, fun h q => ?_⟩
    by_cases hq : r = q
    · exact hq ▸ h
    · exact hother q hq
  rw [State.moved, decide_eq_true_iff, ne_eq, hiff, hself, not_not]

/-- Where the increment is due the epoch is one higher, and otherwise it stays (R21). -/
theorem State.epoch_raiseIf_moved {s x : State} {c : Bool} (hc : c = State.moved s x) (he : x.epoch = s.epoch) :
    (State.raiseIf c x).epoch =
      if (State.raiseIf c x).concealedSet = s.concealedSet then s.epoch else s.epoch + 1 := by
  have hset : (State.raiseIf c x).concealedSet = x.concealedSet := by cases c <;> rfl
  have hmoved : (State.moved s x = true) = ¬x.concealedSet = s.concealedSet := decide_eq_true_eq
  have hepoch : (State.raiseIf c x).epoch = if c then s.epoch + 1 else s.epoch := by
    rw [← he]
    cases c <;> rfl
  rw [hset, hepoch, hc]
  simp only [hmoved, ite_not]

/-! ## Slots -/

/-- Settles O32: the plan's case of what is sent; what the record wraps unwraps to the media key. -/
theorem slotStartSendsThePlan : Obligations.SlotStartSendsThePlan := by
  intro s n l hp hlink hpos hlane hsent key
  have hstart : s.startSlot = { s with lane := { s.lane with sent := some (s.sends l) } } := by
    simp [State.startSlot, hlink, hsent, hpos, hlane]
  have hexec : exec .laneSlotStart s = .next { s with lane := { s.lane with sent := some (s.sends l) } } :=
    congrArg Host.Outcome.next (deviceEvent_of_adds hp hstart (.of_same rfl) (.of_same rfl))
  refine ⟨hexec, fun r g k c hplan hrange hkey => ?_⟩
  have hsends : s.sends l = .load (some k) := by
    simp [State.sends, hplan, State.plainKey, hrange, hkey]
  rw [hexec, hsends]

theorem State.InSlot.slotInProgress {s : State} {n : Nat} {l : LaneRec} {sent : Sent} (h : s.InSlot n l sent) :
    s.slotInProgress = some (n, l, sent) := by
  obtain ⟨-, hlink, hpos, hlane, hsent, -⟩ := h
  simp [State.slotInProgress, hlink, hpos, hlane, hsent]

/-- With no LANE_HOLD in flight the end of a slot makes the next one due, and no more. -/
theorem State.finishSlot_of_noHold {s : State} (h : s.NoHold) :
    s.finishSlot = { s with lane := { s.lane with position := s.nextPosition, sent := none } } := by
  unfold State.finishSlot State.settleHold
  dsimp only
  split
  · rename_i hflight
    exact absurd rfl (h _ _ hflight)
  · rfl

/-- A lane's slot ends with its lane records changed and no LANE_HOLD in flight. -/
theorem State.finishSlot_after {s x : State} {n : Nat} {l : LaneRec} {sent : Sent} (h : s.InSlot n l sent)
    {lanes : List LaneRec} (hlane : x.lane = { s.lane with lanes := lanes })
    (hlength : lanes.length = s.lane.lanes.length) (hflight : x.drive.inFlight = s.drive.inFlight) :
    x.finishSlot = { x with lane := s.lane.after lanes n } := by
  obtain ⟨-, -, hpos, -, -, hhold⟩ := h
  have hnext : x.nextPosition = if n + 1 < s.lane.lanes.length then .lane (n + 1) else .turn := by
    simp only [State.nextPosition, hlane, hpos, hlength]
  rw [State.finishSlot_of_noHold fun f b hf => hhold f b (hflight ▸ hf), hnext, hlane]
  rfl

theorem State.updLane_of_laneAt {s : State} {n : Nat} {l : LaneRec} (h : s.laneAt n = some l)
    (f : LaneRec → LaneRec) : s.updLane n f = s.setLanes (s.lane.lanes.set n (f l)) := by
  have hmodify : s.lane.lanes.modify n f = s.lane.lanes.set n (f l) := by
    refine List.ext_getElem? fun m => ?_
    rw [List.getElem?_modify, List.getElem?_set]
    by_cases hm : n = m
    · subst hm
      obtain ⟨hlt, hl⟩ := List.getElem?_eq_some_iff.1 h
      simp [hlt, hl]
    · simp [hm]
  rw [State.updLane, hmodify]

/-- The slot of a lane ends with that lane's record changed, and nothing else of the device. -/
theorem State.InSlot.ends {s : State} {n : Nat} {l : LaneRec} {sent : Sent} (h : s.InSlot n l sent)
    (f : LaneRec → LaneRec) :
    (s.updLane n f).finishSlot = { s with lane := s.lane.after (s.lane.lanes.set n (f l)) n } := by
  rw [State.updLane_of_laneAt h.2.2.2.1]
  exact State.finishSlot_after h rfl (by simp) rfl

/-- The same, as the event that ends the slot. -/
theorem State.InSlot.event {s : State} {n : Nat} {l : LaneRec} {sent : Sent} (h : s.InSlot n l sent)
    {g : State → State} (f : LaneRec → LaneRec) (hg : g s = (s.updLane n f).finishSlot) :
    deviceEvent g s = { s with lane := s.lane.after (s.lane.lanes.set n (f l)) n } :=
  deviceEvent_of_adds h.1 (hg.trans (h.ends f)) (.of_same rfl) (.of_same rfl)

/-! ## FAULT (R60) -/

/-- A lane with a range goes to FAULT: the lane's record, the range locked, RANGE_RELOCKED and LANE_FAULT, and the
conditional increment behind them. -/
theorem State.faultLane_of_bound {s : State} {n : Nat} {l : LaneRec} {r : RangeId} (hr : l.range = some r) :
    s.faultLane n l =
      State.raiseIf (State.moved s (s.setRange r (s.range r).locked))
        (((s.updLane n fun x => { x with state := .fault, plan := .clear }).setRange r (s.range r).locked
          |>.notify .drive .rangeRelocked (some r)).notify .drive .laneFault none (some n)) := by
  simp only [State.faultLane, hr]
  rfl

/-- A conditional increment before the slot's end may as well come behind it. -/
theorem State.finishSlot_raiseIf {s x : State} {n : Nat} {l : LaneRec} {sent : Sent} (h : s.InSlot n l sent)
    {lanes : List LaneRec} (hlane : x.lane = { s.lane with lanes := lanes })
    (hlength : lanes.length = s.lane.lanes.length) (hflight : x.drive.inFlight = s.drive.inFlight) (c : Bool) :
    (State.raiseIf c x).finishSlot = State.raiseIf c { x with lane := s.lane.after lanes n } := by
  cases c
  · exact State.finishSlot_after h hlane hlength hflight
  · exact State.finishSlot_after (x := x.raiseEpoch) h hlane hlength ((PortState.inFlight_push ..).trans hflight)

/-- The device after a lane with a range went to FAULT at its slot's end, the increment apart (R60). -/
def State.faulted (s : State) (n : Nat) (l : LaneRec) (r : RangeId) : State :=
  { s with
    lane := s.lane.after (s.lane.lanes.set n { l with state := .fault, plan := .clear }) n
    ranges := s.ranges.set r.val (s.range r).locked r.isLt
    drive := (s.drive.push ⟨.rangeRelocked, some r, none, s.epoch, s.custody.state⟩).push
      ⟨.laneFault, none, some n, s.epoch, s.custody.state⟩ }

/-- The slot's end that takes the lane to FAULT with the record `l'`, as one event. -/
theorem State.InSlot.faultEvent {s : State} {n : Nat} {l l' : LaneRec} {sent : Sent} (h : s.InSlot n l sent)
    {r : RangeId} (hr : l'.range = some r) {g : State → State}
    (hg : g s = ((s.updLane n fun _ => l').faultLane n l').finishSlot) :
    deviceEvent g s =
      State.raiseIf (State.moved s (s.setRange r (s.range r).locked)) (s.faulted n l' r) := by
  have hlanes : ((s.updLane n fun _ => l').updLane n fun x => { x with state := .fault, plan := .clear }) =
      s.setLanes (s.lane.lanes.set n { l' with state := .fault, plan := .clear }) := by
    have hn : (s.updLane n fun _ => l').laneAt n = some l' := by
      rw [State.laneAt_updLane, if_pos rfl, h.2.2.2.1]
      rfl
    rw [State.updLane_of_laneAt hn, State.updLane_of_laneAt h.2.2.2.1]
    simp [State.setLanes]
  have hend : g s = State.raiseIf (State.moved s (s.setRange r (s.range r).locked)) (s.faulted n l' r) := by
    rw [hg, State.faultLane_of_bound hr, hlanes]
    exact State.finishSlot_raiseIf (lanes := s.lane.lanes.set n { l' with state := .fault, plan := .clear })
      (x := ((s.setLanes (s.lane.lanes.set n { l' with state := .fault, plan := .clear })).setRange r
        (s.range r).locked |>.notify .drive .rangeRelocked (some r)).notify .drive .laneFault none (some n))
      h rfl (by simp) (by simp [State.notify]) _
  refine deviceEvent_of_adds h.1 hend ?_ ?_
  · have hdrive : s.drive.Adds s.custody.state (s.faulted n l' r).drive :=
      .push (n := ⟨.laneFault, none, some n, s.epoch, s.custody.state⟩)
        (.push (n := ⟨.rangeRelocked, some r, none, s.epoch, s.custody.state⟩) (.of_same rfl) rfl) rfl
    exact hdrive.raiseIf (x := s.faulted n l' r) _
  · obtain ⟨e, d, hraise⟩ := State.raiseIf_frame (State.moved s (s.setRange r (s.range r).locked)) (s.faulted n l' r)
    rw [hraise]
    exact .of_same rfl

/-! ## LOAD (R56, R59) -/

theorem State.loadSlotEnd_of_inSlot {s : State} {n : Nat} {l : LaneRec} {k : Option Secret} (h : s.InSlot n l (.load k))
    (x : LoadAnswer) : s.loadSlotEnd x = (s.loadAnswered n l x).finishSlot := by
  simp [State.loadSlotEnd, h.slotInProgress]

/-- Settles O33: the owner's cases by the lane's state, the outcome and the attempts. -/
theorem loadSlotEnds : Obligations.LoadSlotEnds := by
  intro s n l k x h ends o
  have ho : loadOutcome x l.expected = o := by cases x <;> rfl
  have hevent (f : LaneRec → LaneRec) (hf : s.loadAnswered n l x = s.updLane n f) :
      exec (.loadSlotEnd x) s = .next (ends (f l)) :=
    congrArg Host.Outcome.next
      (h.event (g := fun s => s.loadSlotEnd x) f ((State.loadSlotEnd_of_inSlot h x).trans (by rw [hf])))
  refine ⟨fun hstate => ?_, fun hstate => ⟨fun hok => ?_, fun hbad hfew => ?_, fun r hbad hmany hr => ?_⟩⟩
  · exact hevent (fun _ => { l with last := some o }) (by simp [State.loadAnswered, ho, hstate])
  · exact hevent (fun _ => { l with state := .loaded, attempts := 0, votes := [], plan := .probe, last := some .ok })
      (by simp [State.loadAnswered, ho, hstate, hok])
  · exact hevent (fun _ => { l with attempts := l.attempts + 1, last := some o })
      (by simp [State.loadAnswered, ho, hstate, hbad]; omega)
  · intro s1 hides c d ranges
    have hgo : s.loadSlotEnd x = ((s.updLane n fun _ => { l with attempts := l.attempts + 1, last := some o }).faultLane n
        { l with attempts := l.attempts + 1, last := some o }).finishSlot := by
      rw [State.loadSlotEnd_of_inSlot h]
      simp only [State.loadAnswered, ho, hstate, hbad, ne_eq, not_true_eq_false, if_false]
      rw [if_pos (by omega)]
    have hexec : exec (.loadSlotEnd x) s = .next (State.raiseIf (State.moved s (s.setRange r (s.range r).locked))
        (s.faulted n { l with attempts := l.attempts + 1, last := some o } r)) :=
      congrArg Host.Outcome.next (h.faultEvent
        (l' := { l with attempts := l.attempts + 1, last := some o }) (g := fun s => s.loadSlotEnd x) hr hgo)
    refine ⟨fun hhides => ?_, fun hshows => ?_⟩
    · rw [hexec, (s.moved_setRange_locked r).2 hhides]
      rfl
    · rw [hexec, Bool.eq_false_iff.2 fun hmoved => hshows ((s.moved_setRange_locked r).1 hmoved)]
      rfl

/-! ## CLEAR (R57, R59) -/

theorem State.clearSlotEnd_of_inSlot {s : State} {n : Nat} {l : LaneRec} (h : s.InSlot n l .clear)
    (x : HeldAnswer) : s.clearSlotEnd x = (s.clearAnswered n l x).finishSlot := by
  simp [State.clearSlotEnd, h.slotInProgress]

/-- An emptied lane without a binding (R57). -/
def LaneRec.clearedFree : LaneRec := ⟨.free, none, none, .probe, some .ok, [], 0⟩

theorem State.unbind_emptied_of_unbound {s : State} {n : Nat} {l : LaneRec} (h : s.laneAt n = some l)
    (hr : l.range = none) :
    (s.unbind n).updLane n LaneRec.emptied = s.setLanes (s.lane.lanes.set n .clearedFree) := by
  have hunbind : s.unbind n = s := by simp [State.unbind, h, hr]
  rw [hunbind, State.updLane_of_laneAt h]
  simp [LaneRec.emptied, LaneRec.clearedFree, hr]

theorem State.unbind_emptied_of_bound {s : State} {n : Nat} {l : LaneRec} (h : s.laneAt n = some l) {r : RangeId}
    (hr : l.range = some r) :
    (s.unbind n).updLane n LaneRec.emptied =
      (s.setRange r { s.range r with lane := none }).setLanes (s.lane.lanes.set n .clearedFree) := by
  have hunbind : s.unbind n = (s.setLanes (s.lane.lanes.set n { l with range := none })).setRange r
      { s.range r with lane := none } := by
    rw [State.unbind, h, Option.bind_some, hr, State.updLane_of_laneAt h]
  have hn : (s.unbind n).laneAt n = some { l with range := none } := by
    rw [hunbind]
    exact List.getElem?_set_self (List.getElem?_eq_some_iff.1 h).1
  rw [State.updLane_of_laneAt hn, hunbind]
  simp [State.setLanes, State.setRange, LaneRec.emptied, LaneRec.clearedFree]

/-- What an emptied lane leaves behind, range 0's restoring in OPEN apart: the lane, and no other range's lane. -/
theorem State.unbind_emptied_frame {s : State} {n : Nat} {l : LaneRec} (h : s.laneAt n = some l) :
    ∃ v, (s.unbind n).updLane n LaneRec.emptied =
        { s with lane := { s.lane with lanes := s.lane.lanes.set n .clearedFree }, ranges := v } ∧
      v[0] = if l.range = some 0 then { s.range 0 with lane := none } else s.range 0 := by
  cases hr : l.range with
  | none => exact ⟨s.ranges, State.unbind_emptied_of_unbound h hr, by simp [State.range]⟩
  | some r =>
    refine ⟨s.ranges.set r.val { s.range r with lane := none } r.isLt, State.unbind_emptied_of_bound h hr, ?_⟩
    rw [Vector.getElem_set]
    by_cases hr0 : r = 0
    · subst hr0
      simp
    · simp [hr0, val_ne_zero_iff.2 hr0, State.range]

/-! ## Range 0's rights and lane restored in OPEN (R66) -/

@[simp] theorem State.setRange_setRange (s : State) (r : RangeId) (e e' : RangeEntry) :
    (s.setRange r e).setRange r e' = s.setRange r e' := by
  simp [State.setRange]

/-- A range without a lane is bound to the lowest FREE lane (R52). -/
theorem State.bind_of_free {s : State} {r : RangeId} (h : (s.range r).lane = none) {m : Nat}
    (hm : s.lowestFree = some m) :
    s.bind r = ((s.updLane m fun l => l.bind r (s.checkCode r)).setRange r { s.range r with lane := some m }, true) := by
  simp only [State.bind, h, hm]

theorem State.restoreGlobal_of_free {s : State} (h : (s.range 0).lane = none) {m : Nat}
    (hm : s.lowestFree = some m) :
    s.restoreGlobal =
      (s.updLane m fun l => l.bind 0 (s.checkCode 0)).setRange 0
        { s.range 0 with read := true, write := true, holder := none, lane := some m } := by
  rw [State.restoreGlobal, State.bind_of_free h hm]
  simp only [if_true, State.range_setRange_self, State.setRange_setRange]

theorem State.restoreIfUnbound_of_bound {s : State} (h : s.custody.state ≠ .opened ∨ (s.range 0).lane.isSome = true) :
    s.restoreIfUnbound = s := by
  refine if_neg fun hopen => ?_
  obtain ⟨ho, hnone⟩ := Bool.and_eq_true_iff.1 hopen
  rcases h with h | h
  · exact h (of_decide_eq_true ho)
  · simp [Option.isNone_iff_eq_none.1 hnone] at h

theorem State.restoreIfUnbound_of_unbound {s : State} (ho : s.custody.state = .opened) (h : (s.range 0).lane = none) :
    s.restoreIfUnbound = s.restoreGlobal := by
  simp [State.restoreIfUnbound, ho, h]

/-- A FREE lane bounds the lowest one. -/
theorem State.lowestFree_le {s : State} {n : Nat} {l : LaneRec} (h : s.laneAt n = some l) (hfree : l.state = .free) :
    ∃ m, s.lowestFree = some m ∧ m ≤ n ∧ ∃ k, s.laneAt m = some k := by
  obtain ⟨hlt, hl⟩ := List.getElem?_eq_some_iff.1 h
  cases hm : s.lowestFree with
  | none =>
    have hno := List.findIdx?_eq_none_iff.1 hm l (List.mem_of_getElem? h)
    simp [hfree] at hno
  | some m =>
    obtain ⟨hlt', -, hfirst⟩ := List.findIdx?_eq_some_iff_getElem.1 hm
    refine ⟨m, rfl, Nat.le_of_not_lt fun hnm => ?_, _, List.getElem?_eq_getElem hlt'⟩
    have := hfirst n hnm
    simp [hl, hfree] at this

/-- Settles O34: the answer's cases by the lane's state. -/
theorem clearSlotEnds : Obligations.ClearSlotEnds := by
  intro s n l h ends emptied
  refine ⟨fun c => ?held, fun hstate => ?stays, fun hstate => ⟨fun hkeeps => ?_, fun hopen hlost => ?_⟩⟩
  case held =>
    exact congrArg Host.Outcome.next (h.event (g := fun s => s.clearSlotEnd (.held c))
      (fun x => { x with last := some .rejected }) (State.clearSlotEnd_of_inSlot h _))
  case stays =>
    have hgo : s.clearAnswered n l .empty = s.updLane n fun x => { x with last := some .ok } := by
      rcases hstate with hstate | hstate <;> simp [State.clearAnswered, hstate]
    exact congrArg Host.Outcome.next (h.event (g := fun s => s.clearSlotEnd .empty)
      (fun x => { x with last := some .ok }) ((State.clearSlotEnd_of_inSlot h _).trans (by rw [hgo])))
  · have hgo : s.clearAnswered n l .empty = ((s.unbind n).updLane n LaneRec.emptied).restoreIfUnbound := by
      rcases hstate with hstate | hstate | hstate <;> simp [State.clearAnswered, hstate]
    obtain ⟨v, hempty, hzero⟩ := State.unbind_emptied_frame h.2.2.2.1
    have hstill : ((s.unbind n).updLane n LaneRec.emptied).restoreIfUnbound = (s.unbind n).updLane n LaneRec.emptied := by
      refine State.restoreIfUnbound_of_bound ?_
      rw [hempty]
      refine hkeeps.imp id fun ⟨hbound, hother⟩ => ?_
      rw [if_neg hother] at hzero
      exact (congrArg (fun e : RangeEntry => e.lane.isSome) hzero).trans hbound
    have hend : exec (.clearSlotEnd .empty) s = .next { (s.unbind n).updLane n LaneRec.emptied with
        lane := s.lane.after (s.lane.lanes.set n .clearedFree) n } := by
      refine congrArg Host.Outcome.next (deviceEvent_of_adds h.1 ((State.clearSlotEnd_of_inSlot h _).trans ?_) ?_ ?_)
      · rw [hgo, hstill]
        exact State.finishSlot_after h (by rw [hempty]) (by simp) (by rw [hempty])
      · rw [hempty]
        exact .of_same rfl
      · rw [hempty]
        exact .of_same rfl
    refine ⟨fun hr => ?_, fun r hr => ?_⟩
    · rw [hend, State.unbind_emptied_of_unbound h.2.2.2.1 hr]
      rfl
    · rw [hend, State.unbind_emptied_of_bound h.2.2.2.1 hr]
      rfl
  · have hgo : s.clearAnswered n l .empty = ((s.unbind n).updLane n LaneRec.emptied).restoreIfUnbound := by
      rcases hstate with hstate | hstate | hstate <;> simp [State.clearAnswered, hstate]
    obtain ⟨v, hempty, hzero⟩ := State.unbind_emptied_frame h.2.2.2.1
    rw [hempty] at hgo
    have hlane : v[0].lane = none ∧ { v[0] with lane := none } = { s.range 0 with lane := none } := by
      rw [hzero]
      split
      · exact ⟨rfl, rfl⟩
      · rename_i hother
        exact ⟨hlost.resolve_left hother, rfl⟩
    generalize hx : { s with lane := { s.lane with lanes := s.lane.lanes.set n .clearedFree }, ranges := v } = x at hgo
    have hlanes : x.lane = { s.lane with lanes := s.lane.lanes.set n .clearedFree } := by rw [← hx]
    have hn : x.laneAt n = some .clearedFree := by
      rw [State.laneAt, hlanes]
      exact List.getElem?_set_self (List.getElem?_eq_some_iff.1 h.2.2.2.1).1
    obtain ⟨m, hm, hmn, k, hk⟩ := State.lowestFree_le hn rfl
    have hfree : (x.range 0).lane = none := by
      rw [← hx]
      exact hlane.1
    have hrestore : x.restoreIfUnbound = (x.updLane m fun l => l.bind 0 (x.checkCode 0)).setRange 0
        { x.range 0 with read := true, write := true, holder := none, lane := some m } := by
      rw [State.restoreIfUnbound_of_unbound (by rw [← hx]; exact hopen) hfree, State.restoreGlobal_of_free hfree hm]
    have hend : s.clearSlotEnd .empty =
        { (x.updLane m fun l => l.bind 0 (x.checkCode 0)).setRange 0
            { x.range 0 with read := true, write := true, holder := none, lane := some m } with
          lane := s.lane.after (x.lane.lanes.modify m fun l => l.bind 0 (x.checkCode 0)) n } := by
      rw [State.clearSlotEnd_of_inSlot h, hgo, hrestore]
      refine State.finishSlot_after h (by simp [State.updLane, hlanes]) (by simp [hlanes]) ?_
      rw [← hx]
      rfl
    have hrange : { x.range 0 with read := true, write := true, holder := none, lane := some m } =
        { s.range 0 with read := true, write := true, holder := none, lane := some m } := by
      rw [← hx]
      exact congrArg (fun e : RangeEntry => { e with read := true, write := true, holder := none, lane := some m }) hlane.2
    refine ⟨_, m, k.bind 0 (x.checkCode 0),
      congrArg Host.Outcome.next (deviceEvent_of_adds (f := fun s => s.clearSlotEnd .empty) h.1 hend ?_ ?_), hmn,
      (State.range_setRange_self ..).trans hrange, ?_, rfl, rfl, rfl, ?_, ?_⟩
    · rw [← hx]
      exact .of_same rfl
    · rw [← hx]
      exact .of_same rfl
    · exact (List.getElem?_modify_eq ..).trans (congrArg (Option.map _) hk)
    · rw [← hx]
      rfl
    · rw [← hx]
      rfl

/-! ## PROBE (R58, R59) -/

theorem State.probeSlotEnd_of_inSlot {s : State} {n : Nat} {l : LaneRec} {b : Option Code}
    (h : s.InSlot n l (.probe b)) (x : HeldAnswer) :
    s.probeSlotEnd x = (s.probeAnswered n l b x).finishSlot := by
  simp [State.probeSlotEnd, h.slotInProgress]


/-- Settles O35: the owner's cases by the lane's state and the votes. -/
theorem probeSlotEnds : Obligations.ProbeSlotEnds := by
  intro s n l believed x h ends
  have hevent (f : LaneRec → LaneRec) (hf : s.probeAnswered n l believed x = s.updLane n f) :
      exec (.probeSlotEnd x) s = .next (ends (f l)) :=
    congrArg Host.Outcome.next
      (h.event (g := fun s => s.probeSlotEnd x) f ((State.probeSlotEnd_of_inSlot h x).trans (by rw [hf])))
  refine ⟨fun hfree => ⟨?empty, ?held⟩, fun hstate => ?other, fun e hloaded he => ?loaded⟩
  case empty =>
    rintro rfl
    exact hevent (fun x => { x with last := some .ok }) (by simp [State.probeAnswered, hfree])
  case held =>
    rintro c rfl
    exact hevent (fun x => { x with last := some .mismatch, plan := .clear }) (by simp [State.probeAnswered, hfree])
  case other =>
    refine ⟨_, hevent (fun y => { y with last := some (heldVote x believed).outcome }) ?_⟩
    rcases hstate with hstate | hstate | hstate <;> simp [State.probeAnswered, hstate]
  case loaded =>
    intro ok all votes l'
    have hvote : heldVote x l.expected = if ok then .ok else .mismatch := by
      cases x with
      | empty => simp [ok, heldVote, he]
      | held c => simp [ok, heldVote, he]
    have hvotes : addVote l.votes (heldVote x l.expected) = votes := by
      rw [hvote]
      by_cases hshort : all.length ≤ 3
      · have hdrop : all.length - 3 = 0 := Nat.sub_eq_zero_of_le hshort
        exact (congrArg (List.drop · all) hdrop).trans (if_pos hshort).symm
      · exact (if_neg hshort).symm
    have houtcome : (heldVote x l.expected).outcome = if ok then SlotOutcome.ok else .mismatch := by
      rw [hvote]
      cases ok <;> rfl
    have hanswered : s.probeAnswered n l believed x =
        if 2 ≤ votes.count .mismatch then (s.updLane n fun _ => l').faultLane n l' else s.updLane n fun _ => l' := by
      simp only [State.probeAnswered, hloaded, hvotes, houtcome, l']
    refine ⟨fun hfew => hevent (fun _ => l') (hanswered.trans (if_neg (Nat.not_le_of_gt hfew))), fun r hmany hr => ?_⟩
    rw [if_pos hmany] at hanswered
    have hgo : s.probeSlotEnd x = ((s.updLane n fun _ => l').faultLane n l').finishSlot := by
      rw [State.probeSlotEnd_of_inSlot h, hanswered]
    have hexec : exec (.probeSlotEnd x) s = .next (State.raiseIf (State.moved s (s.setRange r (s.range r).locked))
        (s.faulted n l' r)) :=
      congrArg Host.Outcome.next (h.faultEvent (l' := l') (g := fun s => s.probeSlotEnd x) hr hgo)
    have hrange (q : RangeId) : (State.raiseIf (State.moved s (s.setRange r (s.range r).locked)) (s.faulted n l' r)).range q =
        (s.setRange r (s.range r).locked).range q := State.range_raiseIf ..
    obtain ⟨e', d', hraise⟩ := State.raiseIf_frame (State.moved s (s.setRange r (s.range r).locked)) (s.faulted n l' r)
    refine ⟨_, hexec, (hrange r).trans (State.range_setRange_self ..), fun q hq =>
      (hrange q).trans (State.range_setRange_of_ne s hq.symm _), by rw [hraise]; rfl,
      State.epoch_raiseIf_moved (x := s.faulted n l' r) rfl rfl, by rw [hraise]; rfl, fun hroom => ?_⟩
    have hnotices : (s.faulted n l' r).drive.notices = s.drive.notices ++
        [⟨.rangeRelocked, some r, none, s.epoch, s.custody.state⟩, ⟨.laneFault, none, some n, s.epoch, s.custody.state⟩] := by
      simp only [State.faulted]
      rw [PortState.push_of_room, PortState.push_of_room]
      · simp
      · omega
      · rw [PortState.push_of_room]
        · simp; omega
        · omega
    cases State.moved s (s.setRange r (s.range r).locked)
    · exact hnotices.trans (by simp [State.raiseIf, State.faulted])
    · have hpushed : (State.raiseIf true (s.faulted n l' r)).drive.notices =
          (s.faulted n l' r).drive.notices ++ [changed (s.epoch + 1) s.custody.state] := by
        have hlength : (s.faulted n l' r).drive.notices.length < 8 := by
          rw [hnotices]
          simp
          omega
        exact congrArg PortState.notices (PortState.push_of_room _ _ hlength)
      have hepoch : (State.raiseIf true (s.faulted n l' r)).epoch = s.epoch + 1 := rfl
      have hnext : s.epoch + 1 ≠ s.epoch := by simp
      rw [hpushed, hnotices, hepoch]
      exact congrArg _ (if_neg hnext).symm

end Sys2Proof.Machine

/-!
PROOFS. Ranges that lose their lanes: the link that goes DOWN at the third silent frame, and the count that a turn slot
adopts.
-/

namespace Sys2Proof.Machine

open Sys2Proof

/-! ## Ranges that lose their lanes (R61, R63) -/

/-- A range's entry after its lane is lost: without the lane, and without rights where one was on. -/
def RangeEntry.unlaned (e : RangeEntry) : RangeEntry :=
  if e.hasRight then { e with lane := none }.locked else { e with lane := none }

@[simp] theorem RangeEntry.unlaned_stored (e : RangeEntry) : e.unlaned.stored = e.stored := by
  unfold RangeEntry.unlaned
  split <;> rfl

@[simp] theorem RangeEntry.unlaned_lane (e : RangeEntry) : e.unlaned.lane = none := by
  unfold RangeEntry.unlaned
  split <;> rfl

@[simp] theorem RangeEntry.unlaned_hasRight (e : RangeEntry) : e.unlaned.hasRight = false := by
  unfold RangeEntry.unlaned
  split
  · rfl
  · rename_i h
    exact Bool.eq_false_iff.2 h

theorem RangeEntry.unlaned_holder {e : RangeEntry} (h : e.hasRight = true) : e.unlaned.holder = none := by
  rw [RangeEntry.unlaned, if_pos h]
  rfl

/-- The RANGE_RELOCKED notice of a range. -/
def State.relocked (s : State) (r : RangeId) : Notice := ⟨.rangeRelocked, some r, none, s.epoch, s.custody.state⟩

/-- The notices of the ranges of a list that have a right, in the list's order. -/
def State.relocks (s : State) (rs : List RangeId) (q : PortState) : PortState :=
  (rs.filter fun r => (s.range r).hasRight).foldl (fun q r => q.push (s.relocked r)) q

theorem State.unbindRange_eq (s : State) (r : RangeId) :
    ∃ lanes, s.unbindRange r =
        { s with
          lane := { s.lane with lanes := lanes }
          ranges := s.ranges.set r.val { s.range r with lane := none } r.isLt } ∧
      (∀ m, (s.range r).lane ≠ some m → lanes[m]? = s.lane.lanes[m]?) ∧
      lanes.map (·.last) = s.lane.lanes.map (·.last) := by
  cases h : (s.range r).lane with
  | none =>
    have hset : s.ranges.set r.val { s.range r with lane := none } r.isLt = s.ranges := by
      have hentry : { s.range r with lane := none } = s.range r := by rw [← h]
      rw [hentry]
      exact Vector.set_getElem_self ..
    exact ⟨s.lane.lanes, by simp [State.unbindRange, h, hset], fun _ _ => rfl, rfl⟩
  | some n =>
    refine ⟨s.lane.lanes.modify n fun l => { l with range := none }, by simp [State.unbindRange, h]; rfl, fun m hm => ?_, ?_⟩
    · have hne : n ≠ m := fun h => hm (by rw [h])
      simp [hne]
    · refine List.ext_getElem? fun m => ?_
      simp only [List.getElem?_map, List.getElem?_modify]
      split <;> simp [Function.comp_def]

/-- One range loses its lane: its entry, its lane's binding, and its notice. -/
theorem State.loseLane_eq (s : State) (r : RangeId) :
    ∃ lanes, s.loseLane r =
        { s with
          lane := { s.lane with lanes := lanes }
          ranges := s.ranges.set r.val (s.range r).unlaned r.isLt
          drive := if (s.range r).hasRight then s.drive.push (s.relocked r) else s.drive } ∧
      (∀ m, (s.range r).lane ≠ some m → lanes[m]? = s.lane.lanes[m]?) ∧
      lanes.map (·.last) = s.lane.lanes.map (·.last) := by
  obtain ⟨lanes, hunbind, hlanes, hlast⟩ := s.unbindRange_eq r
  refine ⟨lanes, ?_, hlanes, hlast⟩
  have hrange : (s.unbindRange r).range r = { s.range r with lane := none } := by
    rw [hunbind]
    exact Vector.getElem_set_self ..
  have hright : ((s.unbindRange r).range r).hasRight = (s.range r).hasRight := by rw [hrange]; rfl
  unfold State.loseLane RangeEntry.unlaned
  dsimp only
  rw [hright, hrange, hunbind]
  split
  · simp [State.setRange, State.notify, State.relocked]
    rfl
  · rfl

/-- The ranges of a list lose their lanes, one after another. -/
theorem State.loseLanes_eq (rs : List RangeId) (hrs : rs.Nodup) (s : State) :
    ∃ lanes v, rs.foldl State.loseLane s =
        { s with lane := { s.lane with lanes := lanes }, ranges := v, drive := s.relocks rs s.drive } ∧
      (∀ q : RangeId, v[q.val] = if q ∈ rs then (s.range q).unlaned else s.range q) ∧
      (∀ m, (∀ r ∈ rs, (s.range r).lane ≠ some m) → lanes[m]? = s.lane.lanes[m]?) ∧
      lanes.map (·.last) = s.lane.lanes.map (·.last) := by
  induction rs generalizing s with
  | nil => exact ⟨s.lane.lanes, s.ranges, rfl, fun q => by simp [State.range], fun _ _ => rfl, rfl⟩
  | cons r rs ih =>
    obtain ⟨hr, hrs⟩ := List.nodup_cons.1 hrs
    obtain ⟨lanes, hlose, hlanes, hlast⟩ := s.loseLane_eq r
    obtain ⟨lanes', v, hrest, hv, hlanes', hlast'⟩ := ih hrs (s.loseLane r)
    have hrange (q : RangeId) : (s.loseLane r).range q = if q = r then (s.range r).unlaned else s.range q := by
      have hset : (s.loseLane r).range q = (s.setRange r (s.range r).unlaned).range q := by rw [hlose]; rfl
      rw [hset, State.range_setRange]
      simp only [eq_comm]
    have hother {q : RangeId} (hq : q ∈ rs) : (s.loseLane r).range q = s.range q :=
      (hrange q).trans (if_neg fun h : q = r => hr (h ▸ hq))
    refine ⟨lanes', v, ?_, fun q => ?_, fun m hm => ?_, ?_⟩
    · have hrelocks : (s.loseLane r).relocks rs (s.loseLane r).drive = s.relocks (r :: rs) s.drive := by
        have hfilter : (rs.filter fun q => ((s.loseLane r).range q).hasRight) = rs.filter fun q => (s.range q).hasRight :=
          List.filter_congr fun q hq => by rw [hother hq]
        rw [State.relocks, hfilter, State.relocks, List.filter_cons, hlose]
        cases (s.range r).hasRight <;> rfl
      rw [List.foldl_cons, hrest, hrelocks, hlose]
    · rw [hv q]
      by_cases hq : q ∈ rs
      · rw [if_pos hq, if_pos (List.mem_cons_of_mem _ hq), hother hq]
      · rw [if_neg hq, hrange]
        by_cases hqr : q = r
        · rw [if_pos hqr, if_pos (hqr ▸ List.mem_cons_self), hqr]
        · rw [if_neg hqr, if_neg (by simp [hq, hqr])]
    · rw [hlanes' m fun q hq => by rw [hother hq]; exact hm q (List.mem_cons_of_mem _ hq), hlose]
      exact hlanes m (hm r List.mem_cons_self)
    · rw [hlast', hlose]
      exact hlast

/-! ## Silence (R62, R63) -/

theorem nodup_allRanges : allRanges.Nodup := by decide

theorem allRanges_eq_finRange : allRanges = List.finRange 16 := by decide

theorem State.NoHold.of_inFlight {s x : State} (h : s.NoHold) (hflight : x.drive.inFlight = s.drive.inFlight) :
    x.NoHold := fun f b hf => h f b (hflight ▸ hf)

/-- The notices of a list's relocks leave the request in flight alone. -/
theorem State.inFlight_relocks (s : State) (rs : List RangeId) (q : PortState) :
    (s.relocks rs q).inFlight = q.inFlight := by
  unfold State.relocks
  induction rs.filter fun r => (s.range r).hasRight generalizing q with
  | nil => rfl
  | cons r rs ih => rw [List.foldl_cons, ih, PortState.inFlight_push]

theorem State.adds_relocks (s : State) (rs : List RangeId) {p q : PortState} (h : p.Adds s.custody.state q) :
    p.Adds s.custody.state (s.relocks rs q) := by
  unfold State.relocks
  induction rs.filter fun r => (s.range r).hasRight generalizing q with
  | nil => exact h
  | cons r rs ih => exact ih (h.push rfl)

/-- A turn slot on the UP link ends: lane 0 is due. -/
theorem State.finishSlot_turn {s : State} (h : s.NoHold) (hpos : s.lane.position = .turn) :
    s.finishSlot = { s with lane := { s.lane with position := .lane 0, sent := none } } := by
  rw [State.finishSlot_of_noHold h, State.nextPosition, hpos]

/-- An increment's epoch and notice, told by the epoch it leaves (R22). -/
theorem State.raiseIf_eq (c : Bool) (x : State) :
    State.raiseIf c x =
      { x with
        epoch := (State.raiseIf c x).epoch
        drive :=
          if (State.raiseIf c x).epoch = x.epoch then x.drive
          else x.drive.push (changed (State.raiseIf c x).epoch x.custody.state) } := by
  cases c
  · exact congrArg (fun d => { x with drive := d }) (if_pos rfl).symm
  · have hnext : x.epoch + 1 ≠ x.epoch := by simp
    exact congrArg (fun d => { x with epoch := x.epoch + 1, drive := d }) (if_neg hnext).symm

theorem State.inFlight_raiseIf (c : Bool) (x : State) : (State.raiseIf c x).drive.inFlight = x.drive.inFlight := by
  cases c
  · rfl
  · exact PortState.inFlight_push ..

theorem State.mem_rangesOn {s : State} {f : Nat → Bool} {r : RangeId} :
    r ∈ s.rangesOn f ↔ ∃ n, (s.range r).lane = some n ∧ f n = true := by
  cases h : (s.range r).lane <;> simp [State.rangesOn, mem_allRanges, h]

theorem State.nodup_rangesOn (s : State) (f : Nat → Bool) : (s.rangesOn f).Nodup := nodup_allRanges.filter _

/-- The relocks of the ranges on lanes that meet a test, as one pass over the range ids. -/
theorem State.relocks_rangesOn (s : State) (f : Nat → Bool) (q : PortState) :
    s.relocks (s.rangesOn f) q =
      ((List.finRange 16).filter fun r => (s.range r).lane.any f && (s.range r).hasRight).foldl
        (fun q r => q.push (s.relocked r)) q := by
  have hany (r : RangeId) : ((s.range r).lane.map f).getD false = (s.range r).lane.any f := by
    cases (s.range r).lane <;> rfl
  simp only [State.relocks, State.rangesOn, List.filter_filter, allRanges_eq_finRange, hany, Bool.and_comm]

/-- The device after the third silent frame, the increment apart (R63). -/
def State.downed (s : State) (v : Vector RangeEntry 16) : State :=
  { s with
    lane := ⟨s.lane.lanes.map LaneRec.lost, .down, 0, s.lane.position, s.lane.sent⟩
    ranges := v
    drive := (s.relocks (s.rangesOn fun _ => true) s.drive).push ⟨.laneLinkDown, none, none, s.epoch, s.custody.state⟩ }

/-- The link goes DOWN where range 0 needs no lane at once (R63). -/
theorem State.linkDown_eq {s : State} (hkeeps : s.custody.state ≠ .opened ∨ (s.range 0).lane.isSome = true) :
    ∃ v : Vector RangeEntry 16,
      s.linkDown = State.raiseIf (State.moved s (s.downed v)) (s.downed v) ∧
        ∀ q : RangeId, v[q.val] = if (s.range q).lane.isSome then (s.range q).unlaned else s.range q := by
  obtain ⟨lanes, v, hlost, hv, -, hlast⟩ := State.loseLanes_eq _ (s.nodup_rangesOn fun _ => true) s
  have hmap : lanes.map LaneRec.lost = s.lane.lanes.map LaneRec.lost := by
    have hfactor (l : List LaneRec) : l.map LaneRec.lost = (l.map (·.last)).map fun o => { LaneRec.initial with last := o } := by
      rw [List.map_map]
      rfl
    rw [hfactor, hlast, ← hfactor]
  have hmem (q : RangeId) : q ∈ s.rangesOn (fun _ => true) ↔ (s.range q).lane.isSome = true := by
    rw [State.mem_rangesOn, Option.isSome_iff_exists]
    simp
  refine ⟨v, ?_, fun q => (hv q).trans (if_congr (hmem q) rfl rfl)⟩
  have hdown : s.linkDown = if (s.range 0).lane.isNone then
      (State.raiseIf (State.moved s (s.downed v)) (s.downed v)).restoreIfUnbound
      else State.raiseIf (State.moved s (s.downed v)) (s.downed v) := by
    unfold State.linkDown
    dsimp only
    rw [hlost]
    dsimp only
    rw [hmap]
    rfl
  rw [hdown]
  split
  · rename_i hnone
    refine State.restoreIfUnbound_of_bound (.inl ?_)
    rw [State.raiseIf_eq]
    refine hkeeps.resolve_right ?_
    rw [Option.isNone_iff_eq_none.1 hnone]
    decide
  · rfl

theorem State.slotSilent_of_turn {s : State} (hlink : s.lane.link = .up) (hpos : s.lane.position = .turn) :
    s.slotSilent = s.turnSilent.finishSlot := by
  simp [State.slotSilent, hlink, hpos]

/-- Settles O37: a lane's slot, a turn slot with an answer in the frame, one of the first two silent frames, and the
third. -/
theorem silentSlotEnds : Obligations.SilentSlotEnds := by
  intro s hp hlink hhold silent turn relocked
  have hends (hpos : s.lane.position = .turn) (x : State) (hturn : s.turnSilent = x) (hx : x.lane.position = .turn)
      (hflight : x.drive.inFlight = s.drive.inFlight) (hd : s.drive.Adds x.custody.state x.drive)
      (hplat : s.platform.Adds x.custody.state x.platform) :
      exec .slotAnswerWindowExpiry s =
        .next { x with lane := { x.lane with position := .lane 0, sent := none } } := by
    refine congrArg Host.Outcome.next (deviceEvent_of_adds hp ((State.slotSilent_of_turn hlink hpos).trans ?_) hd hplat)
    rw [hturn, State.finishSlot_turn (hhold.of_inFlight hflight) hx]
  refine ⟨fun n l x h => ?lane, fun hpos => ⟨fun hsilent => ?answered, fun hsilent hfew => ?silent,
    fun hsilent hmany hkeeps => ?third⟩⟩
  case lane =>
    refine congrArg Host.Outcome.next (h.event (g := State.slotSilent) (fun l => { l with last := some .silent }) ?_)
    obtain ⟨-, -, hpos, -, -, -⟩ := id h
    simp [State.slotSilent, hlink, hpos, h.slotInProgress]
  case answered =>
    have hturn : s.turnSilent = { s with lane := { s.lane with silence := 0 } } := by
      have hno : s.lanesSilent = false := hsilent
      simp [State.turnSilent, hno, Config.silentFrames]
    exact hends hpos _ hturn hpos rfl (.of_same rfl) (.of_same rfl)
  case silent =>
    have hturn : s.turnSilent = { s with lane := { s.lane with silence := s.lane.silence + 1 } } := by
      have hall : s.lanesSilent = true := hsilent
      simp [State.turnSilent, hall, Config.silentFrames]
      omega
    exact hends hpos _ hturn hpos rfl (.of_same rfl) (.of_same rfl)
  case third =>
    let s1 : State := { s with lane := { s.lane with silence := s.lane.silence + 1 } }
    obtain ⟨v, hdown, hv⟩ := State.linkDown_eq (s := s1) hkeeps
    have hturn : s.turnSilent = State.raiseIf (State.moved s1 (s1.downed v)) (s1.downed v) := by
      have hall : s.lanesSilent = true := hsilent
      rw [← hdown]
      simp [State.turnSilent, hall, Config.silentFrames, s1]
      omega
    let t : State := { s1.downed v with lane := { (s1.downed v).lane with position := .lane 0, sent := none } }
    have hlanes (x : State) (c : Bool) :
        { State.raiseIf c x with lane := { (State.raiseIf c x).lane with position := .lane 0, sent := none } } =
          State.raiseIf c { x with lane := { x.lane with position := .lane 0, sent := none } } := by
      cases c <;> rfl
    have hexec : exec .slotAnswerWindowExpiry s = .next (State.raiseIf (State.moved s t) t) := by
      have hdrive : s.drive.Adds s.custody.state (s1.downed v).drive :=
        (s1.adds_relocks _ (.of_same rfl)).push rfl
      refine (hends hpos _ hturn ?_ ?_ (hdrive.raiseIf (x := s1.downed v) _) ?_).trans
        (congrArg Host.Outcome.next (hlanes _ _))
      · rw [State.raiseIf_eq]
        exact hpos
      · rw [State.inFlight_raiseIf]
        exact (PortState.inFlight_push ..).trans (s1.inFlight_relocks ..)
      · rw [State.raiseIf_eq]
        exact .of_same rfl
    have hrange (q : RangeId) : (State.raiseIf (State.moved s t) t).range q =
        if (s.range q).lane.isSome then (s.range q).unlaned else s.range q :=
      (State.range_raiseIf ..).trans (hv q)
    have hrelocked : s1.relocks (s1.rangesOn fun _ => true) s.drive = relocked := by
      have hany (r : RangeId) : (s1.range r).lane.any (fun _ => true) = (s.range r).lane.isSome := by
        change (s.range r).lane.any (fun _ => true) = _
        cases (s.range r).lane <;> rfl
      rw [State.relocks_rangesOn]
      simp only [hany]
      rfl
    refine ⟨_, hexec, ?lanes, fun r hr => ?kept, fun r hr => ?lost, State.epoch_raiseIf_moved rfl rfl, ?frame⟩
    case lanes =>
      rw [State.raiseIf_eq]
      rfl
    case kept => rw [hrange, hr]; rfl
    case lost =>
      rw [hrange, if_pos hr]
      exact ⟨RangeEntry.unlaned_lane _, RangeEntry.unlaned_hasRight _, RangeEntry.unlaned_stored _,
        RangeEntry.unlaned_holder⟩
    case frame =>
      rw [← hrelocked]
      exact (State.raiseIf_eq ..).trans (by rw [State.raiseIf_eq]; rfl)

end Sys2Proof.Machine

/-!
PROOFS. The turn slot answered: the count adopted, the link UP, and range 0's rights and lane in OPEN.
-/

namespace Sys2Proof.Machine

open Sys2Proof

/-! ## A count adopted (R61) -/

/-- The lane records that a count leaves. -/
def State.adopted (s : State) (count : Nat) : List LaneRec :=
  if count < 4 ∨ 16 < count ∨ count = s.lane.lanes.length then s.lane.lanes
  else if count < s.lane.lanes.length then s.lane.lanes.take count
  else s.lane.lanes ++ List.replicate (count - s.lane.lanes.length) .initial

/-- A count that discards lanes. -/
def State.shrinks (s : State) (count : Nat) : Prop := 4 ≤ count ∧ count < s.lane.lanes.length ∧ count ≤ 16

theorem State.adopted_of_shrinks {s : State} {count : Nat} (h : s.shrinks count) :
    s.adopted count = s.lane.lanes.take count := by
  obtain ⟨h4, hlt, h16⟩ := h
  rw [State.adopted, if_neg (by omega), if_pos hlt]

theorem State.adoptCount_of_grows {s : State} {count : Nat} (h : ¬s.shrinks count) :
    s.adoptCount count = s.setLanes (s.adopted count) := by
  unfold State.adoptCount State.adopted
  dsimp only
  split
  · rfl
  · split
    · rename_i hcount hlt
      exact absurd ⟨by omega, hlt, by omega⟩ h
    · rfl

/-- A range's lane is one that the count discards. -/
def State.discards (s : State) (count : Nat) (r : RangeId) : Bool :=
  (s.range r).lane.any fun n => decide (count ≤ n)

/-- The relocks of the ranges on discarded lanes. -/
def State.discardRelocks (s : State) (count : Nat) : PortState :=
  s.relocks (s.rangesOn fun n => decide (count ≤ n)) s.drive

theorem State.adoptCount_of_shrinks {s : State} {count : Nat} (h : s.shrinks count) :
    ∃ v : Vector RangeEntry 16,
      s.adoptCount count = { s with
        lane := { s.lane with lanes := s.adopted count }, ranges := v, drive := s.discardRelocks count } ∧
      ∀ q : RangeId, v[q.val] = if s.discards count q then (s.range q).unlaned else s.range q := by
  obtain ⟨lanes, v, hlost, hv, hlanes, -⟩ := State.loseLanes_eq _ (s.nodup_rangesOn fun n => decide (count ≤ n)) s
  have htake : lanes.take count = s.adopted count := by
    rw [State.adopted_of_shrinks h]
    refine List.ext_getElem? fun m => ?_
    rw [List.getElem?_take, List.getElem?_take]
    split
    · rename_i hm
      refine hlanes m fun r hr hlane => ?_
      obtain ⟨n, hn, hcount⟩ := State.mem_rangesOn.1 hr
      rw [hlane] at hn
      cases hn
      exact absurd (of_decide_eq_true hcount) (Nat.not_le_of_lt hm)
    · rfl
  have hmem (q : RangeId) : q ∈ s.rangesOn (fun n => decide (count ≤ n)) ↔ s.discards count q = true := by
    rw [State.mem_rangesOn, State.discards, Option.any_eq_true]
  refine ⟨v, ?_, fun q => (hv q).trans (if_congr (hmem q) rfl rfl)⟩
  obtain ⟨h4, hlt, h16⟩ := h
  unfold State.adoptCount
  dsimp only
  rw [if_neg (by omega), if_pos hlt, hlost]
  simp only [State.setLanes, htake]
  rfl

/-! ## Range 0's rights and lane (R66) -/

/-- A LOADING or LOADED lane is range 0's already: its rights come on (R52, R66). -/
theorem State.restoreGlobal_of_live {s : State} {n : Nat} (h : (s.range 0).lane = some n) {l : LaneRec}
    (hl : s.laneAt n = some l) (hstate : l.state = .loading ∨ l.state = .loaded) :
    s.restoreGlobal = s.setRange 0 { s.range 0 with read := true, write := true, holder := none } := by
  have hbind : s.bind 0 = (s, true) := by
    rcases hstate with hstate | hstate <;> simp [State.bind, h, hl, hstate]
  rw [State.restoreGlobal, hbind]
  rfl

/-- Range 0's entry and the lane records change alone, and range 0 is SHOWN: the concealed set stays (R2, R4). -/
theorem State.concealedSet_of_shown {s t : State} (hmode : t.mode = s.mode)
    (hranges : ∀ r, r ≠ 0 → t.range r = s.range r) (hstored : (t.range 0).stored = (s.range 0).stored)
    (hshown : shownIfGlobal 0 (s.range 0).stored) : t.concealedSet = s.concealedSet := by
  refine State.concealedSet_eq_iff.2 fun r => ?_
  by_cases hr : r = 0
  · subst hr
    simp only [State.isConcealed, hstored]
    split
    · rfl
    · rename_i c hc
      rw [hshown rfl c hc]
      rfl
  · simp only [State.isConcealed, hranges r hr, hmode]

/-! ## The link UP (R64) -/

/-- The lane records when the link comes UP: every FREE lane is to be cleared. -/
def clearedLanes (lanes : List LaneRec) : List LaneRec :=
  lanes.map fun l => if l.state = .free then { l with plan := .clear } else l

theorem state_clearedLanes {lanes : List LaneRec} {n : Nat} {l : LaneRec} (h : lanes[n]? = some l) :
    ∃ p, (clearedLanes lanes)[n]? = some { l with plan := p } ∧ (l.state ≠ .free → p = l.plan) := by
  rw [clearedLanes, List.getElem?_map, h]
  by_cases hfree : l.state = .free
  · exact ⟨.clear, by simp [hfree], fun h => absurd hfree h⟩
  · exact ⟨l.plan, by simp [hfree], fun _ => rfl⟩

/-- The device with the link UP at lane 0, the range 0 of OPEN apart. -/
def State.linked (s : State) : State :=
  { s with
    lane := ⟨clearedLanes s.lane.lanes, .up, 0, .lane 0, none⟩
    drive := s.drive.push ⟨.laneLinkUp, none, none, s.epoch, s.custody.state⟩ }

theorem State.linkUp_eq (s : State) :
    s.linkUp = if s.custody.state = .opened && !s.linked.clears 0 then s.linked.restoreGlobal else s.linked := rfl

theorem State.linkUp_of_closed {s : State} (h : s.custody.state ≠ .opened) : s.linkUp = s.linked := by
  simp [State.linkUp_eq, h]

/-- The device after an answered turn slot, the increment apart: the link UP at lane 0. -/
def State.turned (s : State) (lanes : List LaneRec) (v : Vector RangeEntry 16) (q : PortState) : State :=
  { s with lane := ⟨lanes, .up, 0, .lane 0, none⟩, ranges := v, drive := q }

theorem State.linked_eq (s : State) :
    s.linked = s.turned (clearedLanes s.lane.lanes) s.ranges
      (s.drive.push ⟨.laneLinkUp, none, none, s.epoch, s.custody.state⟩) := rfl

theorem State.clears_of_laneAt {s : State} {r : RangeId} {n : Nat} {l : LaneRec} (h : (s.range r).lane = some n)
    (hl : s.laneAt n = some l) : s.clears r = decide (l.state = .clearing) := by
  simp [State.clears, h, hl]

/-- A FREE lane before which none is FREE is the lowest one. -/
theorem State.lowestFree_eq {s : State} {m : Nat} {l : LaneRec} (h : s.laneAt m = some l) (hfree : l.state = .free)
    (hfirst : ∀ k < m, ∀ l', s.laneAt k = some l' → l'.state ≠ .free) : s.lowestFree = some m := by
  obtain ⟨hlt, hl⟩ := List.getElem?_eq_some_iff.1 h
  refine List.findIdx?_eq_some_iff_getElem.2 ⟨hlt, by simp [hl, hfree], fun k hk => ?_⟩
  simpa using hfirst k hk _ (List.getElem?_eq_getElem (hk.trans hlt))

/-- In OPEN range 0 without a lane takes lane 0, FREE (R66). -/
theorem State.linkUp_of_free {s : State} (ho : s.custody.state = .opened) (h : (s.range 0).lane = none)
    {l : LaneRec} (hl : s.laneAt 0 = some l) (hfree : l.state = .free) :
    s.linkUp = s.turned ((clearedLanes s.lane.lanes).set 0 (l.bind 0 (s.checkCode 0)))
      (s.ranges.set 0 { s.range 0 with read := true, write := true, holder := none, lane := some 0 })
      (s.drive.push ⟨.laneLinkUp, none, none, s.epoch, s.custody.state⟩) := by
  obtain ⟨p, hp, -⟩ := state_clearedLanes hl
  have hlane : s.linked.laneAt 0 = some { l with plan := p } := hp
  have hlow : s.linked.lowestFree = some 0 := State.lowestFree_eq hlane hfree nofun
  have hclears : s.linked.clears 0 = false := by
    simp [State.clears, show (s.linked.range 0).lane = none from h]
  rw [State.linkUp_eq, if_pos (by simp [hclears, ho]), State.restoreGlobal_of_free (s := s.linked) h hlow, State.updLane_of_laneAt hlane, State.linked_eq]
  rfl

/-- In OPEN range 0 on a LOADING lane has its rights on that lane as it stands (R66). -/
theorem State.linkUp_of_loading {s : State} (ho : s.custody.state = .opened) {n : Nat}
    (h : (s.range 0).lane = some n) {l : LaneRec} (hl : s.laneAt n = some l) (hloading : l.state = .loading) :
    s.linkUp = s.turned (clearedLanes s.lane.lanes)
      (s.ranges.set 0 { s.range 0 with read := true, write := true, holder := none })
      (s.drive.push ⟨.laneLinkUp, none, none, s.epoch, s.custody.state⟩) := by
  obtain ⟨p, hp, -⟩ := state_clearedLanes hl
  have hlane : s.linked.laneAt n = some { l with plan := p } := hp
  have hrange : (s.linked.range 0).lane = some n := h
  have hclears : s.linked.clears 0 = false := by
    rw [State.clears_of_laneAt hrange hlane, hloading]
    rfl
  rw [State.linkUp_eq, if_pos (by simp [hclears, ho]), State.restoreGlobal_of_live hrange hlane (.inl hloading), State.linked_eq]
  rfl

/-- In OPEN range 0 on a CLEARING lane waits for the lane's clear (R100, R102). -/
theorem State.linkUp_of_clearing {s : State} {n : Nat} (h : (s.range 0).lane = some n) {l : LaneRec}
    (hl : s.laneAt n = some l) (hclearing : l.state = .clearing) : s.linkUp = s.linked := by
  obtain ⟨p, hp, -⟩ := state_clearedLanes hl
  have hclears : s.linked.clears 0 = true := by
    rw [State.clears_of_laneAt (s := s.linked) h hp, hclearing]
    rfl
  rw [State.linkUp_eq, hclears]
  simp

/-! ## The turn slot's event -/

/-- What a count that discards lanes leaves: the ranges on discarded lanes without lane and rights, `g` range 0's
entry where it is given one, and the increment where the concealed set changed (R61, R103). -/
def State.Shrunk (s : State) (count : Nat) (t : State) (lanes : List LaneRec) (q : PortState)
    (g : Option RangeEntry) : Prop :=
  t.lane = ⟨lanes, .up, 0, .lane 0, none⟩ ∧
  (∀ x, g = some x → t.range 0 = x) ∧
  (∀ r, (r = 0 → g = none) → (∀ n, (s.range r).lane = some n → n < count) → t.range r = s.range r) ∧
  (∀ r n, (r = 0 → g = none) → (s.range r).lane = some n → count ≤ n →
    (t.range r).lane = none ∧ (t.range r).hasRight = false ∧
      (t.range r).stored = (s.range r).stored ∧
      ((s.range r).hasRight = true → (t.range r).holder = none)) ∧
  t.epoch = (if t.concealedSet = s.concealedSet then s.epoch else s.epoch + 1) ∧
  t = { s with
    ranges := t.ranges, lane := t.lane, epoch := t.epoch
    drive := if t.epoch = s.epoch then q else q.push (changed t.epoch s.custody.state) }

theorem State.shrunk_raiseIf {s : State} {count : Nat} {lanes : List LaneRec} {v : Vector RangeEntry 16}
    {q : PortState} {g : Option RangeEntry} (hzero : ∀ x, g = some x → v[0] = x)
    (hranges : ∀ r : RangeId, (r = 0 → g = none) →
      v[r.val] = if s.discards count r then (s.range r).unlaned else s.range r) :
    s.Shrunk count (State.raiseIf (State.moved s (s.turned lanes v q)) (s.turned lanes v q)) lanes q g := by
  have hrange (r : RangeId) : (State.raiseIf (State.moved s (s.turned lanes v q)) (s.turned lanes v q)).range r = v[r.val] :=
    State.range_raiseIf ..
  refine ⟨?lane, fun x hx => (hrange 0).trans (hzero x hx), fun r hg hr => ?kept, fun r n hg hr hn => ?lost,
    State.epoch_raiseIf_moved rfl rfl, (State.raiseIf_eq ..).trans (by rw [State.raiseIf_eq]; rfl)⟩
  case lane =>
    rw [State.raiseIf_eq]
    rfl
  case kept =>
    refine (hrange r).trans ((hranges r hg).trans (if_neg fun hd => ?_))
    obtain ⟨n, hn, hcount⟩ := (Option.any_eq_true ..).1 hd
    exact absurd (of_decide_eq_true hcount) (Nat.not_le_of_lt (hr n hn))
  case lost =>
    have hd : s.discards count r = true := by simp [State.discards, hr, hn]
    rw [hrange, hranges r hg, if_pos hd]
    exact ⟨RangeEntry.unlaned_lane _, RangeEntry.unlaned_hasRight _, RangeEntry.unlaned_stored _,
      RangeEntry.unlaned_holder⟩

/-- What a turn slot's end makes of a device with the link UP. -/
theorem exec_turnSlotEnd_up {s : State} {count : Nat} (hp : s.powered = true) (hhold : s.NoHold)
    (hlink : s.lane.link = .up) (hpos : s.lane.position = .turn) {lanes : List LaneRec} {v : Vector RangeEntry 16}
    {q : PortState}
    (hx : { s.adoptCount count with lane := { (s.adoptCount count).lane with silence := 0 } }.restoreIfUnbound =
      { s with lane := { s.lane with lanes := lanes, silence := 0 }, ranges := v, drive := q })
    (hflight : q.inFlight = s.drive.inFlight) (hd : s.drive.Adds s.custody.state q) :
    exec (.turnSlotEnd count) s =
      .next (State.raiseIf (State.moved s (s.adoptCount count)) (s.turned lanes v q)) := by
  have hfinish (c : Bool) :
      (State.raiseIf c { s with lane := { s.lane with lanes := lanes, silence := 0 }, ranges := v, drive := q }).finishSlot =
        State.raiseIf c (s.turned lanes v q) := by
    rw [State.finishSlot_turn]
    · rw [State.turned, ← hlink]
      cases c <;> rfl
    · exact hhold.of_inFlight ((State.inFlight_raiseIf ..).trans hflight)
    · rw [State.raiseIf_eq]
      exact hpos
  have hend : s.turnSlotEnd count = State.raiseIf (State.moved s (s.adoptCount count)) (s.turned lanes v q) := by
    unfold State.turnSlotEnd
    rw [hlink, hpos]
    dsimp only
    rw [hx, hfinish]
  refine congrArg Host.Outcome.next (deviceEvent_of_adds (f := fun s => s.turnSlotEnd count) hp hend
    (PortState.Adds.raiseIf (x := s.turned lanes v q) hd _) ?_)
  rw [State.raiseIf_eq]
  exact .of_same rfl

/-- What a turn slot's end makes of a device with the link DOWN. -/
theorem exec_turnSlotEnd_down {s : State} {count : Nat} (hp : s.powered = true) (hlink : s.lane.link = .down)
    {lanes : List LaneRec} {v : Vector RangeEntry 16} {q : PortState}
    (hx : (s.adoptCount count).linkUp = s.turned lanes v q) (hd : s.drive.Adds s.custody.state q) :
    exec (.turnSlotEnd count) s =
      .next (State.raiseIf (State.moved s (s.adoptCount count)) (s.turned lanes v q)) := by
  have hend : s.turnSlotEnd count = State.raiseIf (State.moved s (s.adoptCount count)) (s.turned lanes v q) := by
    unfold State.turnSlotEnd
    rw [hlink]
    dsimp only
    rw [hx]
  refine congrArg Host.Outcome.next (deviceEvent_of_adds (f := fun s => s.turnSlotEnd count) hp hend
    (PortState.Adds.raiseIf (x := s.turned lanes v q) hd _) ?_)
  rw [State.raiseIf_eq]
  exact .of_same rfl

/-! ## The turn slot's cases -/

theorem State.moved_congr (s : State) {x y : State} (h : x.concealedSet = y.concealedSet) :
    State.moved s x = State.moved s y := by
  rw [State.moved, State.moved, h]

theorem State.moved_setLanes (s : State) (lanes : List LaneRec) : State.moved s (s.setLanes lanes) = false :=
  decide_eq_false (not_not.2 rfl)

theorem State.laneAt_adopted_of_grows {s : State} {count : Nat} (h : ¬s.shrinks count) {n : Nat} {l : LaneRec}
    (hl : s.laneAt n = some l) : (s.setLanes (s.adopted count)).laneAt n = some l := by
  have hlt := (List.getElem?_eq_some_iff.1 hl).1
  change (s.adopted count)[n]? = some l
  unfold State.adopted
  split
  · exact hl
  · split
    · exact absurd ⟨by omega, by omega, by omega⟩ h
    · rw [List.getElem?_append_left hlt]
      exact hl

theorem State.laneAt_adopted_of_shrinks {s : State} {count : Nat} (h : s.shrinks count) {n : Nat} (hn : n < count) :
    (s.adopted count)[n]? = s.laneAt n := by
  rw [State.adopted_of_shrinks h, List.getElem?_take, if_pos hn]
  rfl

/-- Range 0's entry where it had no lane or one that is discarded: without a lane, and otherwise its own but for what
a restoring gives it. -/
theorem State.restored_of_discarded {s : State} {count : Nat} {e : RangeEntry}
    (he : e = if s.discards count 0 then (s.range 0).unlaned else s.range 0)
    (hlost : ∀ n, (s.range 0).lane = some n → count ≤ n) :
    e.lane = none ∧ ∀ m : Nat, { e with read := true, write := true, holder := none, lane := some m } =
      { s.range 0 with read := true, write := true, holder := none, lane := some m } := by
  subst he
  cases hlane : (s.range 0).lane with
  | none =>
    have hstays : s.discards count 0 = false := by simp [State.discards, hlane]
    rw [hstays]
    exact ⟨hlane, fun _ => rfl⟩
  | some n =>
    have hgone : s.discards count 0 = true := by simp [State.discards, hlane, hlost n hlane]
    rw [hgone]
    exact ⟨RangeEntry.unlaned_lane _, fun m => by simp⟩

/-- A count that discards lanes, in OPEN, with range 0's entry given behind it: range 0 is SHOWN, so the concealed set
is the one before (R2). -/
theorem State.shrunk_given {s : State} {count : Nat} {lanes : List LaneRec} {v : Vector RangeEntry 16} {q d : PortState}
    {l : List LaneRec} {g : RangeEntry}
    (hadopt : s.adoptCount count = { s with lane := { s.lane with lanes := l }, ranges := v, drive := d })
    (hv : ∀ q : RangeId, v[q.val] = if s.discards count q then (s.range q).unlaned else s.range q)
    (hshown : shownIfGlobal 0 (s.range 0).stored) (hg : g.stored = (s.range 0).stored) :
    s.Shrunk count (State.raiseIf (State.moved s (s.adoptCount count)) (s.turned lanes (v.set 0 g) q)) lanes q
      (some g) := by
  have hother (r : RangeId) (hr : r ≠ 0) : (v.set 0 g)[r.val] = v[r.val] :=
    Vector.getElem_set_ne (by decide) r.isLt (Ne.symm (val_ne_zero_iff.2 hr))
  have hstored : v[0].stored = (s.range 0).stored := by
    have hzero : v[0].stored = (if s.discards count 0 then (s.range 0).unlaned else s.range 0).stored :=
      congrArg RangeEntry.stored (hv 0)
    rw [hzero]
    split
    · exact RangeEntry.unlaned_stored _
    · rfl
  have hset : (s.turned lanes (v.set 0 g) q).concealedSet = (s.adoptCount count).concealedSet := by
    rw [hadopt]
    refine State.concealedSet_of_shown rfl hother ?_ ?_
    · exact (congrArg RangeEntry.stored (Vector.getElem_set_self ..)).trans (hg.trans hstored.symm)
    · exact hstored ▸ hshown
  rw [State.moved_congr s hset.symm]
  refine State.shrunk_raiseIf (fun x hx => ?_) fun r hr => ?_
  · cases hx
    exact Vector.getElem_set_self ..
  · have hne : r ≠ 0 := fun h => absurd (hr h) nofun
    rw [hother r hne, hv r]

/-- Settles O36: with the link UP or DOWN, in OPEN or not, and a count that discards lanes or does not. -/
theorem turnSlotEnds : Obligations.TurnSlotEnds := by
  intro s count hp hhold e fresh adopted shrinks cleared taken relocked shrunk up given bound shown
  have hrelocked : s.discardRelocks count = relocked := State.relocks_rangesOn ..
  have hflight : relocked.inFlight = s.drive.inFlight := hrelocked ▸ s.inFlight_relocks _ _
  have hrelocks : s.drive.Adds s.custody.state relocked := hrelocked ▸ s.adds_relocks _ (.of_same rfl)
  have hup {q : PortState} (h : s.drive.Adds s.custody.state q) : s.drive.Adds s.custody.state (q.push up) := h.push rfl
  refine ⟨fun hlink hpos => ⟨?upGrows, ?upShrinks, ?upRestores⟩, fun hlink hclosed => ⟨?downGrows, ?downShrinks⟩,
    fun hlink hopen => ⟨?openGrows, ?openShrinks⟩⟩
  case upGrows =>
    intro hgrows hkeeps
    have hadopt := State.adoptCount_of_grows hgrows
    refine (exec_turnSlotEnd_up hp hhold hlink hpos (lanes := adopted) (v := s.ranges) (q := s.drive) ?_ rfl
      (.of_same rfl)).trans ?_
    · rw [hadopt]
      exact State.restoreIfUnbound_of_bound hkeeps
    · rw [hadopt, State.moved_setLanes]
      rfl
  case upShrinks =>
    intro hshrinks hkeeps
    obtain ⟨v, hadopt, hv⟩ := State.adoptCount_of_shrinks hshrinks
    rw [hrelocked] at hadopt
    refine ⟨_, exec_turnSlotEnd_up hp hhold hlink hpos (lanes := adopted) (v := v) (q := relocked) ?_ hflight hrelocks, ?_⟩
    · rw [hadopt]
      refine State.restoreIfUnbound_of_bound (hkeeps.imp id fun ⟨n, hn, hlane⟩ => ?_)
      have hstays : s.discards count 0 = false := by simpa [State.discards, hlane] using hn
      have hzero := hv 0
      rw [hstays] at hzero
      exact (congrArg (fun e : RangeEntry => e.lane.isSome) hzero).trans (by simp [hlane])
    · rw [hadopt]
      exact State.shrunk_raiseIf nofun fun r _ => hv r
  case upRestores =>
    intro n m l hshrinks hshown hopen hn hcount hm hl hfree hfirst
    obtain ⟨v, hadopt, hv⟩ := State.adoptCount_of_shrinks hshrinks
    rw [hrelocked] at hadopt
    obtain ⟨hnone, hgiven⟩ := State.restored_of_discarded (hv 0) fun k hk => by
      rw [hn] at hk
      exact Option.some.inj hk ▸ hcount
    have hlanes (k : Nat) (hk : k < count) : (s.adopted count)[k]? = s.laneAt k :=
      State.laneAt_adopted_of_shrinks hshrinks hk
    refine ⟨_, exec_turnSlotEnd_up hp hhold hlink hpos (lanes := adopted.set m (taken l)) (v := v.set 0 (given m))
      (q := relocked) ?_ hflight hrelocks, ?_⟩
    · rw [hadopt]
      generalize hx : ({ s with lane := ({ s.lane with lanes := s.adopted count, silence := 0 } : LaneCtl), ranges := v, drive := relocked } : State) = x
      have hxm : x.laneAt m = some l := by
        rw [← hx]
        exact (hlanes m hm).trans hl
      have hlow : x.lowestFree = some m := State.lowestFree_eq hxm hfree fun k hk l' hl' =>
        hfirst k hk l' (by
          rw [← hx] at hl'
          exact (hlanes k (hk.trans hm)).symm.trans hl')
      have hentry : { x.range 0 with read := true, write := true, holder := none, lane := some m } = given m := by
        rw [← hx]
        exact hgiven m
      have hunbound : (x.range 0).lane = none := by
        rw [← hx]
        exact hnone
      rw [State.restoreIfUnbound_of_unbound (by rw [← hx]; exact hopen) hunbound,
        State.restoreGlobal_of_free hunbound hlow, State.updLane_of_laneAt hxm, hentry, ← hx]
      rfl
    · exact State.shrunk_given hadopt hv hshown rfl
  case downGrows =>
    intro hgrows
    have hadopt := State.adoptCount_of_grows hgrows
    refine (exec_turnSlotEnd_down hp hlink (lanes := cleared) (v := s.ranges) (q := s.drive.push up) ?_
      (hup (.of_same rfl))).trans ?_
    · rw [hadopt]
      exact State.linkUp_of_closed (s := s.setLanes _) hclosed
    · rw [hadopt, State.moved_setLanes]
      rfl
  case downShrinks =>
    intro hshrinks
    obtain ⟨v, hadopt, hv⟩ := State.adoptCount_of_shrinks hshrinks
    rw [hrelocked] at hadopt
    refine ⟨_, exec_turnSlotEnd_down hp hlink (lanes := cleared) (v := v) (q := relocked.push up) ?_ (hup hrelocks), ?_⟩
    · rw [hadopt]
      exact State.linkUp_of_closed hclosed
    · rw [hadopt]
      exact State.shrunk_raiseIf nofun fun r _ => hv r
  case openGrows =>
    intro hgrows
    have hadopt := State.adoptCount_of_grows hgrows
    have hends {lanes : List LaneRec} {v : Vector RangeEntry 16}
        (hx : (s.setLanes adopted).linkUp = s.turned lanes v (s.drive.push up)) :
        exec (.turnSlotEnd count) s = .next (s.turned lanes v (s.drive.push up)) := by
      refine (exec_turnSlotEnd_down hp hlink (by rw [hadopt]; exact hx) (hup (.of_same rfl))).trans ?_
      rw [hadopt, State.moved_setLanes]
      rfl
    refine ⟨fun l hnone hl hfree => ?_, fun n l hn hl => ⟨fun hloading => ?_, fun hclearing => ?_⟩⟩
    · exact hends (State.linkUp_of_free (s := s.setLanes adopted) hopen hnone
        (State.laneAt_adopted_of_grows hgrows hl) hfree)
    · have hentry : { s.range 0 with read := true, write := true, holder := none } = given n :=
        congrArg (fun x => { s.range 0 with read := true, write := true, holder := none, lane := x }) hn
      refine hends ((State.linkUp_of_loading (s := s.setLanes adopted) hopen hn
        (State.laneAt_adopted_of_grows hgrows hl) hloading).trans ?_)
      exact congrArg (fun e => s.turned cleared (s.ranges.set 0 e) (s.drive.push up)) hentry
    · exact hends (State.linkUp_of_clearing (s := s.setLanes adopted) hn
        (State.laneAt_adopted_of_grows hgrows hl) hclearing)
  case openShrinks =>
    intro hshrinks hshown
    obtain ⟨v, hadopt, hv⟩ := State.adoptCount_of_shrinks hshrinks
    rw [hrelocked] at hadopt
    have hcount : 0 < count := Nat.lt_of_lt_of_le (by decide) hshrinks.1
    generalize hx : ({ s with lane := { s.lane with lanes := s.adopted count }, ranges := v, drive := relocked } : State) =
      x at hadopt
    have hends {lanes : List LaneRec} {v' : Vector RangeEntry 16}
        (hlinked : x.linkUp = s.turned lanes v' (relocked.push up)) :
        exec (.turnSlotEnd count) s =
          .next (State.raiseIf (State.moved s (s.adoptCount count)) (s.turned lanes v' (relocked.push up))) :=
      exec_turnSlotEnd_down hp hlink (by rw [hadopt]; exact hlinked) (hup hrelocks)
    have hlanes (k : Nat) (hk : k < count) : x.laneAt k = s.laneAt k := by
      rw [← hx]
      exact State.laneAt_adopted_of_shrinks hshrinks hk
    have hxopen : x.custody.state = .opened := by rw [← hx]; exact hopen
    refine ⟨fun l hlost hl hfree => ?_, fun n l hn hlt hl hstate => ?_⟩
    · obtain ⟨hnone, hgiven⟩ := State.restored_of_discarded (hv 0) hlost
      have hxnone : (x.range 0).lane = none := by rw [← hx]; exact hnone
      refine ⟨_, hends ((State.linkUp_of_free hxopen hxnone ((hlanes 0 hcount).trans hl) hfree).trans ?_),
        State.shrunk_given (hadopt.trans hx.symm) hv hshown (g := given 0) rfl⟩
      rw [← hx]
      exact congrArg (fun e => s.turned (cleared.set 0 (taken l)) (v.set 0 e) (relocked.push up)) (hgiven 0)
    · have hstays : s.discards count 0 = false := by simpa [State.discards, hn] using hlt
      have hzero : v[0] = s.range 0 := (hv 0).trans (if_neg (Bool.eq_false_iff.1 hstays))
      have hxrange : x.range 0 = s.range 0 := by rw [← hx]; exact hzero
      have hxn : (x.range 0).lane = some n := by rw [hxrange]; exact hn
      rcases hstate with hloading | hclearing
      · have hentry : { x.range 0 with read := true, write := true, holder := none } = given n := by
          rw [hxrange]
          exact congrArg (fun x => { s.range 0 with read := true, write := true, holder := none, lane := x }) hn
        rw [if_pos hloading]
        refine ⟨_, hends ((State.linkUp_of_loading hxopen hxn ((hlanes n hlt).trans hl) hloading).trans ?_),
          State.shrunk_given (hadopt.trans hx.symm) hv hshown (g := given n) rfl⟩
        rw [hentry, ← hx]
        rfl
      · rw [if_neg (by simp [hclearing])]
        refine ⟨_, hends ((State.linkUp_of_clearing hxn ((hlanes n hlt).trans hl) hclearing).trans ?_),
          State.shrunk_given (hadopt.trans hx.symm) hv hshown (g := s.range 0) rfl⟩
        have hset : v.set 0 (s.range 0) = v := by
          rw [← hzero]
          exact Vector.set_getElem_self ..
        rw [hset, ← hx]
        rfl

end Sys2Proof.Machine

/-!
PROOFS. LANE_HOLD and LANE_RELEASE.  Whatever ends a slot does its own work without a look at the Drive Port's reply
slot and request in flight; the hold settles behind it.
-/

namespace Sys2Proof.Machine

open Sys2Proof

/-! ## Work that does not look at the request in flight -/

/-- The device with another reply in the Drive Port's slot and another request in flight on it. -/
def State.withSlot (s : State) (f : Option InFlight) (r : Option Reply) : State :=
  { s with drive := { s.drive with inFlight := f, replySlot := r } }

/-- Work that leaves the slot and the request in flight alone and does not look at them. -/
def Blind (g : State → State) : Prop := ∀ s f r, g (s.withSlot f r) = (g s).withSlot f r

theorem Blind.comp {g h : State → State} (hg : Blind g) (hh : Blind h) : Blind fun s => h (g s) := fun s f r =>
  (congrArg h (hg s f r)).trans (hh (g s) f r)

theorem Blind.foldl {α : Type} {g : α → State → State} (hg : ∀ a, Blind (g a)) (l : List α) :
    Blind fun s => l.foldl (fun x a => g a x) s := by
  induction l with
  | nil => exact fun _ _ _ => rfl
  | cons a l ih => exact (hg a).comp ih

theorem PortState.push_withSlot (q : PortState) (n : Notice) (f : Option InFlight) (r : Option Reply) :
    { q with inFlight := f, replySlot := r }.push n = { q.push n with inFlight := f, replySlot := r } := by
  unfold PortState.push
  split <;> rfl

theorem State.notify_blind (k : NoticeKind) (r : Option RangeId) (l : Option Nat) :
    Blind fun s => s.notify .drive k r l := fun s f p =>
  congrArg (fun d => { s with drive := d }) (s.drive.push_withSlot _ f p)

theorem State.raiseIf_blind (c : Bool) : Blind (State.raiseIf c) := fun s f p => by
  cases c
  · rfl
  · exact congrArg (fun d => { s with epoch := s.epoch + 1, drive := d }) (s.drive.push_withSlot _ f p)

theorem State.unbind_blind (n : Nat) : Blind fun s => s.unbind n := fun s f p => by
  have hlane : (s.withSlot f p).laneAt n = s.laneAt n := rfl
  beta_reduce
  unfold State.unbind
  rw [hlane]
  split <;> rfl

theorem State.unbindRange_blind (r : RangeId) : Blind fun s => s.unbindRange r := fun s f p => by
  have hrange : (s.withSlot f p).range r = s.range r := rfl
  beta_reduce
  unfold State.unbindRange
  rw [hrange]
  split <;> rfl

/-- Binding does not look at the slot either. -/
theorem State.bind_withSlot (s : State) (r : RangeId) (f : Option InFlight) (p : Option Reply) :
    (s.withSlot f p).bind r = ((s.bind r).1.withSlot f p, (s.bind r).2) := by
  have hrange : (s.withSlot f p).range r = s.range r := rfl
  have hlane (n : Nat) : (s.withSlot f p).laneAt n = s.laneAt n := rfl
  have hfree : (s.withSlot f p).lowestFree = s.lowestFree := rfl
  unfold State.bind
  rw [hrange, hfree]
  split
  · split <;> rfl
  · rw [hlane]
    split <;> rfl

theorem State.restoreGlobal_blind : Blind State.restoreGlobal := fun s f p => by
  unfold State.restoreGlobal
  dsimp only
  rw [State.bind_withSlot]
  split <;> rfl

theorem State.restoreIfUnbound_blind : Blind State.restoreIfUnbound := fun s f p => by
  have hcond : ((s.withSlot f p).custody.state = .opened && ((s.withSlot f p).range 0).lane.isNone) =
      (s.custody.state = .opened && (s.range 0).lane.isNone) := rfl
  unfold State.restoreIfUnbound
  rw [hcond]
  split
  · exact State.restoreGlobal_blind s f p
  · rfl

theorem State.loseLane_blind (r : RangeId) : Blind fun s => s.loseLane r := fun s f p => by
  have hunbind : (s.withSlot f p).unbindRange r = (s.unbindRange r).withSlot f p := State.unbindRange_blind r s f p
  have hright : (((s.unbindRange r).withSlot f p).range r).hasRight = ((s.unbindRange r).range r).hasRight := rfl
  beta_reduce
  unfold State.loseLane
  dsimp only
  rw [hunbind, hright]
  split
  · exact State.notify_blind .rangeRelocked (some r) none ((s.unbindRange r).setRange r ((s.unbindRange r).range r).locked) f p
  · rfl

theorem State.loseLanes_blind (rs : List RangeId) : Blind fun s => rs.foldl State.loseLane s :=
  Blind.foldl (g := fun r s => s.loseLane r) State.loseLane_blind rs

theorem State.adoptCount_blind (count : Nat) : Blind fun s => s.adoptCount count := fun s f p => by
  have hlanes : (s.withSlot f p).lane = s.lane := rfl
  have hon (g : Nat → Bool) : (s.withSlot f p).rangesOn g = s.rangesOn g := rfl
  have hlost := State.loseLanes_blind (s.rangesOn fun n => decide (count ≤ n)) s f p
  beta_reduce at hlost ⊢
  unfold State.adoptCount
  dsimp only
  rw [hlanes, hon, hlost]
  split
  · rfl
  · split <;> rfl

theorem State.faultLane_blind (n : Nat) (l : LaneRec) : Blind fun s => s.faultLane n l := fun s f p => by
  have hlane (k : Option RangeId) : Blind fun s => s.notify .drive .laneFault k (some n) := State.notify_blind _ _ _
  beta_reduce
  cases hr : l.range with
  | none =>
    simp only [State.faultLane, hr]
    exact hlane none (s.updLane n fun x => { x with state := .fault, plan := .clear }) f p
  | some r =>
    rw [State.faultLane_of_bound hr, State.faultLane_of_bound hr]
    exact (Blind.comp (Blind.comp (State.notify_blind .rangeRelocked (some r) none) (hlane none))
      (State.raiseIf_blind (State.moved s (s.setRange r (s.range r).locked))))
      ((s.updLane n fun x => { x with state := .fault, plan := .clear }).setRange r (s.range r).locked) f p

theorem State.linkDown_blind : Blind State.linkDown := fun s f p => by
  have hlost := State.loseLanes_blind (s.rangesOn fun _ => true) s f p
  have hon : (s.withSlot f p).rangesOn (fun _ => true) = s.rangesOn fun _ => true := rfl
  have hzero : ((s.withSlot f p).range 0).lane.isNone = (s.range 0).lane.isNone := rfl
  beta_reduce at hlost
  unfold State.linkDown
  dsimp only
  rw [hon, hlost, hzero]
  generalize (s.rangesOn fun _ => true).foldl State.loseLane s = s1
  have hraise (c : Bool) : Blind fun x => State.raiseIf c (x.notify .drive .laneLinkDown) :=
    Blind.comp (State.notify_blind .laneLinkDown none none) (State.raiseIf_blind c)
  split
  · exact ((hraise _).comp State.restoreIfUnbound_blind)
      { s1 with lane := { s1.lane with lanes := s1.lane.lanes.map LaneRec.lost, link := .down, silence := 0 } } f p
  · exact hraise _
      { s1 with lane := { s1.lane with lanes := s1.lane.lanes.map LaneRec.lost, link := .down, silence := 0 } } f p

theorem State.turnSilent_blind : Blind State.turnSilent := fun s f p => by
  have hsilent : (s.withSlot f p).lanesSilent = s.lanesSilent := rfl
  have hlane : (s.withSlot f p).lane = s.lane := rfl
  unfold State.turnSilent
  dsimp only
  rw [hsilent, hlane]
  generalize (if s.lanesSilent then s.lane.silence + 1 else 0) = k
  split
  · exact State.linkDown_blind { s with lane := { s.lane with silence := k } } f p
  · rfl

theorem State.loadAnswered_blind (n : Nat) (l : LaneRec) (a : LoadAnswer) : Blind fun s => s.loadAnswered n l a := by
  intro s f p
  beta_reduce
  unfold State.loadAnswered
  dsimp only
  split
  · rfl
  · split
    · rfl
    · split
      · exact State.faultLane_blind n _ (s.updLane n fun _ => _) f p
      · rfl

theorem State.clearAnswered_blind (n : Nat) (l : LaneRec) (a : HeldAnswer) : Blind fun s => s.clearAnswered n l a := by
  intro s f p
  beta_reduce
  unfold State.clearAnswered
  split
  · rfl
  · split
    · rfl
    · exact ((State.unbind_blind n).comp (Blind.comp (g := fun s => s.updLane n LaneRec.emptied) (fun _ _ _ => rfl)
        State.restoreIfUnbound_blind)) s f p

theorem State.probeAnswered_blind (n : Nat) (l : LaneRec) (b : Option Code) (a : HeldAnswer) :
    Blind fun s => s.probeAnswered n l b a := by
  intro s f p
  beta_reduce
  unfold State.probeAnswered
  split
  · dsimp only
    split
    · exact State.faultLane_blind n _ (s.updLane n fun _ => _) f p
    · rfl
  · split <;> rfl
  · rfl

/-! ## The end of a slot -/

/-- An event that ends a slot, or finds none to end: its own work does not look at the Drive Port's slot. -/
def EndsSlot (e : State → State) (s : State) : Prop :=
  (∀ f r, e (s.withSlot f r) = s.withSlot f r) ∨
    ∃ x : State, ∀ f r, e (s.withSlot f r) = (x.withSlot f r).finishSlot

theorem EndsSlot.of_none {e : State → State} {s : State} (h : ∀ f r, e (s.withSlot f r) = s.withSlot f r) :
    EndsSlot e s := .inl h

theorem EndsSlot.of_blind {e g : State → State} (hg : Blind g) {s : State}
    (h : ∀ f r, e (s.withSlot f r) = (g (s.withSlot f r)).finishSlot) : EndsSlot e s :=
  .inr ⟨g s, fun f r => by rw [h, hg]⟩

theorem State.slotInProgress_withSlot (s : State) (f : Option InFlight) (r : Option Reply) :
    (s.withSlot f r).slotInProgress = s.slotInProgress := rfl

theorem State.loadSlotEnd_endsSlot (a : LoadAnswer) (s : State) : EndsSlot (fun s => s.loadSlotEnd a) s := by
  cases h : s.slotInProgress with
  | none => exact .of_none fun f r => by simp [State.loadSlotEnd, State.slotInProgress_withSlot, h]
  | some y =>
    obtain ⟨n, l, sent⟩ := y
    cases sent with
    | load k =>
      exact .of_blind (State.loadAnswered_blind n l a) fun f r => by
        simp [State.loadSlotEnd, State.slotInProgress_withSlot, h]
    | clear => exact .of_none fun f r => by simp [State.loadSlotEnd, State.slotInProgress_withSlot, h]
    | probe b => exact .of_none fun f r => by simp [State.loadSlotEnd, State.slotInProgress_withSlot, h]

theorem State.clearSlotEnd_endsSlot (a : HeldAnswer) (s : State) : EndsSlot (fun s => s.clearSlotEnd a) s := by
  cases h : s.slotInProgress with
  | none => exact .of_none fun f r => by simp [State.clearSlotEnd, State.slotInProgress_withSlot, h]
  | some y =>
    obtain ⟨n, l, sent⟩ := y
    cases sent with
    | load k => exact .of_none fun f r => by simp [State.clearSlotEnd, State.slotInProgress_withSlot, h]
    | clear =>
      exact .of_blind (State.clearAnswered_blind n l a) fun f r => by
        simp [State.clearSlotEnd, State.slotInProgress_withSlot, h]
    | probe b => exact .of_none fun f r => by simp [State.clearSlotEnd, State.slotInProgress_withSlot, h]

theorem State.probeSlotEnd_endsSlot (a : HeldAnswer) (s : State) : EndsSlot (fun s => s.probeSlotEnd a) s := by
  cases h : s.slotInProgress with
  | none => exact .of_none fun f r => by simp [State.probeSlotEnd, State.slotInProgress_withSlot, h]
  | some y =>
    obtain ⟨n, l, sent⟩ := y
    cases sent with
    | load k => exact .of_none fun f r => by simp [State.probeSlotEnd, State.slotInProgress_withSlot, h]
    | clear => exact .of_none fun f r => by simp [State.probeSlotEnd, State.slotInProgress_withSlot, h]
    | probe b =>
      exact .of_blind (State.probeAnswered_blind n l b a) fun f r => by
        simp [State.probeSlotEnd, State.slotInProgress_withSlot, h]

/-- The work of an answered turn slot on the UP link, its end apart (R61, R66). -/
def State.turnAnswered (s : State) (count : Nat) : State :=
  State.raiseIf (State.moved s (s.adoptCount count))
    ({ s.adoptCount count with lane := { (s.adoptCount count).lane with silence := 0 } } : State).restoreIfUnbound

theorem State.turnAnswered_blind (count : Nat) : Blind fun s => s.turnAnswered count := by
  intro s f p
  have hadopt := State.adoptCount_blind count s f p
  have hrestore : Blind fun x : State => ({ x with lane := { x.lane with silence := 0 } } : State).restoreIfUnbound :=
    Blind.comp (g := fun x => { x with lane := { x.lane with silence := 0 } }) (fun _ _ _ => rfl) State.restoreIfUnbound_blind
  beta_reduce at hadopt ⊢
  unfold State.turnAnswered
  rw [hadopt]
  exact (hrestore.comp (State.raiseIf_blind _)) (s.adoptCount count) f p

theorem State.turnSlotEnd_endsSlot (count : Nat) {s : State} (hlink : s.lane.link = .up) :
    EndsSlot (fun s => s.turnSlotEnd count) s := by
  have hlane (f : Option InFlight) (r : Option Reply) : (s.withSlot f r).lane = s.lane := rfl
  cases hpos : s.lane.position with
  | lane n => exact .of_none fun f r => by simp [State.turnSlotEnd, hlane, hlink, hpos]
  | turn =>
    refine .of_blind (State.turnAnswered_blind count) fun f r => ?_
    simp only [State.turnSlotEnd, hlane, hlink, hpos]
    rfl

theorem State.slotSilent_endsSlot {s : State} (hlink : s.lane.link = .up) : EndsSlot State.slotSilent s := by
  have hlane (f : Option InFlight) (r : Option Reply) : (s.withSlot f r).lane = s.lane := rfl
  cases hpos : s.lane.position with
  | turn => exact .of_blind State.turnSilent_blind fun f r => by simp [State.slotSilent, hlane, hlink, hpos]
  | lane n =>
    cases h : s.slotInProgress with
    | none => exact .of_none fun f r => by simp [State.slotSilent, State.slotInProgress_withSlot, hlane, hlink, hpos, h]
    | some y =>
      obtain ⟨m, l, sent⟩ := y
      exact .of_blind (g := fun x => x.updLane m fun x => { x with last := some .silent }) (fun _ _ _ => rfl)
        fun f r => by simp [State.slotSilent, State.slotInProgress_withSlot, hlane, hlink, hpos, h]

/-- The next slot due, the hold apart. -/
def State.nextSlot (s : State) : State := { s with lane := { s.lane with position := s.nextPosition, sent := none } }

theorem State.finishSlot_withSlot_none (s : State) : (s.withSlot none none).finishSlot = s.nextSlot.withSlot none none :=
  rfl

/-- The hold takes effect, or is answered STATE (R65, R67). -/
theorem State.finishSlot_withSlot_holding (s : State) (tag : Byte) (withdrawn : Bool) :
    (s.withSlot (some ⟨.laneHold, tag, .holding withdrawn⟩) none).finishSlot =
      if withdrawn ∨ s.lane.link = .down then s.nextSlot.withSlot none (some ⟨replyKind .laneHold, tag, .code .state⟩)
      else ({ s.nextSlot with lane := { s.nextSlot.lane with link := .held } } : State).withSlot none
        (some ⟨replyKind .laneHold, tag, .code .ok⟩) := by
  have hlink : (s.nextSlot.withSlot (some ⟨.laneHold, tag, .holding withdrawn⟩) none).lane.link = s.lane.link := rfl
  change State.settleHold (s.nextSlot.withSlot (some ⟨.laneHold, tag, .holding withdrawn⟩) none) = _
  simp only [State.settleHold, show (s.nextSlot.withSlot (some ⟨.laneHold, tag, .holding withdrawn⟩) none).drive.inFlight =
    some ⟨.laneHold, tag, .holding withdrawn⟩ from rfl, hlink, Bool.or_eq_true, decide_eq_true_iff]
  split <;> rfl

/-- A LANE_HOLD in flight settles behind whatever ends the slot, as one event (R67). -/
theorem settledHold {e : State → State} {s u : State} {tag : Byte} {withdrawn : Bool} (he : EndsSlot e s)
    (hs : s.Hears .drive) (hflight : s.drive.inFlight = some ⟨.laneHold, tag, .holding withdrawn⟩)
    (hu : deviceEvent e { s with drive := { s.drive with inFlight := none } } = u)
    (hmoves : u.lane.position ≠ s.lane.position) :
    deviceEvent e s =
      if withdrawn ∨ u.lane.link = .down then { u with drive := u.drive.finished .laneHold tag (.code .state) }
      else { u with
        lane := { u.lane with link := .held }
        drive := u.drive.finished .laneHold tag (.code .ok) } := by
  obtain ⟨hp, hslot, -⟩ := hs
  have hself : s.withSlot (some ⟨.laneHold, tag, .holding withdrawn⟩) none = s := by
    rw [← hflight, ← (show s.drive.replySlot = none from hslot)]
    rfl
  have hnone : ({ s with drive := { s.drive with inFlight := none } } : State) = s.withSlot none none := by
    rw [← (show s.drive.replySlot = none from hslot)]
    rfl
  rw [deviceEvent_of_powered (by exact hp), hnone] at hu
  rw [deviceEvent_of_powered hp]
  rcases he with hstays | ⟨x, hends⟩
  · rw [hstays] at hu
    exact absurd (by rw [← hu]; rfl) hmoves
  · have hworks := hends (some ⟨.laneHold, tag, .holding withdrawn⟩) none
    rw [hself] at hworks
    rw [hends, State.finishSlot_withSlot_none] at hu
    rw [hworks, State.finishSlot_withSlot_holding, ← hu]
    have hlink : (State.sealEvent (s.withSlot none none) (x.nextSlot.withSlot none none)).lane.link = x.lane.link := rfl
    rw [hlink]
    split <;> rfl

/-- A CLEAR slot without an answer, a LANE_HOLD in flight: the lane's outcome, the next slot due, and the hold. -/
theorem exec_silentSlot_holding {s : State} {n : Nat} {l : LaneRec} {tag : Byte} (hs : s.Hears .drive)
    (hlink : s.lane.link = .up) (hpos : s.lane.position = .lane n) (hl : s.laneAt n = some l)
    (hsent : s.lane.sent = some .clear) (hflight : s.drive.inFlight = some ⟨.laneHold, tag, .holding false⟩) :
    exec .slotAnswerWindowExpiry s = .next { s with
      lane := { s.lane.after (s.lane.lanes.set n { l with last := some .silent }) n with link := .held }
      drive := s.drive.finished .laneHold tag (.code .ok) } := by
  have hslot : State.InSlot { s with drive := { s.drive with inFlight := none } } n l .clear :=
    ⟨hs.1, hlink, hpos, hl, hsent, fun f b hf => by cases hf⟩
  obtain ⟨u, hu⟩ : ∃ u : State, u = { s with
      lane := s.lane.after (s.lane.lanes.set n { l with last := some .silent }) n
      drive := { s.drive with inFlight := none } } := ⟨_, rfl⟩
  have hend : deviceEvent State.slotSilent { s with drive := { s.drive with inFlight := none } } = u := by
    rw [hu]
    exact hslot.event (fun l => { l with last := some .silent }) (by
      simp [State.slotSilent, hlink, hpos, hslot.slotInProgress])
  have hmoves : u.lane.position ≠ s.lane.position := by
    rw [hpos, hu]
    simp only [LaneCtl.after]
    split <;> simp
  have hlinked : ¬(false = true ∨ u.lane.link = .down) := by
    simp [hu, LaneCtl.after, hlink]
  have hsettles := settledHold (State.slotSilent_endsSlot hlink) hs hflight hend hmoves
  rw [if_neg hlinked, hu] at hsettles
  exact congrArg Host.Outcome.next hsettles

/-! ## LANE_HOLD and LANE_RELEASE (R67, R68) -/

/-- Settles O38: the two owners' cases, an unanswered CLEAR slot, and whatever else ends the slot. -/
theorem holdAndRelease : Obligations.HoldAndRelease := by
  intro s tag
  refine ⟨?requests, ?clear, ?ends⟩
  case requests =>
    rintro ⟨hs, hflight⟩ hidden answer
    have hhold := frameRefusal_of_ready (k := .laneHold) (pl := []) hflight rfl rfl
    have hrelease := frameRefusal_of_ready (k := .laneRelease) (pl := []) hflight rfl rfl
    have hstrength : 1 ≤ s.custody.state.strength ↔ hidden := by
      cases hc : s.custody.state <;> simp [hidden, hc, Custody.strength]
    refine ⟨fun hrefused => ?_, fun hin hheld => ?_, fun hin hup => ?_, fun hheld => ?_, fun hfree => ?_⟩
    · refine congrArg Host.Outcome.next (takeRequest_of_reply hs hhold ?_)
      unfold laneHoldOwner
      by_cases hh : hidden
      · exact if_pos (hstrength.2 hh)
      · rw [State.endTransaction_custody, if_neg (mt hstrength.1 hh), State.endTransaction_lane,
          hrefused.resolve_left hh]
    · refine congrArg Host.Outcome.next (takeRequest_of_reply hs hhold ?_)
      unfold laneHoldOwner
      rw [State.endTransaction_custody, if_neg (mt hstrength.1 hin), State.endTransaction_lane, hheld]
    · have howner : laneHoldOwner tag (s.endTransaction .drive) =
          s.setPort .drive (s.drive.flying .laneHold tag (.holding false)) := by
        unfold laneHoldOwner
        rw [State.endTransaction_custody, if_neg (mt hstrength.1 hin), State.endTransaction_lane, hup]
        rfl
      refine congrArg Host.Outcome.next (takeRequest_of_quiet hs hhold tag howner fun p => ?_)
      cases p <;> exact Nat.le_refl _
    · have howner : laneReleaseOwner tag (s.endTransaction .drive) =
          ({ s with lane := { s.lane with link := .up } } : State).setPort .drive
            (s.drive.answered .laneRelease tag (.code .ok)) := by
        unfold laneReleaseOwner
        rw [if_pos (by simpa using hheld)]
        rfl
      refine congrArg Host.Outcome.next (takeRequest_of_quiet hs hrelease tag howner fun p => ?_)
      cases p <;> exact Nat.le_refl _
    · refine congrArg Host.Outcome.next (takeRequest_of_reply hs hrelease ?_)
      simp [laneReleaseOwner, hfree]
  case clear =>
    intro n l hs hlink hpos hl hsent hflight lane
    exact exec_silentSlot_holding hs hlink hpos hl hsent hflight
  case ends =>
    intro c withdrawn u hs hlink hflight hc hu hmoves
    have hall {e : State → State} (he : EndsSlot e s) (hexec : ∀ x, exec c x = .next (deviceEvent e x)) :=
      (hexec s).trans (congrArg Host.Outcome.next
        (settledHold he hs hflight (Host.Outcome.next.inj ((hexec _).symm.trans hu)) hmoves))
    have hsettles : exec c s = .next (if withdrawn = true ∨ u.lane.link = .down then
        { u with drive := u.drive.finished .laneHold tag (.code .state) }
        else { u with
          lane := { u.lane with link := .held }
          drive := u.drive.finished .laneHold tag (.code .ok) }) := by
      rcases hc with rfl | ⟨x, rfl⟩ | ⟨x, rfl⟩ | ⟨x, rfl⟩ | ⟨x, rfl⟩
      · exact hall (State.slotSilent_endsSlot hlink) fun _ => rfl
      · exact hall (State.loadSlotEnd_endsSlot x s) fun _ => rfl
      · exact hall (State.clearSlotEnd_endsSlot x s) fun _ => rfl
      · exact hall (State.probeSlotEnd_endsSlot x s) fun _ => rfl
      · exact hall (State.turnSlotEnd_endsSlot x hlink) fun _ => rfl
    refine ⟨fun hstate => hsettles.trans (by rw [if_pos hstate]), fun hin hup => hsettles.trans (by rw [if_neg (by simp [hin, hup])])⟩

end Sys2Proof.Machine

/-!
PROOFS. The Extent Resolver: the pieces of a presented span, the merging of neighbours, and RESOLVE.
-/

namespace Sys2Proof.Machine

open Sys2Proof

/-! ## What a merge keeps (R38) -/

/-- A fragment joined with one behind it. -/
def Fragment.joined (f g : Fragment) : Fragment := { f with count := f.count + g.count }

theorem mergeFragments_cons (f : Fragment) (fs : List Fragment) :
    mergeFragments (f :: fs) =
      match mergeFragments fs with
      | [] => [f]
      | g :: gs => if joins f g then f.joined g :: gs else f :: g :: gs := by
  rw [mergeFragments]
  rfl

/-- The head of a merge is the head of the list with a count of its own. -/
theorem head_mergeFragments (f : Fragment) (fs : List Fragment) :
    ∃ n gs, mergeFragments (f :: fs) = { f with count := n } :: gs := by
  rw [mergeFragments_cons]
  split
  · exact ⟨f.count, [], rfl⟩
  · split
    · exact ⟨_, _, rfl⟩
    · exact ⟨f.count, _, rfl⟩

theorem mergeFragments_eq_nil {fs : List Fragment} : mergeFragments fs = [] ↔ fs = [] := by
  cases fs with
  | nil => simp [mergeFragments]
  | cons f fs =>
    obtain ⟨n, gs, h⟩ := head_mergeFragments f fs
    simp [h]

/-- A merge's sectors are the list's. -/
theorem coveredBy_mergeFragments (fs : List Fragment) : coveredBy (mergeFragments fs) = coveredBy fs := by
  induction fs with
  | nil => rfl
  | cons f fs ih =>
    rw [mergeFragments_cons]
    cases hm : mergeFragments fs with
    | nil =>
      rw [mergeFragments_eq_nil.1 hm]
    | cons g gs =>
      have ih' : coveredBy fs = g.count + coveredBy gs := by rw [← ih, hm]; rfl
      have hcons : coveredBy (f :: fs) = f.count + coveredBy fs := rfl
      rw [hcons, ih']
      dsimp only
      split
      · exact Nat.add_assoc ..
      · rfl

theorem joins_iff {a b : Fragment} :
    joins a b = true ↔ a.disposition = b.disposition ∧ a.disposition ≠ .beyond ∧
      (a.disposition = .pass → a.lane = b.lane ∧ b.media = a.media.map (· + a.count)) ∧
      (a.disposition ∈ [.wait, .refuseLocked, .refuseErased] → a.range = b.range) := by
  unfold joins
  cases a.disposition <;> cases b.disposition <;> simp

theorem disposition_of_joins {a b : Fragment} (h : joins a b = true) : a.disposition = b.disposition := (joins_iff.1 h).1

/-- What a joined fragment joins with is what its last part joins with. -/
theorem joins_joined {f g : Fragment} (hfg : joins f g = true) (h : Fragment) :
    joins (f.joined g) h = joins g h := by
  obtain ⟨hd, hbeyond, hpass, hrange⟩ := joins_iff.1 hfg
  have hmedia (hp : f.disposition = .pass) :
      f.media.map (· + (f.count + g.count)) = g.media.map (· + g.count) := by
    rw [(hpass hp).2, Option.map_map]
    simp only [Function.comp_def, Nat.add_assoc]
  have hlane (hp : f.disposition = .pass) := (hpass hp).1
  rw [Bool.eq_iff_iff, joins_iff, joins_iff]
  simp only [Fragment.joined, ← hd]
  refine and_congr_right fun _ => and_congr_right fun _ => and_congr ?_ ?_
  · refine imp_congr_right fun hp => ?_
    rw [hlane hp, hmedia hp]
  · refine imp_congr_right fun hn => ?_
    rw [hrange hn]

/-- No two neighbours of a merge join (R38). -/
theorem isChain_mergeFragments (fs : List Fragment) :
    (mergeFragments fs).IsChain fun a b => joins a b = false := by
  induction fs with
  | nil => exact .nil
  | cons f fs ih =>
    rw [mergeFragments_cons]
    cases hm : mergeFragments fs with
    | nil => exact .singleton f
    | cons g gs =>
      rw [hm] at ih
      dsimp only
      split
      · rename_i hjoin
        cases gs with
        | nil => exact .singleton _
        | cons k gs =>
          obtain ⟨hgk, hrest⟩ := List.isChain_cons_cons.1 ih
          exact .cons_cons ((joins_joined hjoin k).trans hgk) hrest
      · rename_i hno
        exact .cons_cons (Bool.eq_false_iff.2 hno) ih

/-- A property of fragments that a merge keeps: one that a greater count does not undo. -/
theorem forall_mergeFragments {P : Fragment → Prop} (hcount : ∀ f n, f.count ≤ n → P f → P { f with count := n })
    {fs : List Fragment} (h : ∀ f ∈ fs, P f) : ∀ f ∈ mergeFragments fs, P f := by
  induction fs with
  | nil => exact h
  | cons f fs ih =>
    obtain ⟨hf, hfs⟩ := List.forall_mem_cons.1 h
    have ih := ih hfs
    rw [mergeFragments_cons]
    cases hm : mergeFragments fs with
    | nil => simpa using hf
    | cons g gs =>
      rw [hm] at ih
      obtain ⟨-, hgs⟩ := List.forall_mem_cons.1 ih
      dsimp only
      split
      · exact List.forall_mem_cons.2 ⟨hcount f _ (Nat.le_add_right ..) hf, hgs⟩
      · exact List.forall_mem_cons.2 ⟨hf, ih⟩

/-! ## Sectors of fragments -/

/-- A fragment that carries on where another ends, in what its sectors show. -/
def Fragment.Continues (f g : Fragment) : Prop :=
  f.disposition = g.disposition ∧ (f.disposition ≠ .pass → f.range = g.range) ∧ f.lane = g.lane ∧
    g.media = f.media.map (· + f.count)

/-- The sector of a fragment at an index. -/
def Fragment.sectorAt (f : Fragment) (i : Nat) : Sector :=
  ⟨f.disposition, if f.disposition = .pass then none else f.range, f.lane, f.media.map (· + i)⟩

theorem Fragment.sectors_eq (f : Fragment) : f.sectors = (List.range f.count).map f.sectorAt := rfl

theorem Fragment.Continues.sectorAt {f g : Fragment} (h : f.Continues g) (i : Nat) :
    f.sectorAt (f.count + i) = g.sectorAt i := by
  obtain ⟨hd, hr, hl, hm⟩ := h
  have hrange : (if f.disposition = .pass then none else f.range) = if g.disposition = .pass then none else g.range := by
    by_cases hp : f.disposition = .pass
    · rw [if_pos hp, if_pos (hd ▸ hp)]
    · rw [if_neg hp, if_neg (hd ▸ hp), hr hp]
  rw [Fragment.sectorAt, Fragment.sectorAt, hrange, hd, hl, hm, Option.map_map]
  simp only [Function.comp_def, Nat.add_assoc]

theorem Fragment.sectors_joined {f g : Fragment} (h : f.Continues g) : (f.joined g).sectors = f.sectors ++ g.sectors := by
  have hrest : ((List.range g.count).map (f.count + ·)).map f.sectorAt = (List.range g.count).map g.sectorAt := by
    rw [List.map_map]
    exact List.map_congr_left fun i _ => h.sectorAt i
  calc (f.joined g).sectors = (List.range (f.count + g.count)).map f.sectorAt := rfl
    _ = f.sectors ++ g.sectors := by rw [List.range_add, List.map_append, hrest]; rfl

/-- Where neighbours that join carry on, a merge shows the list's sectors. -/
theorem sectors_mergeFragments {fs : List Fragment} (h : fs.IsChain fun f g => joins f g = true → f.Continues g) :
    (mergeFragments fs).flatMap Fragment.sectors = fs.flatMap Fragment.sectors := by
  induction fs with
  | nil => rfl
  | cons f fs ih =>
    rw [mergeFragments_cons]
    cases fs with
    | nil => rfl
    | cons e es =>
      obtain ⟨hfe, hrest⟩ := List.isChain_cons_cons.1 h
      obtain ⟨n, gs, hm⟩ := head_mergeFragments e es
      have ih := ih hrest
      rw [hm] at ih ⊢
      rw [List.flatMap_cons, ← ih]
      dsimp only
      split
      · rename_i hjoin
        have hcont : f.Continues { e with count := n } := hfe hjoin
        rw [List.flatMap_cons, List.flatMap_cons, Fragment.sectors_joined hcont, List.append_assoc]
      · rfl

end Sys2Proof.Machine

/-!
PROOFS. The presented drive sector by sector: pieces between range boundaries, capacity, attribution and disposition;
then RESOLVE.
-/

namespace Sys2Proof.Machine

open Sys2Proof

/-! ## Runs between boundaries (R34) -/

theorem runLength_cons (b : Nat) (bounds : List Nat) (m limit : Nat) :
    runLength (b :: bounds) m limit = runLength bounds m (if m < b then min limit (b - m) else limit) := rfl

theorem runLength_le (bounds : List Nat) (m limit : Nat) : runLength bounds m limit ≤ limit := by
  induction bounds generalizing limit with
  | nil => exact Nat.le_refl _
  | cons b bounds ih =>
    rw [runLength_cons]
    refine (ih _).trans ?_
    split
    · exact Nat.min_le_left ..
    · exact Nat.le_refl _

theorem runLength_pos (bounds : List Nat) {m limit : Nat} (h : 0 < limit) : 0 < runLength bounds m limit := by
  induction bounds generalizing limit with
  | nil => exact h
  | cons b bounds ih =>
    rw [runLength_cons]
    refine ih ?_
    split <;> omega

/-- A run reaches no boundary. -/
theorem runLength_le_sub {bounds : List Nat} {m b : Nat} (hb : b ∈ bounds) (hm : m < b) (limit : Nat) :
    runLength bounds m limit ≤ b - m := by
  induction bounds generalizing limit with
  | nil => cases hb
  | cons c bounds ih =>
    rw [runLength_cons]
    rcases List.mem_cons.1 hb with rfl | hb
    · rw [if_pos hm]
      exact (runLength_le ..).trans (Nat.min_le_right ..)
    · exact ih hb _

/-- A run ends at its limit or at a boundary. -/
theorem runLength_cases (bounds : List Nat) (m limit : Nat) :
    runLength bounds m limit = limit ∨ ∃ b ∈ bounds, m < b ∧ runLength bounds m limit = b - m := by
  induction bounds generalizing limit with
  | nil => exact .inl rfl
  | cons c bounds ih =>
    rw [runLength_cons]
    rcases ih (if m < c then min limit (c - m) else limit) with h | ⟨b, hb, hm, h⟩
    · rw [h]
      split
      · rename_i hm
        rcases Nat.le_total limit (c - m) with hle | hle
        · exact .inl (Nat.min_eq_left hle)
        · exact .inr ⟨c, List.mem_cons_self, hm, Nat.min_eq_right hle⟩
      · exact .inl rfl
    · exact .inr ⟨b, List.mem_cons_of_mem _ hb, hm, h⟩

/-! ## Translation and attribution within a run -/

/-- Where no span starts in between, translation goes on sector by sector. -/
theorem translateOver_add {l : List (Nat × Nat)} {p i : Nat}
    (h : ∀ x ∈ l, translateOver l p < x.1 → translateOver l p + i < x.1) :
    translateOver l (p + i) = translateOver l p + i := by
  induction l generalizing p with
  | nil => rfl
  | cons x l ih =>
    obtain ⟨start, len⟩ := x
    simp only [translateOver] at h ⊢
    by_cases hstart : start ≤ p
    · simp only [if_pos hstart] at h ⊢
      rw [if_pos (by omega), Nat.add_right_comm]
      exact ih fun y hy => h y (List.mem_cons_of_mem _ hy)
    · simp only [if_neg hstart] at h ⊢
      have := h _ List.mem_cons_self (by simpa using hstart)
      rw [if_neg (by simpa using this)]

theorem State.mem_boundaries {s : State} {b : Nat} :
    b ∈ s.boundaries ↔ ∃ r c, r ≠ 0 ∧ (s.range r).stored = some c ∧ (b = c.first ∨ b = c.stop) := by
  simp only [State.boundaries, List.mem_flatMap, mem_explicitRanges]
  refine exists_congr fun r => ?_
  cases (s.range r).stored <;> simp

theorem State.translate_add {s : State} (h0 : s.isConcealed 0 = false) {p i : Nat}
    (h : ∀ b ∈ s.boundaries, s.translate p < b → s.translate p + i < b) :
    s.translate (p + i) = s.translate p + i := by
  refine translateOver_add fun x hx => ?_
  obtain ⟨r, c, hr, hc, rfl⟩ := (s.mem_concealedExtents x).1 ((sortSpans_perm _).mem_iff.1 hx)
  have hne : r ≠ 0 := fun hz => by rw [hz, h0] at hr; cases hr
  exact h _ (State.mem_boundaries.2 ⟨r, c, hne, hc, .inl rfl⟩)

theorem State.rangeOf_add {s : State} {m i : Nat} (h : ∀ b ∈ s.boundaries, m < b → m + i < b) :
    s.rangeOf (m + i) = s.rangeOf m := by
  have hcovers (r : RangeId) (hr : r ∈ explicitRanges) :
      ((s.range r).stored.map fun c => c.covers (m + i)).getD false =
        ((s.range r).stored.map fun c => c.covers m).getD false := by
    cases hc : (s.range r).stored with
    | none => rfl
    | some c =>
      have hfirst := h _ (State.mem_boundaries.2 ⟨r, c, mem_explicitRanges.1 hr, hc, .inl rfl⟩)
      have hstop := h _ (State.mem_boundaries.2 ⟨r, c, mem_explicitRanges.1 hr, hc, .inr rfl⟩)
      simp only [Option.map_some, Option.getD_some, RangeRec.covers, Bool.and_eq_decide, decide_eq_true_iff,
        decide_eq_decide]
      omega
  unfold State.rangeOf
  congr 1
  exact List.find?_congr hcovers

/-! ## Pieces (R33 to R36) -/

/-- What a sector of a range at a media address resolves to (R35, R36). -/
def State.mediaSector (s : State) (op : MediaOp) (r : RangeId) (m : Nat) : Sector :=
  match s.disposition op r with
  | .pass => ⟨.pass, none, (s.range r).lane, some m⟩
  | .zero => .plain .zero none
  | d => .plain d (some r)

theorem State.sectorAt_rangeFragment (s : State) (op : MediaOp) (m n i : Nat) :
    (s.rangeFragment op m n).sectorAt i = s.mediaSector op (s.rangeOf m) (m + i) := by
  unfold State.rangeFragment State.mediaSector
  dsimp only
  cases s.disposition op (s.rangeOf m) <;> rfl

theorem State.sector_of_normal {s : State} (hm : s.mode = .normal) (op : MediaOp) {q : Nat} (hq : q < s.capacity) :
    s.sector op q = s.mediaSector op (s.rangeOf (s.translate q)) (s.translate q) := by
  unfold State.sector
  rw [if_neg (Nat.not_le_of_lt hq), hm]
  cases op <;> rfl

theorem State.pieces_of_done {s : State} {op : MediaOp} {fuel p e : Nat} (h : e ≤ p) : s.pieces op fuel p e = [] := by
  cases fuel with
  | zero => rfl
  | succ fuel => rw [State.pieces, if_pos h]

/-- A piece is a range's fragment with sectors. -/
theorem State.mem_pieces {s : State} {op : MediaOp} {fuel p e : Nat} {f : Fragment} (hf : f ∈ s.pieces op fuel p e) :
    ∃ m n, 0 < n ∧ f = s.rangeFragment op m n := by
  induction fuel generalizing p with
  | zero => cases hf
  | succ fuel ih =>
    rw [State.pieces] at hf
    split at hf
    · cases hf
    · rename_i hp
      rcases List.mem_cons.1 hf with rfl | hf
      · exact ⟨_, _, runLength_pos _ (by omega), rfl⟩
      · exact ih hf

theorem State.rangeFragment_count (s : State) (op : MediaOp) (m n : Nat) : (s.rangeFragment op m n).count = n := by
  unfold State.rangeFragment
  dsimp only
  cases s.disposition op (s.rangeOf m) <;> rfl

theorem coveredBy_cons (f : Fragment) (fs : List Fragment) : coveredBy (f :: fs) = f.count + coveredBy fs := rfl

theorem coveredBy_append (fs gs : List Fragment) : coveredBy (fs ++ gs) = coveredBy fs + coveredBy gs := by
  simp [coveredBy]

theorem coveredBy_ifSome (n : Nat) (f : Fragment) (h : f.count = n) : coveredBy (ifSome n f) = n := by
  unfold ifSome
  split
  · rename_i hn
    exact hn.symm
  · exact h

/-- Pieces account for no more than their span. -/
theorem State.coveredBy_pieces (s : State) (op : MediaOp) (fuel p e : Nat) :
    coveredBy (s.pieces op fuel p e) ≤ e - p := by
  induction fuel generalizing p with
  | zero => exact Nat.zero_le _
  | succ fuel ih =>
    rw [State.pieces]
    split
    · exact Nat.zero_le _
    · have hrun := runLength_le s.boundaries (s.translate p) (e - p)
      have hrest := ih (p + runLength s.boundaries (s.translate p) (e - p))
      rw [coveredBy_cons, State.rangeFragment_count]
      omega

/-- The boundaries above a media address. -/
def State.boundariesAbove (s : State) (m : Nat) : Nat := (s.boundaries.filter fun b => decide (m < b)).length

theorem State.boundariesAbove_lt {s : State} {m k b : Nat} (hb : b ∈ s.boundaries) (hm : m < b) (hk : b ≤ k) :
    s.boundariesAbove k < s.boundariesAbove m := by
  have hfilter : (s.boundaries.filter fun b => decide (k < b)) =
      (s.boundaries.filter fun b => decide (m < b)).filter fun b => decide (k < b) := by
    rw [List.filter_filter]
    refine List.filter_congr fun x _ => ?_
    simp only [← Bool.decide_and, decide_eq_decide]
    omega
  rw [State.boundariesAbove, hfilter]
  exact List.length_filter_lt_length_iff_exists.2 ⟨b, by simp [hb, hm], by simpa using hk⟩

theorem State.boundariesAbove_le (s : State) (m : Nat) : s.boundariesAbove m ≤ 30 := by
  have hall : s.boundaries.length ≤ 30 := by
    rw [State.boundaries, List.length_flatMap]
    refine (List.sum_le_card_nsmul _ 2 fun n hn => ?_).trans (by simp [explicitRanges, allRanges])
    obtain ⟨r, -, rfl⟩ := List.mem_map.1 hn
    split
    · exact Nat.le_refl _
    · exact Nat.zero_le _
  exact (List.length_filter_le ..).trans hall

/-- Sector by sector, the pieces of a span are what its presented addresses resolve to. -/
theorem State.sectors_pieces {s : State} (h0 : s.isConcealed 0 = false) (op : MediaOp) (fuel : Nat) {p e : Nat}
    (hfuel : s.boundariesAbove (s.translate p) < fuel) :
    (s.pieces op fuel p e).flatMap Fragment.sectors =
      (List.range (e - p)).map fun i =>
        s.mediaSector op (s.rangeOf (s.translate (p + i))) (s.translate (p + i)) := by
  induction fuel generalizing p with
  | zero => exact absurd hfuel (Nat.not_lt_zero _)
  | succ fuel ih =>
    rw [State.pieces]
    by_cases hp : e ≤ p
    · rw [if_pos hp, Nat.sub_eq_zero_of_le hp]
      rfl
    · rw [if_neg hp]
      dsimp only
      have hle := runLength_le s.boundaries (s.translate p) (e - p)
      have hcases := runLength_cases s.boundaries (s.translate p) (e - p)
      have hsub : ∀ b ∈ s.boundaries, s.translate p < b → runLength s.boundaries (s.translate p) (e - p) ≤ b - s.translate p :=
        fun b hb hm => runLength_le_sub hb hm _
      generalize runLength s.boundaries (s.translate p) (e - p) = n at hle hcases hsub
      have hfirst : (s.rangeFragment op (s.translate p) n).sectors =
          (List.range n).map fun i => s.mediaSector op (s.rangeOf (s.translate (p + i))) (s.translate (p + i)) := by
        rw [Fragment.sectors_eq, State.rangeFragment_count]
        refine List.map_congr_left fun i hi => ?_
        have hbelow : ∀ b ∈ s.boundaries, s.translate p < b → s.translate p + i < b := fun b hb hm => by
          have := hsub b hb hm
          have := List.mem_range.1 hi
          omega
        rw [State.sectorAt_rangeFragment, State.translate_add h0 hbelow, State.rangeOf_add hbelow]
      have hrest : (s.pieces op fuel (p + n) e).flatMap Fragment.sectors =
          (List.range (e - (p + n))).map fun i =>
            s.mediaSector op (s.rangeOf (s.translate (p + n + i))) (s.translate (p + n + i)) := by
        rcases hcases with hlimit | ⟨b, hb, hm, hrun⟩
        · rw [State.pieces_of_done (by omega), Nat.sub_eq_zero_of_le (by omega)]
          rfl
        · refine ih (Nat.lt_of_lt_of_le (State.boundariesAbove_lt hb hm ?_) (Nat.le_of_lt_succ hfuel))
          have hmono := (translateOver_strictMono (sortSpans s.concealedExtents)).add_le_nat n p
          have hreach : n + s.translate p = b := by
            rw [hrun]
            exact Nat.sub_add_cancel hm.le
          rw [Nat.add_comm n p] at hmono
          exact hreach ▸ hmono
      have hsplit : e - p = n + (e - (p + n)) := by
        clear hcases
        omega
      rw [List.flatMap_cons, hfirst, hrest, hsplit, List.range_add, List.map_append, List.map_map]
      simp only [Function.comp_def, Nat.add_assoc]

end Sys2Proof.Machine

/-!
PROOFS. The fragments of a resolution, merged and counted, and RESOLVE's reply.
-/

namespace Sys2Proof.Machine

open Sys2Proof

/-! ## Shapes of fragments -/

/-- A fragment of a range or of none, no image: media and lane only where it passes, no range where it is zero. -/
def Fragment.Shaped (f : Fragment) : Prop :=
  f.disposition ≠ .image ∧ (f.disposition = .zero → f.range = none) ∧
    (f.disposition ≠ .pass → f.lane = none ∧ f.media = none)

theorem Fragment.Shaped.continues {f g : Fragment} (hf : f.Shaped) (hg : g.Shaped) (h : joins f g = true) :
    f.Continues g := by
  obtain ⟨himage, hzero, hplain⟩ := hf
  obtain ⟨-, hzero', hplain'⟩ := hg
  obtain ⟨hd, hbeyond, hpass, hrange⟩ := joins_iff.1 h
  rw [← hd] at hzero' hplain'
  refine ⟨hd, fun hp => ?_, ?_⟩
  · cases hf : f.disposition with
    | pass => exact absurd hf hp
    | image => exact absurd hf himage
    | zero => rw [hzero hf, hzero' hf]
    | wait => exact hrange (by simp [hf])
    | refuseLocked => exact hrange (by simp [hf])
    | refuseErased => exact hrange (by simp [hf])
    | beyond => exact absurd hf hbeyond
  · by_cases hp : f.disposition = .pass
    · exact hpass hp
    · obtain ⟨hl, hm⟩ := hplain hp
      obtain ⟨hl', hm'⟩ := hplain' hp
      rw [hl, hm, hl', hm']
      exact ⟨rfl, rfl⟩

theorem isChain_of_shaped {fs : List Fragment} (h : ∀ f ∈ fs, f.Shaped) :
    fs.IsChain fun f g => joins f g = true → f.Continues g := by
  induction fs with
  | nil => exact .nil
  | cons f fs ih =>
    obtain ⟨hf, hfs⟩ := List.forall_mem_cons.1 h
    cases fs with
    | nil => exact .singleton f
    | cons g fs => exact .cons_cons (fun hjoin => hf.continues (hfs g List.mem_cons_self) hjoin) (ih hfs)

/-- An image fragment joins no other kind. -/
theorem isChain_image_cons {f : Fragment} (hf : f.disposition = .image) {fs : List Fragment} (h : ∀ g ∈ fs, g.Shaped) :
    (f :: fs).IsChain fun f g => joins f g = true → f.Continues g := by
  cases fs with
  | nil => exact .singleton f
  | cons g fs =>
    refine .cons_cons (fun hjoin => ?_) (isChain_of_shaped h)
    exact absurd ((disposition_of_joins hjoin).symm.trans hf) (h g List.mem_cons_self).1

theorem shaped_plainFragment (n : Nat) {d : Disposition} {r : Option RangeId} (himage : d ≠ .image)
    (hzero : d = .zero → r = none) : (plainFragment n d r).Shaped :=
  ⟨himage, hzero, fun _ => ⟨rfl, rfl⟩⟩

theorem State.disposition_ne_image (s : State) (op : MediaOp) (r : RangeId) : s.disposition op r ≠ .image := by
  unfold State.disposition
  split
  · decide
  · cases op <;> decide
  · cases op <;> decide
  · split
    · decide
    · split
      · split <;> decide
      · decide

theorem State.shaped_rangeFragment (s : State) (op : MediaOp) (m n : Nat) : (s.rangeFragment op m n).Shaped := by
  have himage := s.disposition_ne_image op (s.rangeOf m)
  unfold State.rangeFragment Fragment.Shaped
  dsimp only
  cases h : s.disposition op (s.rangeOf m) <;> simp_all

theorem coveredBy_ifSome_plain (n : Nat) (d : Disposition) (r : Option RangeId) :
    coveredBy (ifSome n (plainFragment n d r)) = n := coveredBy_ifSome n _ rfl

theorem forall_ifSome {P : Fragment → Prop} {n : Nat} {f : Fragment} (h : n ≠ 0 → P f) : ∀ g ∈ ifSome n f, P g := by
  unfold ifSome
  split
  · exact nofun
  · rename_i hn
    simpa using h hn

/-! ## Counts -/

theorem State.coveredBy_inCapacity (s : State) (op : MediaOp) {p e : Nat} (h : p ≤ e) :
    coveredBy (s.inCapacity op p e) ≤ e - p := by
  unfold State.inCapacity
  dsimp only
  split
  · exact Nat.le_refl _
  · exact Nat.le_refl _
  · rw [coveredBy_append, coveredBy_ifSome_plain, coveredBy_ifSome _ ⟨_, .image, _, _, _⟩ rfl]
    dsimp only
    omega
  · exact Nat.le_refl _
  · exact s.coveredBy_pieces ..

/-- The fragments account for no more than the request's sectors (R26). -/
theorem State.coveredBy_fragments (s : State) (op : MediaOp) (p n : Nat) : coveredBy (s.fragments op p n) ≤ n := by
  unfold State.fragments
  dsimp only
  split
  · exact Nat.le_refl _
  · have hcapacity := s.coveredBy_inCapacity op (p := p) (e := min (p + n) s.capacity) (by omega)
    rw [coveredBy_mergeFragments, coveredBy_append, coveredBy_ifSome_plain]
    omega

theorem coveredBy_take_le (fs : List Fragment) (k : Nat) : coveredBy (fs.take k) ≤ coveredBy fs := by
  calc coveredBy (fs.take k) ≤ coveredBy (fs.take k) + coveredBy (fs.drop k) := Nat.le_add_right ..
    _ = coveredBy fs := by rw [← coveredBy_append, List.take_append_drop]

/-! ## RESOLVE (R24, R26, R39, R41) -/

theorem parseResolve_of_badOp {pl : List Byte} (h : 1 < byteAt pl 0) : parseResolve pl = none := by
  have hcode : MediaOp.ofCode (byteAt pl 0) = none := by
    unfold MediaOp.ofCode
    split <;> first | omega | rfl
  rw [parseResolve, hcode]
  rfl

/-- Settles O11: the owner's three answers; the first 8 fragments account for no more than the count. -/
theorem resolveAnswersAtOnce : Obligations.ResolveAnswersAtOnce := by
  intro s tag pl hs hlen answer
  have hport : frameRefusal s .resolve .drive pl = none := by
    simp [frameRefusal, servedOn, admitsLength, hlen, exemptFromBusy]
  have hexec {b : ReplyBody} (howner : resolveOwner tag pl (s.endTransaction .drive) =
      (s.endTransaction .drive).replyTo .resolve .drive tag b) : exec (.resolve .drive tag pl) s = answer b :=
    congrArg Host.Outcome.next (takeRequest_of_reply hs hport howner)
  refine ⟨fun hbad => hexec ?_, fun hop hnone => hexec ?_, fun hgeometry op hop => ?_⟩
  · rw [resolveOwner, parseResolve_of_badOp hbad]
    rfl
  · obtain ⟨op, hparse⟩ : ∃ op, MediaOp.ofCode (byteAt pl 0) = some op := by
      have : byteAt pl 0 = 0 ∨ byteAt pl 0 = 1 := by omega
      rcases this with h | h <;> rw [h] <;> exact ⟨_, rfl⟩
    simp [resolveOwner, parseResolve, hparse, hnone]
  · intro start n fs k
    have hparse : parseResolve pl = some (op, start, n) := by
      have hcode : MediaOp.ofCode (byteAt pl 0) = some op := by rw [hop]; cases op <;> rfl
      have hcount : fieldAt pl 7 2 = leNat (pl.drop 7) := by
        rw [fieldAt, List.take_of_length_le (by simp [hlen])]
      rw [parseResolve, hcode, hcount]
      rfl
    have hk : k ≤ n := (coveredBy_take_le ..).trans (s.coveredBy_fragments op start n)
    have hresume : (if k < n then some (start + k) else none) = if k = n then none else some (start + k) := by
      by_cases h : k = n
      · rw [if_pos h, if_neg (by omega)]
      · rw [if_neg h, if_pos (by omega)]
    refine hexec ?_
    rw [resolveOwner, hparse, ← hresume]
    simp only [State.endTransaction_geometry]
    rw [if_neg (by simpa [← Option.isSome_iff_ne_none] using hgeometry)]
    rfl

/-! ## Full merging (R38) -/

/-- A property of every fragment of a resolution: of the plain ones, the image and the ranges' fragments, and kept by a
merge. -/
theorem State.forall_fragments {s : State} {op : MediaOp} {p n : Nat} {P : Fragment → Prop}
    (hcount : ∀ f n, f.count ≤ n → P f → P { f with count := n })
    (hplain : ∀ k d r, (0 < n → 0 < k) → d ≠ .pass → P (plainFragment k d r))
    (himage : ∀ k m, 0 < k → P ⟨k, .image, none, none, some m⟩)
    (hrange : ∀ m k, 0 < k → P (s.rangeFragment op m k)) : ∀ f ∈ s.fragments op p n, P f := by
  unfold State.fragments
  dsimp only
  split
  · simpa using hplain n .beyond none id nofun
  · rename_i hp
    refine forall_mergeFragments hcount fun f hf => ?_
    rcases List.mem_append.1 hf with hf | hf
    · have hspan : 0 < n → 0 < min (p + n) s.capacity - p := by omega
      unfold State.inCapacity at hf
      dsimp only at hf
      split at hf
      · rw [List.mem_singleton.1 hf]
        exact hplain _ _ _ hspan nofun
      · rw [List.mem_singleton.1 hf]
        exact hplain _ _ _ hspan nofun
      · rcases List.mem_append.1 hf with hf | hf
        · exact forall_ifSome (fun hn => himage _ _ (Nat.pos_of_ne_zero hn)) f hf
        · exact forall_ifSome (fun hn => hplain _ .zero none (fun _ => Nat.pos_of_ne_zero hn) nofun) f hf
      · rw [List.mem_singleton.1 hf]
        exact hplain _ _ _ hspan nofun
      · obtain ⟨m, k, hk, rfl⟩ := State.mem_pieces hf
        exact hrange m k hk
    · exact forall_ifSome (fun hn => hplain _ .beyond none (fun _ => Nat.pos_of_ne_zero hn) nofun) f hf

theorem State.isChain_fragments (s : State) (op : MediaOp) (p n : Nat) :
    (s.fragments op p n).IsChain fun a b => joins a b = false := by
  unfold State.fragments
  dsimp only
  split
  · exact .singleton _
  · exact isChain_mergeFragments _

/-- Settles O13: the merge's chain, and what every fragment is. -/
theorem fragmentsAreFullyMerged : Obligations.FragmentsAreFullyMerged := by
  intro s op start n both merge
  have hmerge {a b : Fragment} (h : merge a b) : joins a b = true := by
    rw [joins_iff]
    rcases h with ⟨ha, hb⟩ | ⟨⟨ha, hb⟩, hl, m, hm, hm'⟩ | ⟨⟨ha, hb⟩, hr⟩ | ⟨⟨ha, hb⟩, hr⟩ | ⟨⟨ha, hb⟩, hr⟩ | ⟨ha, hb⟩ <;>
      simp_all
  refine ⟨(s.isChain_fragments op start n).imp fun a b hno hjoin => ?_, fun hn => ?_, ?_⟩
  · rw [hmerge hjoin] at hno
    cases hno
  · exact State.forall_fragments (fun f k hk hf => hf.trans_le hk) (fun k _ _ hk _ => hk hn) (fun _ _ hk => hk)
      fun m k hk => by rw [State.rangeFragment_count]; exact hk
  · refine State.forall_fragments (P := fun f => f.disposition = .pass → ∃ m, f.media = some m ∧ f.range = some (s.rangeOf m))
      (fun f k _ hf => hf) (fun k d r _ hd hp => absurd hp hd) (fun _ _ _ hp => nomatch hp) fun m k _ hp => ?_
    unfold State.rangeFragment at hp ⊢
    dsimp only at hp ⊢
    cases hd : s.disposition op (s.rangeOf m) <;> simp_all

/-! ## Sector by sector (R29 to R36) -/

theorem sectors_plainFragment (n : Nat) {d : Disposition} (hd : d ≠ .pass) (r : Option RangeId) :
    (plainFragment n d r).sectors = (List.range n).map fun _ => Sector.plain d r := by
  refine List.map_congr_left fun i _ => ?_
  simp [plainFragment, Sector.plain, hd]

theorem sectors_ifSome (f : Fragment) : (ifSome f.count f).flatMap Fragment.sectors = f.sectors := by
  unfold ifSome
  split
  · rename_i hn
    rw [Fragment.sectors_eq, hn]
    rfl
  · simp

theorem sectors_ifSome_plain (n : Nat) {d : Disposition} (hd : d ≠ .pass) (r : Option RangeId) :
    (ifSome n (plainFragment n d r)).flatMap Fragment.sectors = (List.range n).map fun _ => Sector.plain d r :=
  (sectors_ifSome (plainFragment n d r)).trans (sectors_plainFragment n hd r)

/-- The overlay's reads: the image, and zeros behind it (R31). -/
theorem State.sectors_overlay {s : State} (hm : s.mode = .overlay) {p e : Nat} (hp : p ≤ e) (he : e ≤ s.capacity) :
    (ifSome (min e s.imageSectors - p)
          ⟨min e s.imageSectors - p, .image, none, none, some (s.userSectors + p)⟩ ++
        ifSome (e - max p s.imageSectors) (plainFragment (e - max p s.imageSectors) .zero none)).flatMap
          Fragment.sectors =
      (List.range (e - p)).map fun i => s.sector .read (p + i) := by
  have hsector {q : Nat} (hq : q < e) : s.sector .read q =
      if q < s.imageSectors then ⟨.image, none, none, some (s.userSectors + q)⟩ else .plain .zero none := by
    have hin : ¬s.capacity ≤ q := by omega
    simp [State.sector, hin, hm]
  have himage := sectors_ifSome ⟨min e s.imageSectors - p, .image, none, none, some (s.userSectors + p)⟩
  have hsplit : e - p = (min e s.imageSectors - p) + (e - max p s.imageSectors) := by omega
  rw [List.flatMap_append, himage, sectors_ifSome_plain (d := .zero) _ nofun, hsplit, List.range_add, List.map_append, List.map_map]
  congr 1
  · refine List.map_congr_left fun i hi => ?_
    have hlt : i < min e s.imageSectors - p := List.mem_range.1 hi
    have hin : p + i < s.imageSectors := by omega
    rw [hsector (by omega)]
    simp [hin, Nat.add_assoc]
  · refine List.map_congr_left fun i hi => ?_
    have := List.mem_range.1 hi
    rw [Function.comp_apply, hsector (by omega), if_neg (by omega)]

/-- Within the capacity, each mode shows what its sectors resolve to. -/
theorem State.sectors_inCapacity {s : State} (h0 : s.isConcealed 0 = false) (op : MediaOp) {p e : Nat} (hp : p ≤ e)
    (he : e ≤ s.capacity) :
    (s.inCapacity op p e).flatMap Fragment.sectors = (List.range (e - p)).map fun i => s.sector op (p + i) := by
  have hlt {i : Nat} (hi : i ∈ List.range (e - p)) : ¬s.capacity ≤ p + i := by
    have := List.mem_range.1 hi
    omega
  have hplain {d : Disposition} (hd : d ≠ .pass) (r : Option RangeId)
      (hsector : ∀ q, ¬s.capacity ≤ q → s.sector op q = .plain d r) :
      [plainFragment (e - p) d r].flatMap Fragment.sectors = (List.range (e - p)).map fun i => s.sector op (p + i) := by
    rw [List.flatMap_singleton, sectors_plainFragment _ hd]
    exact List.map_congr_left fun i hi => (hsector _ (hlt hi)).symm
  unfold State.inCapacity
  cases hm : s.mode with
  | normal =>
    have hfuel : s.boundariesAbove (s.translate p) < pieceFuel :=
      Nat.lt_of_le_of_lt (s.boundariesAbove_le _) (by decide)
    have hpieces := State.sectors_pieces h0 op pieceFuel (e := e) hfuel
    rw [List.map_congr_left fun i hi => State.sector_of_normal hm op (Nat.lt_of_not_le (hlt hi))]
    cases op <;> exact hpieces
  | blank =>
    cases op
    · exact hplain (d := .zero) nofun none fun q hq => by simp [State.sector, hq, hm]
    · exact hplain (d := .refuseLocked) nofun (some 0) fun q hq => by simp [State.sector, hq, hm]
  | overlay =>
    cases op
    · exact State.sectors_overlay hm hp he
    · exact hplain (d := .refuseLocked) nofun (some 0) fun q hq => by simp [State.sector, hq, hm]

/-- Before the merge, neighbours that join carry on. -/
theorem State.isChain_spans (s : State) (op : MediaOp) (p e n : Nat) :
    (s.inCapacity op p e ++ ifSome n (plainFragment n .beyond none)).IsChain
      fun f g => joins f g = true → f.Continues g := by
  have hbeyond : ∀ f ∈ ifSome n (plainFragment n .beyond none), f.Shaped :=
    forall_ifSome fun _ => shaped_plainFragment n nofun nofun
  have hrest {fs : List Fragment} (h : ∀ f ∈ fs, f.Shaped) :
      ∀ f ∈ fs ++ ifSome n (plainFragment n .beyond none), f.Shaped :=
    fun f hf => (List.mem_append.1 hf).elim (h f) (hbeyond f)
  unfold State.inCapacity
  dsimp only
  split
  · exact isChain_of_shaped (hrest (by simpa using shaped_plainFragment (d := .zero) _ nofun fun _ => rfl))
  · exact isChain_of_shaped (hrest (by simpa using shaped_plainFragment (d := .refuseLocked) _ nofun nofun))
  · have hzero : ∀ f ∈ ifSome (e - max p s.imageSectors) (plainFragment (e - max p s.imageSectors) .zero none), f.Shaped :=
      forall_ifSome fun _ => shaped_plainFragment _ nofun fun _ => rfl
    rw [List.append_assoc]
    by_cases hn : min e s.imageSectors - p = 0
    · rw [ifSome, if_pos hn]
      exact isChain_of_shaped (hrest hzero)
    · rw [ifSome, if_neg hn]
      exact isChain_image_cons rfl (hrest hzero)
  · exact isChain_of_shaped (hrest (by simpa using shaped_plainFragment (d := .refuseLocked) _ nofun nofun))
  · refine isChain_of_shaped (hrest fun f hf => ?_)
    obtain ⟨m, k, -, rfl⟩ := State.mem_pieces hf
    exact s.shaped_rangeFragment ..

/-- Sector by sector, a resolution shows what each presented address resolves to. -/
theorem State.sectors_fragments {s : State} (h0 : s.isConcealed 0 = false) (op : MediaOp) (p n : Nat) :
    (s.fragments op p n).flatMap Fragment.sectors = (List.range n).map fun i => s.sector op (p + i) := by
  have hbeyond {q : Nat} (hq : s.capacity ≤ q) : s.sector op q = .plain .beyond none := by
    unfold State.sector
    rw [if_pos hq]
  unfold State.fragments
  dsimp only
  by_cases hp : s.capacity ≤ p
  · rw [if_pos hp, List.flatMap_singleton, sectors_plainFragment (d := .beyond) _ nofun]
    exact List.map_congr_left fun i _ => (hbeyond (hp.trans (Nat.le_add_right ..))).symm
  · rw [if_neg hp, sectors_mergeFragments, List.flatMap_append, State.sectors_inCapacity h0 op (by omega) (by omega),
      sectors_ifSome_plain (d := .beyond) _ nofun]
    · have hsplit : n = (min (p + n) s.capacity - p) + (p + n - s.capacity) := by omega
      conv_rhs => rw [hsplit, List.range_add, List.map_append, List.map_map]
      congr 1
      refine List.map_congr_left fun i hi => ?_
      have := List.mem_range.1 hi
      rw [Function.comp_apply, hbeyond (by omega)]
    · exact s.isChain_spans op ..

/-! ## Capacity, attribution, disposition (R9, R35, R36) -/

theorem State.isConcealed_iff {s : State} {r : RangeId} :
    s.isConcealed r = true ↔ ∃ c, (s.range r).stored = some c ∧ c.visibility = .hiddenWhileLocked ∧
      (s.range r).read = false ∧ s.mode ≠ .blank := by
  unfold State.isConcealed
  cases (s.range r).stored <;> simp [and_assoc]

/-- The sum over the elements of a list that meet a test, the others counted as nothing. -/
theorem sum_filterMap_filter {α β : Type} (p : α → Bool) (f : α → Option β) (g : β → Nat) (size : α → Nat) (l : List α)
    (h : ∀ a ∈ l, size a = if p a then ((f a).map g).getD 0 else 0) :
    (((l.filter p).filterMap f).map g).sum = (l.map size).sum := by
  induction l with
  | nil => rfl
  | cons a l ih =>
    obtain ⟨ha, hl⟩ := List.forall_mem_cons.1 h
    rw [List.map_cons, List.sum_cons, ha, ← ih hl]
    by_cases hp : p a = true
    · cases hf : f a <;> simp [hp, hf]
    · simp [hp]

theorem RangeRec.covers_iff (c : RangeRec) (m : Nat) :
    c.covers m = true ↔ c.start * 8 ≤ m ∧ m < (c.start + c.length) * 8 :=
  (Bool.and_eq_true ..).to_iff.trans (and_congr decide_eq_true_iff decide_eq_true_iff)

theorem State.rangeOf_of_covers {s : State} {r : RangeId} {m : Nat} {covers : RangeId → Prop}
    (hcovers : ∀ q, covers q ↔ q ∈ explicitRanges ∧ (((s.range q).stored.map fun c => c.covers m).getD false) = true)
    (hr : covers r) (honly : ∀ q, covers q → q = r) : s.rangeOf m = r := by
  unfold State.rangeOf
  cases hfind : explicitRanges.find? fun r => ((s.range r).stored.map fun c => c.covers m).getD false with
  | none => exact absurd ((hcovers r).1 hr).2 (List.find?_eq_none.1 hfind r ((hcovers r).1 hr).1)
  | some q => exact honly q ((hcovers q).2 ⟨List.mem_of_find?_eq_some hfind, List.find?_some (p := fun r => ((s.range r).stored.map fun c => c.covers m).getD false) hfind⟩)

theorem State.rangeOf_of_uncovered {s : State} {m : Nat} {covers : RangeId → Prop}
    (hcovers : ∀ q, covers q ↔ q ∈ explicitRanges ∧ (((s.range q).stored.map fun c => c.covers m).getD false) = true)
    (hnone : ∀ q, ¬covers q) : s.rangeOf m = 0 := by
  unfold State.rangeOf
  rw [List.find?_eq_none.2 fun q hq hc => hnone q ((hcovers q).2 ⟨hq, hc⟩)]
  rfl

/-- What an ACTIVE range's sectors get (R35). -/
theorem State.disposition_of_active {s : State} {r : RangeId} {c : RangeRec} (hc : (s.range r).stored = some c)
    (hactive : c.state = .active) (op : MediaOp) :
    s.disposition op r =
      if (s.range r).allows op = false then .refuseLocked
      else if (((s.range r).lane.bind s.laneAt).map LaneRec.state = some .loaded) ∧ s.lane.link = .up then .pass
      else .wait := by
  simp only [State.disposition, hc, Option.map_some, hactive, Bool.not_eq_eq_eq_not, Bool.not_true]
  split
  · rfl
  · split <;> simp_all

/-- Settles O12: the sectors of the pieces, then capacity, attribution and disposition. -/
theorem resolutionAgreesSectorBySector : Obligations.ResolutionAgreesSectorBySector := by
  intro s op concealed covers right loaded
  have hcovers (m : Nat) (r : RangeId) : covers r m ↔
      r ∈ explicitRanges ∧ ((s.range r).stored.map fun c => c.covers m).getD false = true := by
    simp only [covers, mem_explicitRanges]
    cases (s.range r).stored <;> simp [RangeRec.covers_iff]
  have hloaded (r : RangeId) : loaded r ↔ ((s.range r).lane.bind s.laneAt).map LaneRec.state = some .loaded := by
    simp only [loaded, Option.map_eq_some_iff, Option.bind_eq_some_iff]
    exact ⟨fun ⟨n, l, hn, hl, h⟩ => ⟨l, ⟨n, hn, hl⟩, h⟩, fun ⟨l, ⟨n, hn, hl⟩, h⟩ => ⟨n, l, hn, hl, h⟩⟩
  have hright (r : RangeId) : right r = (s.range r).allows op := by cases op <;> rfl
  refine ⟨fun start n h0 => State.sectors_fragments h0 op start n, fun size hsize hnone => ?capacity,
    fun m => ⟨fun r hr honly => ?explicit, fun hno => ?global⟩, fun r c hc => ⟨fun hkeyless => ?keyless, fun hactive => ?active⟩⟩
  case capacity =>
    have huser : s.userSectors = match s.geometry with | some g => g.capacity - g.image | none => 0 := rfl
    have hsum : (s.concealedExtents.map (·.2)).sum = ((List.finRange 16).map size).sum := by
      rw [State.concealedExtents, State.concealedSet, ← allRanges_eq_finRange]
      refine sum_filterMap_filter s.isConcealed _ _ size allRanges fun r _ => ?_
      by_cases hhidden : s.isConcealed r = true
      · obtain ⟨c, hc, hrest⟩ := s.isConcealed_iff.1 hhidden
        rw [if_pos hhidden, hc, hsize r c ⟨hc, hrest⟩]
        rfl
      · rw [if_neg hhidden]
        exact hnone r fun c hc => hhidden (s.isConcealed_iff.2 ⟨c, hc⟩)
    exact (congrArg (s.userSectors - ·) hsum).trans (congrArg (· - _) huser)
  case explicit => exact State.rangeOf_of_covers (hcovers m) hr honly
  case global => exact State.rangeOf_of_uncovered (hcovers m) hno
  case keyless =>
    rcases hkeyless with h | h <;> cases op <;> simp [State.disposition, hc, h, keylessDisposition]
  case active =>
    rw [State.disposition_of_active hc hactive, hright, hloaded]
    refine ⟨fun h => if_pos h, fun h hl hup => ?_, fun h hl => ?_⟩
    · rw [if_neg (by simp [h]), if_pos ⟨hl, hup⟩]
    · rw [if_neg (by simp [h]), if_neg (not_and_or.2 hl)]

end Sys2Proof.Machine

/-!
PROOFS. LOCK (R98, R99): its list, its rights off range by range, the lanes it releases and its reply.
-/

namespace Sys2Proof.Machine

open Sys2Proof

/-! ## A working list (R89, R98) -/

theorem distinct_concat (l : List RangeId) (r : RangeId) :
    distinct (l ++ [r]) = if r ∈ distinct l then distinct l else distinct l ++ [r] := by
  simp [distinct, List.foldl_append]

theorem mem_distinct {l : List RangeId} {r : RangeId} : r ∈ distinct l ↔ r ∈ l := by
  induction l using List.reverseRecOn with
  | nil => exact Iff.rfl
  | append_singleton l q ih =>
    rw [distinct_concat, List.mem_append, ← ih, List.mem_singleton]
    split
    · rename_i hq
      exact ⟨.inl, fun h => h.elim id fun e => e ▸ hq⟩
    · rw [List.mem_append, List.mem_singleton]

theorem eraseDups_concat {α : Type} [DecidableEq α] (l : List α) (a : α) :
    (l ++ [a]).eraseDups = if a ∈ l then l.eraseDups else l.eraseDups ++ [a] := by
  rw [List.eraseDups_append]
  by_cases h : a ∈ l <;> simp [h, List.removeAll, List.eraseDups_cons]

theorem map_val_distinct (l : List RangeId) :
    (distinct l).map (fun r => r.val) = (l.map fun r => r.val).eraseDups := by
  induction l using List.reverseRecOn with
  | nil => rfl
  | append_singleton l r ih =>
    have hmem : r.val ∈ l.map (fun r => r.val) ↔ r ∈ distinct l := by
      rw [mem_distinct, List.mem_map]
      exact ⟨fun ⟨q, hq, he⟩ => Fin.ext he ▸ hq, fun h => ⟨r, h, rfl⟩⟩
    rw [distinct_concat, List.map_append, List.map_singleton, eraseDups_concat, ← ih]
    by_cases h : r ∈ distinct l
    · rw [if_pos h, if_pos (hmem.2 h)]
    · rw [if_neg h, if_neg (mt hmem.1 h), List.map_append, List.map_singleton]

theorem rangeIdOf_val (r : RangeId) : rangeIdOf r.val = some r := dif_pos r.isLt

theorem rangeIdOf_eq_none {n : Nat} : rangeIdOf n = none ↔ ¬n < 16 := by
  simp [rangeIdOf]

theorem mapM_rangeIdOf_eq_some {ids : List Byte} (h : ∀ b ∈ ids, b.toNat < 16) :
    ∃ l : List RangeId, ids.mapM (fun b => rangeIdOf b.toNat) = some l ∧
      l.map (fun r => r.val) = ids.map fun b => b.toNat := by
  induction ids with
  | nil => exact ⟨[], rfl, rfl⟩
  | cons b ids ih =>
    obtain ⟨hb, hids⟩ := List.forall_mem_cons.1 h
    obtain ⟨l, hl, hval⟩ := ih hids
    refine ⟨⟨b.toNat, hb⟩ :: l, ?_, congrArg (b.toNat :: ·) hval⟩
    rw [List.mapM_cons, hl, rangeIdOf, dif_pos hb]
    rfl

theorem mapM_rangeIdOf_eq_none {ids : List Byte} (h : ¬∀ b ∈ ids, b.toNat < 16) :
    ids.mapM (fun b => rangeIdOf b.toNat) = none := by
  induction ids with
  | nil => exact absurd nofun h
  | cons b ids ih =>
    rw [List.mapM_cons]
    by_cases hb : b.toNat < 16
    · rw [ih fun hids => h (List.forall_mem_cons.2 ⟨hb, hids⟩)]
      cases rangeIdOf b.toNat <;> rfl
    · rw [rangeIdOf_eq_none.2 hb]
      rfl

theorem workingList_eq_some {ids : List Byte} (hlen : 1 ≤ ids.length ∧ ids.length ≤ 16)
    (h : ∀ i ∈ ids.map (fun b => b.toNat), i < 16) {list : List RangeId}
    (hlist : list.map (fun r => r.val) = (ids.map fun b => b.toNat).eraseDups) : workingList ids = some list := by
  obtain ⟨l, hl, hval⟩ := mapM_rangeIdOf_eq_some (List.forall_mem_map.1 h)
  have hdistinct : distinct l = list :=
    List.map_injective_iff.2 Fin.val_injective ((map_val_distinct l).trans (hval ▸ hlist.symm))
  rw [workingList, if_neg (by omega), hl, Option.map_some, hdistinct]

theorem workingList_eq_none {ids : List Byte}
    (h : ¬((1 ≤ ids.length ∧ ids.length ≤ 16) ∧ ∀ i ∈ ids.map (fun b => b.toNat), i < 16)) : workingList ids = none := by
  rw [workingList]
  split
  · rfl
  · rw [mapM_rangeIdOf_eq_none fun hids => h ⟨by omega, List.forall_mem_map.2 hids⟩]
    rfl

theorem Rights.ofCode_code (w : Rights) :
    Rights.ofCode (match w with | .read => 1 | .write => 2 | .both => 3) = some w := by
  cases w <;> rfl

theorem Rights.ofCode_eq_none {n : Nat} : Rights.ofCode n = none ↔ ¬(1 ≤ n ∧ n ≤ 3) := by
  match n with
  | 0 | 1 | 2 | 3 => simp [Rights.ofCode]
  | n + 4 => exact ⟨fun _ h => absurd h.2 (by omega), fun _ => rfl⟩

/-! ## Locking a list (R98, R103) -/

@[simp] theorem RangeEntry.without_without (e : RangeEntry) (w : Rights) : (e.without w).without w = e.without w := by
  cases w <;> cases hread : e.read <;> cases hwrite : e.write <;>
    simp [RangeEntry.without, Rights.hasRead, Rights.hasWrite, hread, hwrite]

theorem State.range_lockRange (s : State) (w : Rights) (r q : RangeId) :
    (s.lockRange w r).range q = if r = q then (s.range q).without w else s.range q := by
  obtain ⟨l, h⟩ := s.lockRange_frame w r
  have hq : (s.lockRange w r).range q = (s.setRange r ((s.range r).without w)).range q := by rw [h]; rfl
  rw [hq, State.range_setRange]
  split
  · rename_i h; rw [h]
  · rfl

theorem State.laneAt_lockRange (s : State) (w : Rights) (r : RangeId) (n : Nat) :
    (s.lockRange w r).laneAt n =
      if (s.range r).lane = some n ∧ ((s.range r).without w).hasRight = false then (s.laneAt n).map LaneRec.release
      else s.laneAt n := by
  unfold State.lockRange
  dsimp only
  rw [State.range_setRange_self]
  cases hright : ((s.range r).without w).hasRight
  · simp only [Bool.false_eq_true, if_false, State.laneAt_releaseOf, State.range_setRange_self, and_true]
    rfl
  · simp
    rfl

/-- The ranges after a LOCK of a list. -/
def State.lockList (w : Rights) (s : State) (list : List RangeId) : State := list.foldl (State.lockOne w) s

theorem State.lockList_cons (w : Rights) (s : State) (r : RangeId) (list : List RangeId) :
    s.lockList w (r :: list) = (State.lockOne w s r).lockList w list := rfl

theorem State.lockList_frame (w : Rights) (s : State) (list : List RangeId) :
    ∃ l v, s.lockList w list = { s with lane := { s.lane with lanes := l }, ranges := v } := by
  induction list generalizing s with
  | nil => exact ⟨_, _, rfl⟩
  | cons r list ih =>
    obtain ⟨l, v, h⟩ := ih (State.lockOne w s r)
    rw [State.lockList_cons, h, State.lockOne]
    split
    · obtain ⟨l', h'⟩ := s.lockRange_frame w r
      exact ⟨l, v, by rw [h']⟩
    · exact ⟨l, v, rfl⟩

/-- A LOCK of a range as its entry: an absent range keeps it. -/
def RangeEntry.afterLock (e : RangeEntry) (w : Rights) : RangeEntry := if e.stored.isSome then e.without w else e

@[simp] theorem RangeEntry.afterLock_lane (e : RangeEntry) (w : Rights) : (e.afterLock w).lane = e.lane := by
  unfold RangeEntry.afterLock
  split <;> rfl

@[simp] theorem RangeEntry.afterLock_stored (e : RangeEntry) (w : Rights) : (e.afterLock w).stored = e.stored := by
  unfold RangeEntry.afterLock
  split <;> rfl

@[simp] theorem RangeEntry.afterLock_afterLock (e : RangeEntry) (w : Rights) :
    (e.afterLock w).afterLock w = e.afterLock w := by
  by_cases h : e.stored.isSome = true
  · have hstored : (e.without w).stored = e.stored := rfl
    simp [RangeEntry.afterLock, h]
  · simp [RangeEntry.afterLock, h]

theorem State.range_lockOne (w : Rights) (s : State) (r q : RangeId) :
    (State.lockOne w s r).range q = if r = q then (s.range q).afterLock w else s.range q := by
  unfold State.lockOne
  split
  · rename_i h
    rw [State.range_lockRange]
    split
    · rename_i hq
      rw [RangeEntry.afterLock, if_pos (hq ▸ h)]
    · rfl
  · rename_i h
    split
    · rename_i hq
      rw [RangeEntry.afterLock, if_neg (hq ▸ h)]
    · rfl

/-- A LOCK releases the lane of a listed range: present, bound to it, and left without a right. -/
def RangeEntry.releases (e : RangeEntry) (w : Rights) (n : Nat) : Prop :=
  e.stored.isSome = true ∧ e.lane = some n ∧ (e.afterLock w).hasRight = false

theorem RangeEntry.releases_afterLock (e : RangeEntry) (w : Rights) (n : Nat) :
    (e.afterLock w).releases w n ↔ e.releases w n := by
  simp [RangeEntry.releases]

theorem State.releases_lockOne (w : Rights) (s : State) (r q : RangeId) (n : Nat) :
    ((State.lockOne w s r).range q).releases w n ↔ (s.range q).releases w n := by
  rw [State.range_lockOne]
  split
  · exact RangeEntry.releases_afterLock ..
  · exact Iff.rfl

theorem State.laneAt_lockOne_of_releases {w : Rights} {s : State} {r : RangeId} {n : Nat} (h : (s.range r).releases w n) :
    (State.lockOne w s r).laneAt n = (s.laneAt n).map LaneRec.release := by
  obtain ⟨hstored, hlane, hright⟩ := h
  rw [RangeEntry.afterLock, if_pos hstored] at hright
  rw [State.lockOne, if_pos hstored, State.laneAt_lockRange, if_pos ⟨hlane, hright⟩]

theorem State.laneAt_lockOne_of_keeps {w : Rights} {s : State} {r : RangeId} {n : Nat} (h : ¬(s.range r).releases w n) :
    (State.lockOne w s r).laneAt n = s.laneAt n := by
  rw [State.lockOne]
  split
  · rename_i hstored
    rw [State.laneAt_lockRange]
    refine if_neg fun ⟨hlane, hright⟩ => h ⟨hstored, hlane, ?_⟩
    rwa [RangeEntry.afterLock, if_pos hstored]
  · rfl

theorem State.range_lockList (w : Rights) (s : State) (list : List RangeId) (q : RangeId) :
    (s.lockList w list).range q = if q ∈ list then (s.range q).afterLock w else s.range q := by
  induction list generalizing s with
  | nil => simp [State.lockList]
  | cons r list ih =>
    rw [State.lockList_cons, ih, State.range_lockOne]
    by_cases hr : r = q
    · simp [hr]
    · simp [hr, Ne.symm hr]

theorem State.laneAt_lockList_of_keeps {w : Rights} {s : State} {list : List RangeId} {n : Nat}
    (h : ∀ r ∈ list, ¬(s.range r).releases w n) : (s.lockList w list).laneAt n = s.laneAt n := by
  induction list generalizing s with
  | nil => rfl
  | cons r list ih =>
    obtain ⟨hr, hlist⟩ := List.forall_mem_cons.1 h
    rw [State.lockList_cons, ih fun q hq => mt (State.releases_lockOne ..).1 (hlist q hq),
      State.laneAt_lockOne_of_keeps hr]

theorem State.laneAt_lockList_of_releases {w : Rights} {s : State} {list : List RangeId} {n : Nat}
    (h : ∃ r ∈ list, (s.range r).releases w n) : (s.lockList w list).laneAt n = (s.laneAt n).map LaneRec.release := by
  induction list generalizing s with
  | nil => simp at h
  | cons r list ih =>
    rw [State.lockList_cons]
    by_cases hr : (s.range r).releases w n
    · by_cases hlater : ∃ q ∈ list, (s.range q).releases w n
      · rw [ih (by simpa only [State.releases_lockOne] using hlater), State.laneAt_lockOne_of_releases hr, Option.map_map]
        exact congrArg (Option.map · _) (funext LaneRec.release_release)
      · rw [State.laneAt_lockList_of_keeps, State.laneAt_lockOne_of_releases hr]
        simpa only [State.releases_lockOne, not_exists, not_and] using hlater
    · obtain ⟨q, hq, hrel⟩ := h
      rcases List.mem_cons.1 hq with rfl | hq
      · exact absurd hrel hr
      · rw [ih ⟨q, hq, (State.releases_lockOne ..).2 hrel⟩, State.laneAt_lockOne_of_keeps hr]

/-! ## LOCK (R98, R99) -/

theorem parseLock_of_legal {pl : List Byte} {w : Rights} {list : List RangeId} (hw : Rights.ofCode (byteAt pl 0) = some w)
    (hlist : workingList (pl.drop 2) = some list) : parseLock pl = some (w, list) := by
  rw [parseLock, hw, hlist]
  rfl

theorem parseLock_eq_none {pl : List Byte}
    (h : Rights.ofCode (byteAt pl 0) = none ∨ workingList (pl.drop 2) = none) : parseLock pl = none := by
  rw [parseLock]
  rcases h with h | h
  · rw [h]
    rfl
  · rw [h]
    cases Rights.ofCode (byteAt pl 0) <;> rfl

/-- A LOCK of a legal list as one event: its rights off, the epoch, the reply. -/
theorem exec_lock {s : State} (hs : s.Ready .drive) {tag : Byte} {pl : List Byte}
    (hport : frameRefusal s .lock .drive pl = none) {w : Rights} {list : List RangeId}
    (hparse : parseLock pl = some (w, list)) {x : State} (hx : x = (s.endTransaction .drive).lockList w list)
    {c : Bool} (hc : c = State.moved (s.endTransaction .drive) x) :
    exec (.lock .drive tag pl) s =
      .next { x with
        epoch := if c then x.epoch + 1 else x.epoch
        drive :=
          let q := s.drive.answered .lock tag (.locked (if c then x.epoch + 1 else x.epoch) (list.map x.lockEntry))
          if c then q.push (changed (x.epoch + 1) x.custody.state) else q } := by
  obtain ⟨l, v, hframe⟩ := (s.endTransaction .drive).lockList_frame w list
  have howner : lockOwner tag pl (s.endTransaction .drive) = (State.raiseIf c x).replyTo .lock .drive tag
      (.locked (if c then x.epoch + 1 else x.epoch) (list.map x.lockEntry)) := by
    have hraise : State.raiseIfMoved (s.endTransaction .drive) (list.foldl (State.lockOne w) (s.endTransaction .drive)) =
        State.raiseIf c x := by rw [hc, hx]; rfl
    simp only [lockOwner, hparse, hraise]
    cases c <;> rfl
  exact congrArg Host.Outcome.next (takeRequest_of_raiseIf hs.1 hport howner (by rw [hx, hframe]; rfl) (by rw [hx, hframe]; rfl))

/-- Settles O30. -/
theorem lockRemovesRights : Obligations.LockRemovesRights := by
  intro s tag pl hs hlen hcount ids legal
  have hdrop : (pl.drop 2).length = byteAt pl 1 := by rw [List.length_drop]; omega
  have hport : frameRefusal s .lock .drive pl = none :=
    frameRefusal_of_ready hs.2 rfl (by simp [admitsLength, ← hcount, hlen])
  refine ⟨fun hbad => ?_, fun w list hlegal hcode hlist => ?_⟩
  · have hnone : parseLock pl = none := by
      refine parseLock_eq_none ?_
      by_cases hw : 1 ≤ byteAt pl 0 ∧ byteAt pl 0 ≤ 3
      · refine .inr (workingList_eq_none fun ⟨hn, hids⟩ => hbad ⟨hw, ?_, hids⟩)
        rwa [hdrop] at hn
      · exact .inl (Rights.ofCode_eq_none.2 hw)
    have howner (x : State) : lockOwner tag pl x = x.replyTo .lock .drive tag (.code .badValue) := by
      simp only [lockOwner, hnone]
    exact congrArg Host.Outcome.next (takeRequest_of_reply hs.1 hport (howner _))
  · obtain ⟨-, hn, hids⟩ := hlegal
    have hparse : parseLock pl = some (w, list) :=
      parseLock_of_legal (hcode ▸ w.ofCode_code) (workingList_eq_some (by rwa [hdrop]) hids hlist)
    obtain ⟨x, hx⟩ : ∃ x, x = (s.endTransaction .drive).lockList w list := ⟨_, rfl⟩
    obtain ⟨c, hc⟩ : ∃ c, c = State.moved (s.endTransaction .drive) x := ⟨_, rfl⟩
    obtain ⟨l, v, hframe⟩ := (s.endTransaction .drive).lockList_frame w list
    rw [← hx] at hframe
    have hrange (q : RangeId) : x.range q = if q ∈ list then (s.range q).afterLock w else s.range q :=
      hx ▸ (s.endTransaction .drive).range_lockList w list q
    have hreleased (n : Nat) (h : ∃ r ∈ list, (s.range r).releases w n) : x.laneAt n = (s.laneAt n).map LaneRec.release :=
      hx ▸ State.laneAt_lockList_of_releases (s := s.endTransaction .drive) h
    have hkept (n : Nat) (h : ∀ r ∈ list, ¬(s.range r).releases w n) : x.laneAt n = s.laneAt n :=
      hx ▸ State.laneAt_lockList_of_keeps (s := s.endTransaction .drive) h
    have hright {r : RangeId} (hr : r ∈ list) : (x.range r).hasRight = ((s.range r).afterLock w).hasRight := by
      rw [hrange, if_pos hr]
    refine ⟨_, exec_lock hs hport hparse hx hc, fun r hr hstored => ?locked, fun r hr => ?others, fun n l hl hrel => ?released,
      fun n hall => ?lanes, ?epoch, ?frame⟩
    case locked =>
      refine (hrange r).trans ?_
      rw [if_pos hr, RangeEntry.afterLock, if_pos hstored]
      cases w <;> simp [RangeEntry.without, Rights.hasRead, Rights.hasWrite]
    case others =>
      refine (hrange r).trans ?_
      rcases hr with hr | hnone
      · exact if_neg hr
      · rw [RangeEntry.afterLock, hnone]
        exact ite_self _
    case released =>
      obtain ⟨r, hr, hstored, hlane, hno⟩ := hrel
      have hlaneAt := hreleased n ⟨r, hr, hstored, hlane, hright hr ▸ hno⟩
      rw [hl] at hlaneAt
      refine ⟨fun hstate => hlaneAt.trans ?_, fun hstate => hlaneAt.trans ?_⟩ <;>
        rcases hstate with hstate | hstate <;> simp [LaneRec.release, hstate]
    case lanes =>
      refine hkept n fun r hr ⟨hstored, hlane, hno⟩ => ?_
      have hhas : (x.range r).hasRight = true := hall r hr hstored hlane
      rw [hright hr, hno] at hhas
      cases hhas
    case epoch =>
      have hset : (x.concealedSet = s.concealedSet) = (c = false) := by simp [hc, State.moved]; rfl
      have hepoch : x.epoch = s.epoch := by rw [hframe]; rfl
      change (if c then x.epoch + 1 else x.epoch) = if x.concealedSet = s.concealedSet then s.epoch else s.epoch + 1
      simp only [hset, hepoch]
      cases c <;> rfl
    case frame =>
      have hdrive (q : PortState) : (if c then q.push (changed (x.epoch + 1) x.custody.state) else q) =
          if (if c then x.epoch + 1 else x.epoch) = s.epoch then q
          else q.push (changed (if c then x.epoch + 1 else x.epoch) s.custody.state) := by
        have hepoch : x.epoch = s.epoch := by rw [hframe]; rfl
        have hcustody : x.custody = s.custody := by rw [hframe]; rfl
        cases c <;> simp [hepoch, hcustody]
      refine (congrArg (fun d => { x with epoch := if c then x.epoch + 1 else x.epoch, drive := d }) (hdrive _)).trans ?_
      rw [hframe]
      rfl

end Sys2Proof.Machine

/-!
PROOFS. SET_POLICY and FREEZE_POLICY at the refund (R110, R113), and SCRUB_PAUSE and SCRUB_RESUME (R144).
-/

namespace Sys2Proof.Machine

open Sys2Proof

/-! ## SET_POLICY and FREEZE_POLICY -/

theorem tighterHours_iff {stored new : Nat} : tighterHours stored new = true ↔ stored = 0 ∨ 1 ≤ new ∧ new ≤ stored := by
  simp [tighterHours]

theorem SecretAction.tightens_iff {a : SecretAction} {stored : Option Secret} :
    a.tightens stored = true ↔ a = .keep ∨ stored = none := by
  cases a <;> simp [SecretAction.tightens]

theorem PolicyRec.tightens_iff {p : PolicyRec} {v : PolicyValues} :
    p.tightens v = true ↔
      (p.tryExhaustion.rank ≤ v.tryExhaustion.rank ∧ p.checkinExpired.rank ≤ v.checkinExpired.rank ∧
        p.foreignStart.rank ≤ v.foreignStart.rank ∧ p.remoteOrder.rank ≤ v.remoteOrder.rank ∧
        p.adminOrder.rank ≤ v.adminOrder.rank) ∧
      (p.checkinPeriod = 0 ∨ 1 ≤ v.checkinPeriod ∧ v.checkinPeriod ≤ p.checkinPeriod) ∧
      p.warningMargin ≤ v.warningMargin ∧
      (p.concealHold = 0 ∨ 1 ≤ v.concealHold ∧ v.concealHold ≤ p.concealHold) ∧
      v.deviceTryLimit ≤ p.deviceTryLimit ∧ v.foreignLimit ≤ p.foreignLimit ∧
      (v.action = .keep ∨ p.wipeDigest = none) := by
  simp only [PolicyRec.tightens, Bool.and_eq_true, decide_eq_true_iff, tighterHours_iff, SecretAction.tightens_iff, and_assoc]

/-- Settles O39: the two owners' cases. -/
theorem policyRequests : Obligations.PolicyRequests := by
  intro s tag t inUse p enters answer
  have huse : inUse → (s.refundTaken 0 t).custody.state.inUse = true := Custody.inUse_iff.2
  have hnot (h : ¬inUse) : (s.refundTaken 0 t).custody.state.inUse = false := Custody.inUse_eq_false_iff.2 h
  refine ⟨?set, fun h => ?freeze⟩
  case set =>
    intro v h hours levels tight
    have htight : tight ↔ (s.refundTaken 0 t).policy.tightens v = true := PolicyRec.tightens_iff.symm
    have hgo (hin : inUse) (hfree : p.frozen = false ∨ tight) : (s.refundTaken 0 t).goSetPolicy v =
        (s.refundTaken 0 t).commitRequest [policyEntry (p.with v) [.policyStored, .answer .drive .ok]] := by
      have hpass : ((s.refundTaken 0 t).policy.frozen && !(s.refundTaken 0 t).policy.tightens v) = false := by
        rcases hfree with hfrozen | hok
        · rw [show (s.refundTaken 0 t).policy.frozen = false from hfrozen, Bool.false_and]
        · rw [htight.1 hok, Bool.not_true, Bool.and_false]
      rw [State.goSetPolicy, huse hin, hpass]
      rfl
    refine ⟨fun hno => exec_refund_of_answer h ?_, fun hin hfrozen hloose => exec_refund_of_answer h ?_, fun hin hfree =>
      ⟨fun hw => exec_refund_of_answer h ?_, fun hw => ?_⟩⟩
    · change (s.refundTaken 0 t).goSetPolicy v = _
      rw [State.goSetPolicy, hnot hno]
      rfl
    · change (s.refundTaken 0 t).goSetPolicy v = _
      rw [State.goSetPolicy, huse hin, show (s.refundTaken 0 t).policy.frozen = true from hfrozen,
        Bool.eq_false_iff.2 (mt htight.2 hloose)]
      rfl
    · exact (hgo hin hfree).trans (State.commitRequest_of_warning (s := s.refundTaken 0 t) hw _)
    · exact exec_refund_of_commit (x := s.refundTaken 0 t) h
        ((hgo hin hfree).trans (State.commitRequest_one (s := s.refundTaken 0 t) rfl h.2.2.2 hw _)) rfl rfl
  case freeze =>
    refine ⟨fun hno => exec_refund_of_answer h ?_, fun hin hfrozen => exec_refund_of_answer h ?_,
      fun hin hfree hw => exec_refund_of_commit (x := s.refundTaken 0 t) h (.trans ?_
        (State.commitRequest_one (s := s.refundTaken 0 t) rfl h.2.2.2 hw _)) rfl rfl⟩
    · change (s.refundTaken 0 t).goFreezePolicy = _
      rw [State.goFreezePolicy, hnot hno]
      rfl
    · change (s.refundTaken 0 t).goFreezePolicy = _
      rw [State.goFreezePolicy, huse hin, show (s.refundTaken 0 t).policy.frozen = true from hfrozen]
      rfl
    · change (s.refundTaken 0 t).goFreezePolicy = _
      rw [State.goFreezePolicy, huse hin, show (s.refundTaken 0 t).policy.frozen = false from hfree]
      rfl

/-! ## SCRUB_PAUSE and SCRUB_RESUME -/

/-- What a pause or a resume waits for (R144). -/
def pauseEntry (s : State) (j : Job) (r : RangeId) (paused : Bool) : Entry :=
  journalEntry ⟨some { j.journal with paused := paused }, s.scrub.waiting⟩ (.mark paused) [.pauseStored r paused]

theorem pauseOwner_of_none {s : State} (h : s.scrub.job = none) (k : ReqKind) (paused : Bool) (tag : Byte) :
    pauseOwner k paused tag s = s.replyTo k .drive tag (.code .state) := by
  simp only [pauseOwner, h]

theorem pauseOwner_of_custody {s : State} {j : Job} (h : s.scrub.job = some j) (hj : j.journal.kind = .custody)
    (k : ReqKind) (paused : Bool) (tag : Byte) :
    pauseOwner k paused tag s = s.replyTo k .drive tag (.code .state) := by
  simp only [pauseOwner, h, hj]

theorem pauseOwner_of_retire {s : State} {j : Job} {r : RangeId} (h : s.scrub.job = some j)
    (hj : j.journal.kind = .retire) (hr : j.journal.range = some r) (k : ReqKind) (paused : Bool) (tag : Byte) :
    pauseOwner k paused tag s =
      if j.journal.paused = paused then s.replyTo k .drive tag (.code .ok)
      else s.beginCommit k .drive tag [pauseEntry s j r paused] := by
  obtain ⟨⟨kind, range, start, stop, cursor, mark⟩, issue, orders, chunks⟩ := j
  cases show kind = .retire from hj
  cases show range = some r from hr
  simp only [pauseOwner, h, pauseEntry]

/-- Settles O50: the owner's cases by the current job, and the completion. -/
theorem pauseAndResume : Obligations.PauseAndResume := by
  intro s tag paused k c answer retiring entry
  have hexec : exec c s = .next (takeRequest k .drive tag [] (pauseOwner k paused tag) s) := by cases paused <;> rfl
  refine ⟨fun hs => ?taken, fun j r ⟨hj, hkind, hr⟩ h => ?stored⟩
  case taken =>
    have hport : frameRefusal s k .drive [] = none := by
      cases paused <;> exact frameRefusal_of_ready hs.2 rfl rfl
    have hanswer {x : Result} (howner : pauseOwner k paused tag (s.endTransaction .drive) =
        (s.endTransaction .drive).replyTo k .drive tag (.code x)) : exec c s = answer x :=
      hexec.trans (congrArg Host.Outcome.next (takeRequest_of_reply hs.1 hport howner))
    refine ⟨fun hnone => hanswer (pauseOwner_of_none (s := s.endTransaction .drive) hnone ..), fun j hj hkind => hanswer (pauseOwner_of_custody (s := s.endTransaction .drive) hj hkind ..),
      fun j r ⟨hj, hkind, hr⟩ => ?_⟩
    have howner := pauseOwner_of_retire (s := s.endTransaction .drive) hj hkind hr k paused tag
    refine ⟨fun hsame => hanswer (howner.trans (if_pos hsame)), fun hdiff => ⟨fun hw => ?_, fun hw hq hh => ?_⟩⟩
    · exact hexec.trans (congrArg Host.Outcome.next (takeRequest_of_refusedCommit hs.1 hport (howner.trans (if_neg hdiff))
        (State.refusesWrites_of_warning hw _)))
    · exact hexec.trans (congrArg Host.Outcome.next (takeRequest_of_commit hs.1 hport (howner.trans (if_neg hdiff)) hq hh hw))
  case stored =>
    have hact : (s.written (entry j r).writes).pauseStored r paused =
        ((s.written (entry j r).writes).setJob (some { j with journal := { j.journal with paused } })).answer .drive
          (.code .ok) := by
      rw [State.pauseStored, show (s.written (entry j r).writes).scrub.job = some j from hj]
      exact if_pos ⟨hkind, hr⟩
    exact exec_completion_of_answer h hact rfl rfl

end Sys2Proof.Machine

/-!
PROOFS. RETIRE (R134 to R137): its refusals, its group and the group's completion.
-/

namespace Sys2Proof.Machine

open Sys2Proof

theorem State.rangeState_of_stored {s : State} {r : RangeId} {c : RangeRec} (h : (s.range r).stored = some c) :
    s.rangeState r = some c.state := by
  rw [State.rangeState_eq, h, Option.map_some]

theorem State.retireJob_of_stored {s : State} {r : RangeId} {c : RangeRec} (h : (s.range r).stored = some c) :
    s.retireJob r =
      ⟨.retire, some r, c.start * 8, (c.start + c.length) * 8, c.start * 8, false⟩ := by
  simp only [State.retireJob, h]
  rfl

theorem State.retireJournal_of_stored {s x : State} {r : RangeId} {c : RangeRec} (h : (x.range r).stored = some c)
    (hscrub : x.scrub = s.scrub) :
    (x.retireJournal r).1 =
      match s.scrub.job with
      | none => ⟨some ⟨.retire, some r, c.start * 8, (c.start + c.length) * 8, c.start * 8, false⟩, s.scrub.waiting⟩
      | some j => ⟨some j.journal, s.scrub.waiting ++ [r]⟩ := by
  rw [← hscrub, ← State.retireJob_of_stored h, State.retireJournal]
  cases x.scrub.job <;> rfl

/-- What RETIRE does to the rights, the lane and the epoch (R134). -/
def State.retireRights (s : State) (r : RangeId) : State := State.raiseIfMoved s (s.lockRange .both r)

theorem State.goRetire_of_refused {s : State} {r : RangeId}
    (h : ¬(s.custody.state.inUse = true ∧ s.rangeState r = some .active)) :
    s.goRetire r = s.answer .drive (.code .state) := by
  unfold State.goRetire
  by_cases hin : s.custody.state.inUse = true
  · rw [hin, if_neg (by decide), if_pos fun hactive => h ⟨hin, hactive⟩]
  · rw [Bool.eq_false_iff.2 hin]
    rfl

theorem State.goRetire_of_active {s : State} {r : RangeId} (huse : s.custody.state.inUse = true)
    (hactive : s.rangeState r = some .active) (hfree : s.refusesWrites [.retireGroup r] = none) :
    s.goRetire r =
      (s.retireRights r).commitRequest
        [retireGroupEntry r .void ((s.retireRights r).retireJournal r).1 ((s.retireRights r).retireJournal r).2
          [.rangeRetired r]] := by
  rw [State.goRetire, huse, if_neg (by decide), if_neg (not_not.2 hactive), hfree]
  rfl

theorem State.range_unbindRange (s : State) (r q : RangeId) :
    (s.unbindRange r).range q = if r = q then { s.range q with lane := none } else s.range q := by
  unfold State.unbindRange
  split
  · rw [State.range_setRange]
    split
    · rename_i hq
      rw [hq]
    · rfl
  · rename_i hnone
    split
    · rename_i hq
      rw [← hq, ← hnone]
    · rfl

theorem State.laneAt_unbindRange (s : State) (r : RangeId) (n : Nat) :
    (s.unbindRange r).laneAt n =
      if (s.range r).lane = some n then (s.laneAt n).map fun l => { l with range := none } else s.laneAt n := by
  unfold State.unbindRange
  split
  · rename_i m hm
    have hset (x : State) (e : RangeEntry) : (x.setRange r e).laneAt n = x.laneAt n := rfl
    rw [hset, State.laneAt_updLane, hm]
    simp
  · rename_i hnone
    rw [hnone, if_neg nofun]

/-- A range whose key is destroyed: VOID, its slot and its lane's binding empty (R135). -/
def State.rangeVoided (s : State) (r : RangeId) : State := ((s.eraseSlot r).setRangeState r .void).unbindRange r

theorem State.rangeVoided_frame (s : State) (r : RangeId) :
    ∃ l v, s.rangeVoided r =
      { s with
        ranges := v, lane := { s.lane with lanes := l }
        keys := s.keys.set r.val s.keys[r.val].erased r.isLt } := by
  obtain ⟨l, v, h⟩ := State.unbindRange_frame ((s.eraseSlot r).setRangeState r .void) r
  exact ⟨l, v, h⟩

theorem State.range_rangeVoided (s : State) (r q : RangeId) :
    (s.rangeVoided r).range q = if r = q then (s.range q).voided else s.range q := by
  have hstate : ((s.eraseSlot r).setRangeState r .void).range q =
      if r = q then (s.range q).edit fun c => { c with state := .void } else s.range q := by
    rw [State.setRangeState, State.editRange, State.range_setRange]
    split
    · rename_i hq
      rw [hq]
      rfl
    · rfl
  rw [State.rangeVoided, State.range_unbindRange, hstate]
  split <;> rfl

theorem State.laneAt_rangeVoided (s : State) (r : RangeId) (n : Nat) :
    (s.rangeVoided r).laneAt n =
      if (s.range r).lane = some n then (s.laneAt n).map fun l => { l with range := none } else s.laneAt n := by
  have hlane : (((s.eraseSlot r).setRangeState r .void).range r).lane = (s.range r).lane := by
    rw [State.setRangeState, State.editRange, State.range_setRange_self]
    rfl
  rw [State.rangeVoided, State.laneAt_unbindRange, hlane]
  rfl

/-- The end of a RETIRE, its reply apart (R135, R137). -/
def State.retired (s : State) (r : RangeId) : State :=
  if s.custody.state.erasedOrBeyond then s.rangeVoided r
  else { s.rangeVoided r with
    scrub := { s.scrub with waiting := s.scrub.waiting ++ [r] } }.nextJob

theorem State.rangeRetired_eq (s : State) (r : RangeId) :
    s.rangeRetired r = (s.retired r).answer .drive
      (.retired r (((s.retired r).scrub.job.map (·.journal.range)).getD none = some r) (s.retired r).scrub.waiting.length) := by
  obtain ⟨l, v, hframe⟩ := s.rangeVoided_frame r
  have hcustody : (s.rangeVoided r).custody = s.custody := by rw [hframe]
  have hscrub : (s.rangeVoided r).scrub = s.scrub := by rw [hframe]
  rw [State.retired, ← hcustody, ← hscrub]
  rfl

theorem State.nextJob_frame (s : State) : ∃ c, s.nextJob = { s with scrub := c } := by
  unfold State.nextJob
  split <;> exact ⟨_, rfl⟩

/-- All but the Scrub Controller is as the key's destruction leaves it. -/
theorem State.retired_frame (s : State) (r : RangeId) : ∃ c, s.retired r = { s.rangeVoided r with scrub := c } := by
  unfold State.retired
  split
  · exact ⟨_, rfl⟩
  · obtain ⟨c, h⟩ := State.nextJob_frame
      { s.rangeVoided r with scrub := { s.scrub with waiting := s.scrub.waiting ++ [r] } }
    exact ⟨c, h⟩

theorem State.scrub_retired_of_erased {s : State} (r : RangeId) (h : 2 ≤ s.custody.state.strength) :
    (s.retired r).scrub = s.scrub := by
  obtain ⟨l, v, hframe⟩ := s.rangeVoided_frame r
  rw [State.retired, Custody.erasedOrBeyond, if_pos (decide_eq_true h), hframe]

/-- With no job the range's own job begins (R135). -/
theorem State.scrub_retired_of_idle {s : State} {r : RangeId} (h : s.custody.state.strength < 2)
    (hjob : s.scrub.job = none) (hwaiting : s.scrub.waiting = []) :
    (s.retired r).scrub = { s.scrub with job := some (.ofJournal ((s.rangeVoided r).retireJob r)), waiting := [] } := by
  have hbelow : s.custody.state.erasedOrBeyond = false := decide_eq_false (Nat.not_le.2 h)
  simp [State.retired, hbelow, State.nextJob, hjob, hwaiting]
  rfl

/-- Behind another job the range waits (R135). -/
theorem State.scrub_retired_of_job {s : State} (r : RangeId) (h : s.custody.state.strength < 2) {q : Job}
    (hjob : s.scrub.job = some q) :
    (s.retired r).scrub = { s.scrub with waiting := s.scrub.waiting ++ [r] } := by
  have hbelow : s.custody.state.erasedOrBeyond = false := decide_eq_false (Nat.not_le.2 h)
  simp [State.retired, hbelow, State.nextJob, hjob]

/-- Settles O49: the owner's two cases, and the group's completion by the job that runs. -/
theorem retireDestroysARangeKey : Obligations.RetireDestroysARangeKey := by
  intro s tag r
  refine ⟨?refund, fun c j how hc h => ?completion⟩
  case refund =>
    intro x h inUse active s1
    have huse : inUse → s1.custody.state.inUse = true := Custody.inUse_iff.2
    refine ⟨fun hno => exec_refund_of_answer h ?_, fun c hin hc hactive hw => ?_⟩
    · exact State.goRetire_of_refused (s := s1) fun ⟨hin, hactive⟩ => hno ⟨Custody.inUse_iff.1 hin, hactive⟩
    · have hfree : s1.refusesWrites [.retireGroup r] = none :=
        State.refusesWrites_of_empty (s := s1) rfl h.2.2.2 hw _ (Nat.le_add_left 1 3)
      have hgo := State.goRetire_of_active (huse hin) ((State.rangeState_of_stored (s := s1) hc).trans (hactive ▸ rfl)) hfree
      obtain ⟨l, hlock⟩ := s1.lockRange_frame .both r
      obtain ⟨y, hy⟩ : ∃ y, y = s1.lockRange .both r := ⟨_, rfl⟩
      obtain ⟨b, hb⟩ : ∃ b, b = State.moved s1 y := ⟨_, rfl⟩
      have hrights : s1.retireRights r = State.raiseIf b y := by rw [hb, hy]; rfl
      rw [← hy] at hlock
      have hempty : (State.raiseIf b y).queue = [] ∧ (State.raiseIf b y).held = [] ∧
          (State.raiseIf b y).supplyWarning = false := by
        rw [State.raiseIf_eq, hlock]
        exact ⟨rfl, h.2.2.2, hw⟩
      rw [hrights] at hgo
      refine ⟨_, exec_refund_of_raisingCommit h
        (hgo.trans (State.commitRequest_one hempty.1 hempty.2.1 hempty.2.2 _)) (by rw [hlock]; rfl) (by rw [hlock]; rfl),
        ?range, fun q hq => ?others, fun n hn => ?lane, fun n hn => ?lanes, ?epoch, ?flight, ?slot, ?queue, ?frame⟩
      case range => exact (congrArg (State.range · r) hy).trans ((State.range_lockRange_both s1 r r).trans (if_pos rfl))
      case others => exact (congrArg (State.range · q) hy).trans ((State.range_lockRange_both s1 r q).trans (if_neg hq.symm))
      case lane => exact (congrArg (State.laneAt · n) hy).trans ((State.laneAt_lockRange_both s1 r n).trans (if_pos hn))
      case lanes => exact (congrArg (State.laneAt · n) hy).trans ((State.laneAt_lockRange_both s1 r n).trans (if_neg hn))
      case epoch =>
        have hset : (y.concealedSet = s.concealedSet) = (b = false) := by simp [hb, State.moved]; rfl
        have hepoch : y.epoch = s.epoch := by rw [hlock]; rfl
        change (if b then y.epoch + 1 else y.epoch) = if y.concealedSet = s.concealedSet then s.epoch else s.epoch + 1
        simp only [hset, hepoch]
        cases b <;> rfl
      case flight =>
        cases b
        · rfl
        · exact PortState.inFlight_push ..
      case slot =>
        cases b
        · exact h.1.2.1
        · exact (PortState.replySlot_push ..).trans h.1.2.1
      case queue =>
        have hstored : ((State.raiseIf b y).range r).stored = some c := by
          rw [State.range_raiseIf, hy, State.range_lockRange_both, if_pos rfl]
          exact hc
        have hscrub : (State.raiseIf b y).scrub = s.scrub := by
          rw [State.raiseIf_eq, hlock]
          rfl
        have hjournal := State.retireJournal_of_stored hstored hscrub
        exact ⟨((State.raiseIf b y).retireJournal r).2,
          congrArg (fun x => [retireGroupEntry r .void x ((State.raiseIf b y).retireJournal r).2 [.rangeRetired r]]) hjournal⟩
      case frame => rw [hlock]
  case completion =>
    obtain ⟨w, hw⟩ : ∃ w, w = s.written [.eraseKey r, .rangeState r .void, .journal j how] := ⟨_, rfl⟩
    obtain ⟨k, hretired⟩ := w.retired_frame r
    obtain ⟨l, v, hvoided⟩ := w.rangeVoided_frame r
    have hhas (q : RangeId) : (w.retired r).range q = if r = q then (s.range q).voided else s.range q := by
      rw [hretired, hw]
      exact State.range_rangeVoided ..
    have hlanes (n : Nat) : (w.retired r).laneAt n =
        if (s.range r).lane = some n then (s.laneAt n).map fun l => { l with range := none } else s.laneAt n := by
      rw [hretired, hw]
      exact State.laneAt_rangeVoided ..
    have hfields : (w.retired r).keys[r.val] = ⟨s.keys[r.val].generation, none⟩ ∧ (w.retired r).store.journal = j ∧
        (w.retired r).epoch = s.epoch ∧ (w.retired r).queue = [] ∧ (w.retired r).custody = s.custody ∧
        (w.retired r).drive = s.drive ∧ (w.retired r).platform = s.platform := by
      rw [hretired, hvoided, hw]
      refine ⟨?_, rfl, rfl, rfl, rfl, rfl, rfl⟩
      exact Vector.getElem_set_self ..
    obtain ⟨hkey, hjournal, hepoch, hqueue, hcustody, hdrive, hplatform⟩ := hfields
    have hexec := exec_completion_of_answer h
      ((congrArg (State.rangeRetired · r) hw.symm).trans (w.rangeRetired_eq r)) hdrive hplatform
    have hwscrub : w.scrub = s.scrub := by rw [hw]; rfl
    have hwcustody : w.custody = s.custody := by rw [hw]; rfl
    refine ⟨_, hexec, (hhas r).trans ?range, fun q hq => (hhas q).trans (if_neg hq.symm), hlanes, hkey, hjournal, hepoch,
      hqueue, hcustody, fun hbeyond hother => ?beyond, fun hbelow hjob hwaiting => ?idle, fun q hbelow hjob hother => ?behind⟩
    case range =>
      rw [if_pos rfl, RangeEntry.voided, hc]
      rfl
    case beyond =>
      have hscrub : (w.retired r).scrub = s.scrub :=
        (State.scrub_retired_of_erased r (hwcustody ▸ hbeyond)).trans hwscrub
      refine ⟨hscrub, ?_⟩
      have hcurrent : ¬(s.scrub.job.map (·.journal.range)).getD none = some r := by
        cases hjob : s.scrub.job with
        | none => exact nofun
        | some q => exact hother q hjob
      change s.drive.finished .retire tag _ = _
      rw [hscrub, decide_eq_false hcurrent]
    case idle =>
      have hjob' : (w.rangeVoided r).retireJob r =
          ⟨.retire, some r, c.start * 8, (c.start + c.length) * 8, c.start * 8, false⟩ := by
        refine State.retireJob_of_stored (c := { c with state := .void }) ?_
        rw [State.range_rangeVoided, if_pos rfl, hw]
        exact congrArg (Option.map fun c : RangeRec => { c with state := .void }) hc
      have hscrub := State.scrub_retired_of_idle (r := r) (hwcustody ▸ hbelow) (hwscrub ▸ hjob) (hwscrub ▸ hwaiting)
      rw [hjob'] at hscrub
      refine ⟨congrArg ScrubCtl.job hscrub, ?_⟩
      change s.drive.finished .retire tag _ = _
      rw [hscrub]
      simp [Job.ofJournal]
    case behind =>
      have hscrub : (w.retired r).scrub = { s.scrub with waiting := s.scrub.waiting ++ [r] } :=
        (State.scrub_retired_of_job r (hwcustody ▸ hbelow) (hwscrub ▸ hjob)).trans (by rw [hwscrub])
      refine ⟨hscrub, ?_⟩
      change s.drive.finished .retire tag _ = _
      rw [hscrub]
      simp [hjob, hother]

end Sys2Proof.Machine

/-!
PROOFS. PAIR (R114) and ENROL (R88): the refusals, the entries and their completions.
-/

namespace Sys2Proof.Machine

open Sys2Proof

/-! ## A secret's bytes -/

theorem leNat_lt (bs : List Byte) : leNat bs < 256 ^ bs.length := by
  induction bs with
  | nil => exact Nat.one_pos
  | cons b bs ih =>
    have hb : b.toNat < 256 := b.isLt
    rw [leNat, List.length_cons, Nat.pow_succ]
    omega

/-- 32 bytes are read as a secret without loss. -/
theorem toNat_secretAt_zero {pl : List Byte} (h : pl.length = 32) : (secretAt pl 0).toNat = leNat pl := by
  have htake : fieldAt pl 0 32 = leNat pl := by rw [fieldAt, List.drop_zero, List.take_of_length_le h.le]
  have hlt : leNat pl < 2 ^ 256 := by
    have := leNat_lt pl
    rwa [h] at this
  rw [secretAt, htake, BitVec.toNat_ofNat, Nat.mod_eq_of_lt hlt]

theorem secretBytes_secretAt_zero {pl : List Byte} (h : pl.length = 32) :
    secretBytes (secretAt pl 0) = leBytes 32 (leNat pl) := by
  rw [secretBytes, toNat_secretAt_zero h]

/-! ## A request that enters its commits -/

/-- A request whose owner has changed the state before its commits go in flight, with no notice. -/
theorem takeRequest_of_started {s x : State} {p : Port} (hs : s.Hears p) {k : ReqKind} {pl : List Byte}
    (h : frameRefusal s k p pl = none) {tag : Byte} {owner : State → State} {w : Work}
    (howner : owner (s.endTransaction p) = x.startWork k p tag w)
    (hd : x.drive = (s.endTransaction p).drive) (hp : x.platform = (s.endTransaction p).platform) :
    takeRequest k p tag pl owner s = x.setPort p ((s.port p).flying k tag w) := by
  have hstart : x.startWork k p tag w = x.setPort p ((s.port p).flying k tag w) := by
    cases p <;> simp only [State.startWork, State.port, hd, hp] <;> rfl
  refine takeRequest_of_quiet hs h tag (howner.trans hstart) fun p' => ?_
  cases p <;> cases p' <;> simp only [State.setPort, State.port, hd, hp] <;> exact Nat.le_refl _

/-- A write that no waiting entry holds takes a free entry (R152, R153). -/
theorem State.enter_of_apart {s : State} {w : Entry} (hh : s.held = []) (hw : ∀ e ∈ s.queue.tail, e.holds w.key = false)
    (hfree : nonFinal s.queue < 4) (earlier : List EntryKey) : s.enter earlier w = { s with queue := s.queue ++ [w] } := by
  have hroom : 0 < s.freeEntries := by
    simp only [State.freeEntries, hh, Config.queueCapacity]
    exact Nat.sub_pos_of_lt hfree
  simp only [State.enter, hh, splitLast_none hw, splitLast, if_pos hroom]

theorem nonFinal_le_length (q : List Entry) : nonFinal q ≤ q.length := List.length_filter_le ..

theorem State.enterAll_three_of_empty {s : State} (hq : s.queue = []) (hh : s.held = []) {u v w : Entry}
    (hv : v.holds w.key = false) : s.enterAll [u, v, w] = { s with queue := [u, v, w] } := by
  have htwo := State.enter_of_one (s := { s with queue := [u] }) rfl hh [u.key] v
  have hthree := State.enter_of_apart (s := { s with queue := [u, v] }) (w := w) hh
    (by simpa using hv) (Nat.lt_of_le_of_lt (nonFinal_le_length _) (by decide : 2 < 4)) [v.key, u.key]
  simp only [State.enterAll, List.foldl_cons, List.foldl_nil, State.enter_of_empty hq hh, htwo, hthree]
  rfl

/-- Too few free entries for writes that none merges (R153). -/
theorem State.refusesWrites_of_many {s : State} (hw : s.supplyWarning = false) {keys : List EntryKey}
    (hfull : 4 < nonFinal s.queue + keys.length ∨ s.held ≠ []) (hkeys : keys ≠ [])
    (h : ∀ k ∈ keys, s.willMerge k = false) : s.refusesWrites keys = some .busy := by
  have hall : (keys.filter fun k => !s.willMerge k) = keys := List.filter_eq_self.2 fun k hk => by rw [h k hk]; rfl
  have hpos := List.length_pos_of_ne_nil hkeys
  have hfree : s.freeEntries < keys.length := by
    unfold State.freeEntries
    split
    · rename_i hheld
      rcases hfull with hmany | hne
      · simp only [Config.queueCapacity]
        omega
      · exact absurd (List.isEmpty_iff.1 hheld) hne
    · exact hpos
  simp [State.refusesWrites, hw, hall, hfree]

/-! ## PAIR -/

/-- The commits of a PAIR (R114). -/
def State.pairCommits (s : State) (k : Secret) : List Entry :=
  if s.custody.state = .opened then [pairingEntry (some k) [.answer .platform .ok]]
  else [pairingEntry (some k) [], custodyEntry ((s.paired k).custodyRec true false) [.answer .platform .ok]]

theorem pairOwner_eq (tag : Byte) (pl : List Byte) (s : State) :
    pairOwner tag pl s =
      if ¬(s.custody.state = .opened ∨ s.custody.state = .guarded) then s.replyTo .pair .platform tag (.code .state)
      else if s.policy.frozen then s.replyTo .pair .platform tag (.code .frozen)
      else
        match s.refusesWrites ((s.pairCommits (Config.digest (secretBytes (secretAt pl 0)))).map (·.key)) with
        | some r => s.replyTo .pair .platform tag (.code r)
        | none =>
          ((s.paired (Config.digest (secretBytes (secretAt pl 0)))).enterAll
            (s.pairCommits (Config.digest (secretBytes (secretAt pl 0))))).startWork .pair .platform tag .committing := by
  simp only [pairOwner, Bool.not_eq_true', Bool.or_eq_false_iff, decide_eq_false_iff_not, not_or]
  rfl

theorem State.pairCommits_of_opened {s : State} (h : s.custody.state = .opened) (k : Secret) :
    s.pairCommits k = [pairingEntry (some k) [.answer .platform .ok]] := if_pos h

theorem State.pairCommits_of_guarded {s : State} (h : s.custody.state = .guarded) (k : Secret) :
    s.pairCommits k =
      [pairingEntry (some k) [],
       custodyEntry ⟨.guarded, 0, 0, true, s.custody.escalation, true, s.custody.target⟩ [.answer .platform .ok]] := by
  simp [State.pairCommits, h, State.custodyRec, State.paired, State.escalationCounting]

theorem State.paired_of_opened {s : State} (h : s.custody.state = .opened) (k : Secret) :
    s.paired k = { s with pairing := some k, custody := { s.custody with verdict := .paired } } := by
  simp [State.paired, h]

theorem State.paired_of_guarded {s : State} (h : s.custody.state = .guarded) (k : Secret) :
    s.paired k =
      { s with
        pairing := some k
        custody := { s.custody with verdict := .paired, checkin := 0, checkinSecs := 0, foreignCount := 0 } } := by
  simp [State.paired, h]

theorem pairOwner_of_commits {s : State} {pl : List Byte} {k : Secret} (hk : Config.digest (secretBytes (secretAt pl 0)) = k)
    (hstate : s.custody.state = .opened ∨ s.custody.state = .guarded) (hfree : s.policy.frozen = false) {ws : List Entry}
    (hcommits : s.pairCommits k = ws) (hlen : ws.length ≤ 4) (hq : s.queue = []) (hh : s.held = [])
    (hw : s.supplyWarning = false) (henter : (s.paired k).enterAll ws = { s.paired k with queue := ws }) (tag : Byte) :
    pairOwner tag pl s = { s.paired k with queue := ws }.startWork .pair .platform tag .committing := by
  have hnone := State.refusesWrites_of_empty hq hh hw (ws.map (·.key)) (by simpa using hlen)
  rw [pairOwner_eq, if_neg (not_not.2 hstate), if_neg (by simpa using hfree), hk, hcommits, hnone]
  exact congrArg (State.startWork · .pair .platform tag .committing) henter

/-- Settles O41: the owner's cases by the custody state, and the two completions. -/
theorem pairTiesTheDrive : Obligations.PairTiesTheDrive := by
  refine ⟨fun s tag pl hs hlen => ?taken, ?stored⟩
  case taken =>
    intro k answer flying pairing
    have hport : frameRefusal s .pair .platform pl = none :=
      frameRefusal_of_ready hs.2 rfl (by simp [admitsLength, hlen])
    have hanswer {r : Result} (howner : pairOwner tag pl (s.endTransaction .platform) =
        (s.endTransaction .platform).replyTo .pair .platform tag (.code r)) : exec (.pair .platform tag pl) s = answer r :=
      congrArg Host.Outcome.next (takeRequest_of_reply hs.1 hport howner)
    have hk : Config.digest (secretBytes (secretAt pl 0)) = k := congrArg Config.digest (secretBytes_secretAt_zero hlen)
    have howner := pairOwner_eq tag pl (s.endTransaction .platform)
    rw [hk] at howner
    refine ⟨fun ho hg => hanswer (howner.trans (if_pos (not_or.2 ⟨ho, hg⟩))), fun hstate => ⟨fun hfrozen => ?_, fun hfree hw => ?_⟩,
      fun hfree hw hq hh => ⟨fun ho => ?_, fun hg => ?_⟩⟩
    · exact hanswer (howner.trans ((if_neg (not_not.2 hstate)).trans (if_pos hfrozen)))
    · refine hanswer (howner.trans ((if_neg (not_not.2 hstate)).trans ((if_neg (by simpa using hfree)).trans ?_)))
      rw [State.refusesWrites_of_warning (s := s.endTransaction .platform) hw]
    · have howner := pairOwner_of_commits (s := s.endTransaction .platform) hk (.inl ho) hfree
        (State.pairCommits_of_opened (s := s.endTransaction .platform) ho k) (by decide : 1 ≤ 4) hq hh hw
        (State.enterAll_one_of_empty (s := (s.endTransaction .platform).paired k) hq hh _) tag
      rw [State.paired_of_opened (s := s.endTransaction .platform) ho] at howner
      exact congrArg Host.Outcome.next (takeRequest_of_started hs.1 hport howner rfl rfl)
    · have howner := pairOwner_of_commits (s := s.endTransaction .platform) hk (.inr hg) hfree
        (State.pairCommits_of_guarded (s := s.endTransaction .platform) hg k) (by decide : 2 ≤ 4) hq hh hw
        (State.enterAll_two_of_empty (s := (s.endTransaction .platform).paired k) hq hh _ _) tag
      rw [State.paired_of_guarded (s := s.endTransaction .platform) hg] at howner
      exact congrArg Host.Outcome.next (takeRequest_of_started hs.1 hport howner rfl rfl)
  case stored =>
    intro s tag k c ended
    exact ⟨fun h => exec_completion_of_answer h rfl rfl rfl, fun h => exec_completion_of_answer h rfl rfl rfl⟩

/-! ## ENROL -/

/-- The Administrator's record that ENROL writes (R88). -/
def enrolAdmin (s : State) (pl : List Byte) : AuthorityRec :=
  ⟨.active, some (Config.randomNonce s.draws), some (verifierOf (Config.randomNonce s.draws) (secretAt pl 0)), 10⟩

/-- The Custody record that ENROL writes (R88). -/
def State.enrolCustody (s : State) : CustodyRec :=
  { s with custody := { s.custody with state := .guarded } }.custodyRec false false

/-- The commits of an ENROL (R88). -/
def enrolCommits (s : State) (pl : List Byte) : List Entry :=
  [authorityEntry 0 (enrolAdmin s pl) [.authorityStored 0], triesEntry .clear [.triesStored],
   custodyEntry s.enrolCustody [.enrolled]]

theorem enrolOwner_of_refused {s : State} {r : Result} (ho : s.custody.state = .opened) (hg : s.geometry.isSome = true)
    (h : s.refusesWrites [.single (.authority 0), .single .tries, .single .custody] = some r) (tag : Byte)
    (pl : List Byte) : enrolOwner tag pl s = s.replyTo .enrol .drive tag (.code r) := by
  obtain ⟨g, hg⟩ := Option.isSome_iff_exists.1 hg
  simp only [enrolOwner, ho, hg, h]
  simp

theorem enrolOwner_of_admitted {s : State} (ho : s.custody.state = .opened) (hg : s.geometry.isSome = true)
    (hq : s.queue = []) (hh : s.held = []) (hw : s.supplyWarning = false) (tag : Byte) (pl : List Byte) :
    enrolOwner tag pl s =
      { s with draws := s.draws + 1, queue := enrolCommits s pl }.startWork .enrol .drive tag .committing := by
  have hnone := State.refusesWrites_of_empty hq hh hw [.single (.authority 0), .single .tries, .single .custody]
    (by decide : 3 ≤ 4)
  have hagain := State.refusesWrites_of_empty (s := { s with draws := s.draws + 1 }) hq hh hw
    ((enrolCommits s pl).map (·.key)) (by simp [enrolCommits])
  have henter : State.enterAll (enrolCommits s pl) { s with draws := s.draws + 1 } =
      { s with draws := s.draws + 1, queue := enrolCommits s pl } :=
    State.enterAll_three_of_empty (s := { s with draws := s.draws + 1 }) hq hh rfl
  have hgone : ¬(s.custody.state ≠ .opened ∨ s.geometry.isNone = true) := by
    rintro (h | h)
    · exact h ho
    · rw [Option.isNone_iff_eq_none.1 h] at hg
      cases hg
  rw [enrolOwner, if_neg hgone, hnone]
  refine Eq.trans (b := State.beginCommit { s with draws := s.draws + 1 } .enrol .drive tag (enrolCommits s pl)) rfl ?_
  rw [State.beginCommit, hagain, henter]

/-- Settles O27: the owner's refusals, its three entries, and the completion of the last. -/
theorem enrolGuardsTheDrive : Obligations.EnrolGuardsTheDrive := by
  intro s tag pl hlen n admin
  refine ⟨fun hs => ?taken, fun c h => exec_completion_of_answer h rfl rfl rfl⟩
  have hport : frameRefusal s .enrol .drive pl = none := frameRefusal_of_ready hs.2 rfl (by simp [admitsLength, hlen])
  have hanswer {r : Result} (howner : enrolOwner tag pl (s.endTransaction .drive) =
      (s.endTransaction .drive).replyTo .enrol .drive tag (.code r)) :
      exec (.enrol .drive tag pl) s = .next { s with drive := s.drive.answered .enrol tag (.code r) } :=
    congrArg Host.Outcome.next (takeRequest_of_reply hs.1 hport howner)
  refine ⟨fun hstate => hanswer (if_pos ?_), fun ho hg => ⟨fun hw => hanswer ?_, fun hw hfull hapart => hanswer ?_⟩,
    fun ho hg hw hq hh => ⟨s.enrolCustody, rfl, rfl, rfl, rfl, rfl, ?_⟩⟩
  · exact hstate.imp id Option.isNone_iff_eq_none.2
  · exact enrolOwner_of_refused (s := s.endTransaction .drive) ho hg
      (State.refusesWrites_of_warning (s := s.endTransaction .drive) hw _) ..
  · refine enrolOwner_of_refused (s := s.endTransaction .drive) ho hg
      (State.refusesWrites_of_many (s := s.endTransaction .drive) hw ?_ nofun ?_) ..
    · exact hfull.imp (fun h => Nat.add_lt_add_of_le_of_lt h (by decide : 2 < 3)) id
    · have hno {r : RecordId} (h : ∀ e ∈ s.queue.tail, ∀ x ∈ e.writes, x.record ≠ some r) :
          (s.endTransaction .drive).willMerge (.single r) = false :=
        State.willMerge_single (s := s.endTransaction .drive) h
      simp only [List.forall_mem_cons, List.not_mem_nil, false_implies, implies_true, and_true]
      exact ⟨hno fun e he x hx => (hapart e he x hx).1, hno fun e he x hx => (hapart e he x hx).2.1,
        hno fun e he x hx => (hapart e he x hx).2.2⟩
  · have howner := enrolOwner_of_admitted (s := s.endTransaction .drive) ho hg hq hh hw tag pl
    have hadmin : enrolAdmin s pl = admin := by
      rw [enrolAdmin, verifierOf, secretBytes_secretAt_zero hlen]
      rfl
    have hcommits : enrolCommits (s.endTransaction .drive) pl =
        [⟨.single (.authority 0), [.authority 0 admin], [.authorityStored 0]⟩,
         ⟨.single .tries, [.tries ⟨Vector.replicate 8 0, Vector.replicate 8 false, 0⟩], [.triesStored]⟩,
         ⟨.single .custody, [.custody s.enrolCustody], [.enrolled]⟩] := by
      rw [← hadmin]
      rfl
    rw [hcommits] at howner
    exact congrArg Host.Outcome.next (takeRequest_of_started hs.1 hport howner rfl rfl)

end Sys2Proof.Machine

/-!
PROOFS. The credentialed requests when they are taken (R75, R76): the parsers' cases, the gates in their order, and
the charge.
-/

namespace Sys2Proof.Machine

open Sys2Proof

/-! ## The gates and the charge -/

theorem gateRefusal_of_custody {s : State} (h : ¬(s.custody.state = .guarded ∨ s.custody.state = .warned))
    (hc : s.custody.state ≠ .concealed) (a : AuthId) : gateRefusal s a = some (.code .state) := by
  simp [gateRefusal, Custody.inUse_eq_false_iff.2 h, hc]

/-- The gates behind the one of custody (R75). -/
theorem gateRefusal_of_inUse {s : State}
    (h : (s.custody.state = .guarded ∨ s.custody.state = .warned) ∨ s.custody.state = .concealed) (a : AuthId) :
    gateRefusal s a =
      match s.authorityState a with
      | .unset => some (.code .denied)
      | .disabled => some (.code .denied)
      | .lockedOut => some (.code .lockedOut)
      | .active =>
        if s.backoff[a.val] ≠ 0 then some (.tooSoon s.backoff[a.val])
        else if s.custody.state = .concealed && a.val != 7 then some (.code .state)
        else none := by
  have hopen : (!(s.custody.state.inUse || decide (s.custody.state = .concealed))) = false := by
    rcases h with h | h
    · rw [Custody.inUse_iff.2 h]
      rfl
    · rw [h]
      rfl
  rw [gateRefusal, hopen]
  rfl

/-- A request that begins its check once taken, as the gates and the store let it (R75, R76). -/
theorem checks_of_owner {s : State} (hs : s.Ready .drive) {k : ReqKind} {tag : Byte} {pl : List Byte}
    (hport : frameRefusal s k .drive pl = none) {a : AuthId} {c : Secret} {req : CredReq} {owner : State → State}
    (howner : owner (s.endTransaction .drive) = (s.endTransaction .drive).beginCheck k tag a c req) :
    s.Checks k tag a c req (.next (takeRequest k .drive tag pl owner s)) := by
  have hrefused {b : ReplyBody} (hb : gateRefusal s a = some b) :
      Host.Outcome.next (takeRequest k .drive tag pl owner s) =
        (.next { s with drive := s.drive.answered k tag b } : Host.Outcome State Fault Refusal) := by
    refine congrArg Host.Outcome.next (takeRequest_of_reply hs.1 hport (howner.trans ?_))
    rw [State.beginCheck, show gateRefusal (s.endTransaction .drive) a = some b from hb]
  have hstore {r : Result} (hpass : gateRefusal s a = none) (hr : s.refusesWrites [.single .tries] = some r) :
      Host.Outcome.next (takeRequest k .drive tag pl owner s) =
        (.next { s with drive := s.drive.answered k tag (.code r) } : Host.Outcome State Fault Refusal) := by
    refine congrArg Host.Outcome.next (takeRequest_of_reply hs.1 hport (howner.trans ?_))
    rw [State.beginCheck, show gateRefusal (s.endTransaction .drive) a = none from hpass,
      show (s.endTransaction .drive).refusesWrites [.single .tries] = some r from hr]
  unfold State.Checks
  intro answer stored locked wait hidden inUse
  refine ⟨fun hno hshown => hrefused (gateRefusal_of_custody hno hshown a), fun hin => ?_⟩
  have hgate := gateRefusal_of_inUse hin a
  refine ⟨fun hunset => hrefused ?_, fun hactive => ⟨fun hlocked => hrefused ?_, fun hfree hwait => hrefused ?_,
    fun hfree hwait hhidden ha => hrefused ?_, fun hfree hwait hadmitted => ?_⟩⟩
  · rw [hgate]
    rcases hunset with h | h <;> simp only [State.authorityState, show s.authorities[a.val].stored = _ from h]
  · simp only [hgate, State.authorityState, show s.authorities[a.val].stored = _ from hactive,
      show s.tries.lockout[a.val] = true from hlocked, if_true]
  all_goals
    have hstate : s.authorityState a = .active := by
      simp [State.authorityState, show s.authorities[a.val].stored = _ from hactive,
        show s.tries.lockout[a.val] = false from hfree]
    rw [hstate] at hgate
  · exact hgate.trans (if_pos hwait)
  · have hseven : a.val ≠ 7 := fun h => ha (Fin.ext h)
    exact hgate.trans ((if_neg (not_not.2 hwait)).trans (if_pos (by simp [show s.custody.state = _ from hhidden, hseven])))
  · have hpass : gateRefusal s a = none := by
      refine hgate.trans ((if_neg (not_not.2 hwait)).trans (if_neg ?_))
      rcases hadmitted with h | h
      · rcases h with h | h <;> simp [h]
      · simp [h]
    refine ⟨fun hw => hstore hpass (State.refusesWrites_of_warning hw _), fun hw => ⟨fun hfull hno =>
      hstore hpass (State.refusesWrites_of_full hw hfull (State.willMerge_single hno)), fun hq hh => ?_⟩⟩
    refine congrArg Host.Outcome.next (takeRequest_of_started
      (x := { s.endTransaction .drive with queue := [triesEntry (s.chargedTries a) [.charged]] })
      hs.1 hport (howner.trans ?_) rfl rfl)
    rw [State.beginCheck, show gateRefusal (s.endTransaction .drive) a = none from hpass,
      State.refusesWrites_of_empty (s := s.endTransaction .drive) hq hh hw [.single .tries] (by decide : 1 ≤ 4)]
    exact congrArg (State.startWork · k .drive tag (.charging a c req))
      (State.enterAll_one_of_empty (s := s.endTransaction .drive) hq hh _)

/-- A request of the Administrator alone, once taken. -/
theorem admin_of_owner {α : Type} {s : State} (hs : s.Ready .drive) {k : ReqKind} {tag : Byte} {pl : List Byte}
    (hport : frameRefusal s k .drive pl = none) {owner : State → State} {parsed : Option α} {ready : Bool}
    {req : α → CredReq}
    (howner : owner (s.endTransaction .drive) = (s.endTransaction .drive).beginAdmin k tag pl parsed ready req)
    {legal geometry : Prop} (hlegal : parsed.isSome = true ↔ legal) (hready : ready = true ↔ geometry) :
    let o : Host.Outcome State Fault Refusal := .next (takeRequest k .drive tag pl owner s)
    let refuses (r : Result) : Prop := o = .next { s with drive := s.drive.answered k tag (.code r) }
    ((byteAt pl 0 ≠ 0 → refuses .denied) ∧ (byteAt pl 0 = 0 → ¬legal → refuses .badValue) ∧
      (byteAt pl 0 = 0 → legal → ¬geometry → refuses .state)) ∧
    ∀ x, parsed = some x → byteAt pl 0 = 0 → geometry →
      ∀ a : AuthId, byteAt pl 0 = a.val → s.Checks k tag a (secretAt pl 1) (req x) o := by
  intro o refuses
  have hrefused {r : Result} (h : (s.endTransaction .drive).beginAdmin k tag pl parsed ready req =
      (s.endTransaction .drive).replyTo k .drive tag (.code r)) : refuses r :=
    congrArg Host.Outcome.next (takeRequest_of_reply hs.1 hport (howner.trans h))
  refine ⟨⟨fun ha => hrefused (if_pos ha), fun ha hill => hrefused ?_, fun ha hleg hno => hrefused ?_⟩,
    fun x hx ha hgeo a hcaller => ?_⟩
  · rw [← hlegal, Option.not_isSome_iff_eq_none] at hill
    simp only [State.beginAdmin, authAt, ha, hill, ne_eq, not_true_eq_false, if_false]
  · obtain ⟨x, hx⟩ := Option.isSome_iff_exists.1 (hlegal.2 hleg)
    rw [← hready, Bool.not_eq_true] at hno
    simp only [State.beginAdmin, authAt, ha, hx, hno, ne_eq, not_true_eq_false, if_false, Bool.not_false, if_true]
  · have hzero : a = 0 := Fin.ext (hcaller.symm.trans ha)
    subst hzero
    refine checks_of_owner hs hport (howner.trans ?_)
    simp [State.beginAdmin, authAt, ha, hx, hready.2 hgeo]

/-! ## The parsers -/

theorem rangeIdOf_isSome (n : Nat) : (rangeIdOf n).isSome = true ↔ n < 16 := by
  unfold rangeIdOf
  split <;> simp [*]

theorem authIdOf_val (a : AuthId) : authIdOf a.val = some a := dif_pos a.isLt

theorem authIdOf_isSome (n : Nat) : (authIdOf n).isSome = true ↔ n < 8 := by
  unfold authIdOf
  split <;> simp [*]

/-- A code is one of its table's or above it. -/
theorem Level.ofCode_isSome (n : Nat) : (Level.ofCode n).isSome = true ↔ 1 ≤ n ∧ n ≤ 3 := by
  match n with
  | 0 | 1 | 2 | 3 => simp [Level.ofCode]
  | n + 4 => exact ⟨nofun, fun h => absurd h.2 (by omega)⟩

theorem Level.ofCode_rank (l : Level) : Level.ofCode l.rank = some l := by cases l <;> rfl

theorem Visibility.ofCode_isSome (n : Nat) : (Visibility.ofCode n).isSome = true ↔ n ≤ 1 := by
  match n with
  | 0 | 1 => simp [Visibility.ofCode]
  | n + 2 => exact ⟨nofun, fun h => absurd h (by omega)⟩

theorem SleepPolicy.ofCode_isSome (n : Nat) : (SleepPolicy.ofCode n).isSome = true ↔ n ≤ 1 := by
  match n with
  | 0 | 1 => simp [SleepPolicy.ofCode]
  | n + 2 => exact ⟨nofun, fun h => absurd h (by omega)⟩

theorem SecretAction.ofCode_isSome (n : Nat) : (SecretAction.ofCode n).isSome = true ↔ n ≤ 2 := by
  match n with
  | 0 | 1 | 2 => simp [SecretAction.ofCode]
  | n + 3 => exact ⟨nofun, fun h => absurd h (by omega)⟩

theorem Rights.ofCode_isSome (n : Nat) : (Rights.ofCode n).isSome = true ↔ 1 ≤ n ∧ n ≤ 3 := by
  rw [← not_iff_not, Option.not_isSome_iff_eq_none, Rights.ofCode_eq_none]

theorem parseExplicit_isSome (pl : List Byte) :
    (parseExplicit pl).isSome = true ↔ 1 ≤ byteAt pl 33 ∧ byteAt pl 33 < 16 := by
  by_cases h : byteAt pl 33 < 16
  · rw [parseExplicit, rangeIdOf, dif_pos h]
    by_cases h0 : byteAt pl 33 = 0
    · simp [h0]
    · simp [h0, h, Nat.one_le_iff_ne_zero]
  · rw [parseExplicit, rangeIdOf, dif_neg h]
    simp [h]

theorem parseExplicit_of_val {pl : List Byte} {r : RangeId} (hr : byteAt pl 33 = r.val) (h : r ≠ 0) :
    parseExplicit pl = some r := by
  rw [parseExplicit, hr, rangeIdOf_val]
  exact if_neg (val_ne_zero_iff.2 h)

theorem parseRange_of_val {pl : List Byte} {r : RangeId} (hr : byteAt pl 33 = r.val) : parseRange pl = some r := by
  rw [parseRange, hr, rangeIdOf_val]

theorem parseGrant_of_val {pl : List Byte} {r : RangeId} {b : AuthId} (hr : byteAt pl 33 = r.val)
    (hb : byteAt pl 34 = b.val) : parseGrant pl = some (r, b) := by
  rw [parseGrant, hr, hb, rangeIdOf_val, authIdOf_val]
  rfl

theorem parseRevoke_of_val {pl : List Byte} {r : RangeId} {b : AuthId} (hr : byteAt pl 33 = r.val)
    (hb : byteAt pl 34 = b.val) (h : b ≠ 0) : parseRevoke pl = some (r, b) := by
  rw [parseRevoke, parseGrant_of_val hr hb]
  exact if_neg fun h0 => h (Fin.ext h0)

theorem parseGrant_isSome (pl : List Byte) :
    (parseGrant pl).isSome = true ↔ byteAt pl 33 < 16 ∧ byteAt pl 34 < 8 := by
  rw [← rangeIdOf_isSome, ← authIdOf_isSome, parseGrant]
  cases rangeIdOf (byteAt pl 33) <;> cases authIdOf (byteAt pl 34) <;> simp

theorem parseRevoke_isSome (pl : List Byte) :
    (parseRevoke pl).isSome = true ↔ byteAt pl 33 < 16 ∧ 1 ≤ byteAt pl 34 ∧ byteAt pl 34 < 8 := by
  by_cases h : byteAt pl 33 < 16 ∧ byteAt pl 34 < 8
  · obtain ⟨h33, h34⟩ := h
    rw [parseRevoke, parseGrant_of_val (r := ⟨byteAt pl 33, h33⟩) (b := ⟨byteAt pl 34, h34⟩) rfl rfl]
    by_cases h0 : byteAt pl 34 = 0
    · simp [h0]
    · simp [h0, h33, h34, Nat.one_le_iff_ne_zero]
  · have hnone : parseGrant pl = none := by rwa [← parseGrant_isSome, Option.not_isSome_iff_eq_none] at h
    rw [parseRevoke, hnone]
    exact ⟨nofun, fun ⟨h33, _, h34⟩ => absurd ⟨h33, h34⟩ h⟩

theorem Visibility.ofCode_eq_some {n : Nat} {x : Visibility} :
    Visibility.ofCode n = some x ↔ n = match x with | .shown => 0 | .hiddenWhileLocked => 1 := by
  match n with
  | 0 | 1 => cases x <;> simp [Visibility.ofCode]
  | n + 2 => cases x <;> simp [Visibility.ofCode]

theorem SleepPolicy.ofCode_eq_some {n : Nat} {x : SleepPolicy} :
    SleepPolicy.ofCode n = some x ↔ n = match x with | .lockOnStandby => 0 | .keep => 1 := by
  match n with
  | 0 | 1 => cases x <;> simp [SleepPolicy.ofCode]
  | n + 2 => cases x <;> simp [SleepPolicy.ofCode]

theorem parseSetRange_of_codes {pl : List Byte} {r : RangeId} {x : Visibility} {p : SleepPolicy}
    (hr : rangeIdOf (byteAt pl 33) = some r) (hx : Visibility.ofCode (byteAt pl 44) = some x)
    (hp : SleepPolicy.ofCode (byteAt pl 45) = some p) :
    parseSetRange pl =
      if byteAt pl 33 = 0 ∧ ¬(fieldAt pl 34 5 = 0 ∧ fieldAt pl 39 5 = 0 ∧ byteAt pl 44 = 0) then none
      else some (r, fieldAt pl 34 5, fieldAt pl 39 5, x, p) := by
  have hval : r.val = byteAt pl 33 := by
    unfold rangeIdOf at hr
    split at hr
    · cases hr
      rfl
    · cases hr
  have hshown : (x = .shown) = (byteAt pl 44 = 0) := by
    rw [Visibility.ofCode_eq_some.1 hx]
    cases x <;> simp
  rw [parseSetRange, hr, hx, hp]
  simp only [Option.pure_def, Option.bind_eq_bind, Option.bind_some, hval, hshown]

theorem parseSetRange_isSome (pl : List Byte) :
    (parseSetRange pl).isSome = true ↔ byteAt pl 33 < 16 ∧ byteAt pl 44 ≤ 1 ∧ byteAt pl 45 ≤ 1 ∧
      (byteAt pl 33 = 0 → fieldAt pl 34 5 = 0 ∧ fieldAt pl 39 5 = 0 ∧ byteAt pl 44 = 0) := by
  rw [← rangeIdOf_isSome, ← Visibility.ofCode_isSome, ← SleepPolicy.ofCode_isSome]
  cases hr : rangeIdOf (byteAt pl 33) with
  | none => simp [parseSetRange, hr]
  | some r =>
    cases hx : Visibility.ofCode (byteAt pl 44) with
    | none => simp [parseSetRange, hr, hx]
    | some x =>
      cases hp : SleepPolicy.ofCode (byteAt pl 45) with
      | none => simp [parseSetRange, hr, hx, hp]
      | some p =>
        rw [parseSetRange_of_codes hr hx hp]
        by_cases h0 : byteAt pl 33 = 0 ∧ ¬(fieldAt pl 34 5 = 0 ∧ fieldAt pl 39 5 = 0 ∧ byteAt pl 44 = 0)
        · rw [if_pos h0]
          exact ⟨nofun, fun h => absurd (h.2.2.2 h0.1) h0.2⟩
        · rw [if_neg h0]
          exact ⟨fun _ => ⟨rfl, rfl, rfl, fun h => not_not.1 fun hno => h0 ⟨h, hno⟩⟩, fun _ => rfl⟩

/-- A parser of one field after another reads both. -/
theorem isSome_bind_iff {α β : Type} {o : Option α} {f : α → Option β} {P Q : Prop} (ho : o.isSome = true ↔ P)
    (hf : ∀ a, (f a).isSome = true ↔ Q) : (o.bind f).isSome = true ↔ P ∧ Q := by
  cases o with
  | none => exact ⟨nofun, fun h => ho.2 h.1⟩
  | some a => exact ⟨fun h => ⟨ho.1 rfl, (hf a).1 h⟩, fun h => (hf a).2 h.2⟩

theorem parsePolicy_isSome (pl : List Byte) :
    (parsePolicy pl).isSome = true ↔ (∀ i, 33 ≤ i → i ≤ 37 → 1 ≤ byteAt pl i ∧ byteAt pl i ≤ 3) ∧ byteAt pl 47 ≤ 2 ∧
      fieldAt pl 44 2 ≠ 0 ∧ byteAt pl 46 ≠ 0 := by
  have hlevels : (∀ i, 33 ≤ i → i ≤ 37 → 1 ≤ byteAt pl i ∧ byteAt pl i ≤ 3) ↔
      (1 ≤ byteAt pl 33 ∧ byteAt pl 33 ≤ 3) ∧ (1 ≤ byteAt pl 34 ∧ byteAt pl 34 ≤ 3) ∧
        (1 ≤ byteAt pl 35 ∧ byteAt pl 35 ≤ 3) ∧ (1 ≤ byteAt pl 36 ∧ byteAt pl 36 ≤ 3) ∧
        (1 ≤ byteAt pl 37 ∧ byteAt pl 37 ≤ 3) := by
    refine ⟨fun h => ⟨h 33 ?_ ?_, h 34 ?_ ?_, h 35 ?_ ?_, h 36 ?_ ?_, h 37 ?_ ?_⟩, fun ⟨h3, h4, h5, h6, h7⟩ i hlo hhi => ?_⟩
    all_goals try decide
    obtain rfl | rfl | rfl | rfl | rfl : i = 33 ∨ i = 34 ∨ i = 35 ∨ i = 36 ∨ i = 37 := by omega
    all_goals assumption
  have hlimits (l1 l2 l3 l4 l5 : Level) (x : SecretAction) :
      (if min (fieldAt pl 44 2) 255 = 0 ∨ min (byteAt pl 46) 15 = 0 then none
        else some (PolicyValues.mk l1 l2 l3 l4 l5 (min (fieldAt pl 38 2) 720) (min (fieldAt pl 40 2) 720)
          (min (fieldAt pl 42 2) 720) (min (fieldAt pl 44 2) 255) (min (byteAt pl 46) 15) x
          (secretAt pl 48))).isSome = true ↔ fieldAt pl 44 2 ≠ 0 ∧ byteAt pl 46 ≠ 0 := by
    split <;> simp <;> omega
  have hparse := isSome_bind_iff (Level.ofCode_isSome (byteAt pl 33)) fun l1 =>
    isSome_bind_iff (Level.ofCode_isSome (byteAt pl 34)) fun l2 =>
    isSome_bind_iff (Level.ofCode_isSome (byteAt pl 35)) fun l3 =>
    isSome_bind_iff (Level.ofCode_isSome (byteAt pl 36)) fun l4 =>
    isSome_bind_iff (Level.ofCode_isSome (byteAt pl 37)) fun l5 =>
    isSome_bind_iff (SecretAction.ofCode_isSome (byteAt pl 47)) fun x => hlimits l1 l2 l3 l4 l5 x
  rw [hlevels]
  simp only [and_assoc] at hparse ⊢
  exact hparse

theorem SecretAction.ofCode_code (x : SecretAction) :
    SecretAction.ofCode (match x with | .keep => 0 | .set => 1 | .remove => 2) = some x := by
  cases x <;> rfl

theorem parseSetAuthority_of_codes {op : AuthorityOp} {pl : List Byte} {a t : AuthId} (ha : byteAt pl 0 = a.val)
    (ht : byteAt pl 33 = t.val) (hop : AuthorityOp.ofCode (byteAt pl 34) = some op)
    (hlimit : ¬(op = .limit ∧ byteAt pl 35 = 0)) (hdisable : ¬(op = .disable ∧ byteAt pl 33 = 0)) :
    parseSetAuthority op pl = some (a, secretAt pl 1, t, secretAt pl 35, min (byteAt pl 35) 31) := by
  rw [ht] at hdisable
  rw [parseSetAuthority, ha, ht, hop, authIdOf_val, authIdOf_val]
  simp only [Option.bind_eq_bind, Option.bind_some, if_neg hlimit, if_neg hdisable, Option.pure_def]

theorem AuthorityOp.ofCode_code (op : AuthorityOp) :
    AuthorityOp.ofCode (match op with
      | .credential => 1 | .limit => 2 | .enable => 3 | .disable => 4 | .reinstate => 5) = some op := by
  cases op <;> rfl

theorem AuthorityOp.ofCode_eq_none {n : Nat} (h : n < 1 ∨ 5 < n) : AuthorityOp.ofCode n = none := by
  match n with
  | 0 => rfl
  | 1 | 2 | 3 | 4 | 5 => omega
  | n + 6 => rfl

theorem parseSetAuthority_eq_none {op : AuthorityOp} {pl : List Byte}
    (h : AuthorityOp.ofCode (byteAt pl 34) = none ∨ ¬(byteAt pl 0 < 8 ∧ byteAt pl 33 < 8 ∧
      ¬(op = .limit ∧ byteAt pl 35 = 0) ∧ ¬(op = .disable ∧ byteAt pl 33 = 0))) : parseSetAuthority op pl = none := by
  by_cases h0 : byteAt pl 0 < 8
  · by_cases h33 : byteAt pl 33 < 8
    · rw [parseSetAuthority, authIdOf, dif_pos h0, authIdOf, dif_pos h33]
      cases hop : AuthorityOp.ofCode (byteAt pl 34) with
      | none => rfl
      | some x =>
        have hill : (op = .limit ∧ byteAt pl 35 = 0) ∨ op = .disable ∧ byteAt pl 33 = 0 := by
          rcases h with h | h
          · rw [hop] at h
            cases h
          · tauto
        simp only [Option.bind_eq_bind, Option.bind_some]
        split
        · rfl
        · rename_i hlimit
          exact if_pos (hill.resolve_left hlimit)
    · rw [parseSetAuthority, show authIdOf (byteAt pl 33) = none from dif_neg h33]
      cases authIdOf (byteAt pl 0) <;> rfl
  · rw [parseSetAuthority, show authIdOf (byteAt pl 0) = none from dif_neg h0]
    rfl

theorem parseUnlock_of_legal {pl : List Byte} {a : AuthId} {w : Rights} {list : List RangeId} (ha : byteAt pl 0 = a.val)
    (hw : Rights.ofCode (byteAt pl 33) = some w) (hlist : workingList (pl.drop 35) = some list) :
    parseUnlock pl = some (a, secretAt pl 1, w, list) := by
  rw [parseUnlock, ha, authIdOf_val, hw, hlist]
  rfl

theorem parseUnlock_eq_none {pl : List Byte}
    (h : authIdOf (byteAt pl 0) = none ∨ Rights.ofCode (byteAt pl 33) = none ∨ workingList (pl.drop 35) = none) :
    parseUnlock pl = none := by
  rw [parseUnlock]
  rcases h with h | h | h
  · rw [h]
    rfl
  · rw [h]
    cases authIdOf (byteAt pl 0) <;> rfl
  · rw [h]
    cases authIdOf (byteAt pl 0) <;> cases Rights.ofCode (byteAt pl 33) <;> rfl

/-! ## The requests -/

/-- Settles O24: the five rows of one kind. -/
theorem setAuthorityIsCharged : Obligations.SetAuthorityIsCharged := by
  intro s tag pl hs hlen v secret refuses
  have hport : frameRefusal s .setAuthority .drive pl = none :=
    frameRefusal_of_ready hs.2 rfl (by simp [admitsLength, hlen])
  have hexec (op : AuthorityOp) : exec (match op with
      | .credential => .setAuthorityCredential .drive tag pl
      | .limit => .setAuthorityLimit .drive tag pl
      | .enable => .setAuthorityEnable .drive tag pl
      | .disable => .setAuthorityDisable .drive tag pl
      | .reinstate => .setAuthorityReinstate .drive tag pl) s =
        .next (takeRequest .setAuthority .drive tag pl (setAuthorityOwner op tag pl) s) := by
    cases op <;> rfl
  have hill {op : AuthorityOp} (hnone : parseSetAuthority op pl = none) :
      refuses (.next (takeRequest .setAuthority .drive tag pl (setAuthorityOwner op tag pl) s)) .badValue := by
    have howner (x : State) : setAuthorityOwner op tag pl x = x.replyTo .setAuthority .drive tag (.code .badValue) := by
      simp only [setAuthorityOwner, hnone]
    exact congrArg Host.Outcome.next (takeRequest_of_reply hs.1 hport (howner _))
  refine ⟨fun hop => hill (op := .credential) (parseSetAuthority_eq_none (.inl (AuthorityOp.ofCode_eq_none hop))),
    fun op hop => ?_⟩
  intro o legal mayCall
  have ho : o = .next (takeRequest .setAuthority .drive tag pl (setAuthorityOwner op tag pl) s) := hexec op
  rw [ho]
  have hcode : AuthorityOp.ofCode (byteAt pl 34) = some op :=
    (congrArg AuthorityOp.ofCode hop).trans op.ofCode_code
  have hparse (hleg : legal) {a t : AuthId} (ha : v 0 = a.val) (ht : v 33 = t.val) :
      parseSetAuthority op pl = some (a, secretAt pl 1, t, secretAt pl 35, min (byteAt pl 35) 31) :=
    parseSetAuthority_of_codes ha ht hcode hleg.2.2.1 hleg.2.2.2
  refine ⟨fun hbad => hill (parseSetAuthority_eq_none (.inr hbad)), fun hleg hno => ?_, fun a t hleg hmay ha ht => ?_⟩
  · have hp := hparse hleg (a := ⟨v 0, hleg.1⟩) (t := ⟨v 33, hleg.2.1⟩) rfl rfl
    have howner (x : State) : setAuthorityOwner op tag pl x = x.replyTo .setAuthority .drive tag (.code .denied) := by
      simp only [setAuthorityOwner, hp]
      refine if_pos ⟨fun h => hno (.inl h), fun ⟨h, hcred⟩ => hno (.inr ⟨hcred, Fin.mk.inj h⟩)⟩
    exact congrArg Host.Outcome.next (takeRequest_of_reply hs.1 hport (howner _))
  · refine checks_of_owner hs hport ?_
    simp only [setAuthorityOwner, hparse hleg ha ht]
    refine if_neg fun ⟨hne, hno⟩ => ?_
    rcases hmay with h0 | ⟨hcred, hsame⟩
    · exact hne (ha ▸ h0)
    · exact hno ⟨Fin.ext (ht.symm.trans (hsame.trans ha)), hcred⟩

/-- Settles O23: each request's own checks over its payload, then the gates and the charge. -/
theorem credentialedRequestsAreCharged : Obligations.CredentialedRequestsAreCharged := by
  intro s tag pl hs v field secret refuses checks admin ready
  have hport {k : ReqKind} (hserved : servedOn k .drive = true) (hlen : admitsLength k pl = true) :
      frameRefusal s k .drive pl = none := frameRefusal_of_ready hs.2 hserved hlen
  refine ⟨fun a => ?charge, fun hmin hlen => ?unlock, fun hlen => ?setRange, fun hlen => ?ranges, fun hlen => ?members,
    fun hlen => ?freeze, fun hlen => ?policy⟩
  case charge =>
    refine ⟨rfl, rfl, fun b hb => ?_, fun hclear => ?_⟩
    · exact Vector.getElem_set_ne a.isLt b.isLt fun h => hb (Fin.ext h.symm)
    · have hmark : (s.chargedTries a).lockout[a.val] = (s.tries.lockout[a.val] ||
          (decide (min (s.tries.failures[a.val] + 1) s.authorities[a.val].tryLimit = s.authorities[a.val].tryLimit) &&
            a.val != 0)) := Vector.getElem_set_self ..
      rw [hmark, hclear, Bool.false_or, Bool.and_eq_true, decide_eq_true_iff, bne_iff_ne]
      exact and_congr_right fun _ => not_congr (Fin.ext_iff (b := 0)).symm
  case unlock =>
    intro o ids legal
    have hdrop : (pl.drop 35).length = v 34 := by
      rw [List.length_drop]
      omega
    have hframe := hport (k := .unlock) rfl (by simpa [admitsLength, hmin] using hlen)
    have hlist : legal ↔ v 0 < 8 ∧ (1 ≤ v 33 ∧ v 33 ≤ 3) ∧
        (1 ≤ (pl.drop 35).length ∧ (pl.drop 35).length ≤ 16) ∧ ∀ i ∈ (pl.drop 35).map (fun b => b.toNat), i < 16 := by
      rw [hdrop]
    refine ⟨fun hbad => ?_, fun w list hleg hw hl a ha => checks_of_owner hs hframe ?_⟩
    · have hnone : parseUnlock pl = none := by
        refine parseUnlock_eq_none ?_
        rw [← Option.not_isSome_iff_eq_none, authIdOf_isSome, Rights.ofCode_eq_none]
        by_contra hall
        simp only [not_or, not_not] at hall
        obtain ⟨h0, h33, hsome⟩ := hall
        exact hsome (workingList_eq_none fun h => hbad (hlist.2 ⟨h0, h33, h⟩))
      have howner (x : State) : unlockOwner tag pl x = x.replyTo .unlock .drive tag (.code .badValue) := by
        simp only [unlockOwner, hnone]
      exact congrArg Host.Outcome.next (takeRequest_of_reply hs.1 hframe (howner _))
    · obtain ⟨-, -, hn, hids⟩ := hlist.1 hleg
      simp only [unlockOwner, parseUnlock_of_legal ha ((congrArg Rights.ofCode hw).trans w.ofCode_code)
        (workingList_eq_some hn hids hl)]
      rfl
  case setRange =>
    have hadmin := admin_of_owner (tag := tag) hs (hport (k := .setRange) rfl (by simp [admitsLength, hlen]))
      (owner := setRangeOwner tag pl) rfl (parseSetRange_isSome pl) (geometry := ready) Iff.rfl
    refine ⟨hadmin.1, fun r x p h0 hleg hready hr hx hp => hadmin.2 (r, _, _, x, p) ?_ h0 hready⟩
    rw [parseSetRange_of_codes (hr ▸ rangeIdOf_val r) (Visibility.ofCode_eq_some.2 hx) (SleepPolicy.ofCode_eq_some.2 hp)]
    exact if_neg fun ⟨hz, hno⟩ => hno (hleg.2.2.2 hz)
  case ranges =>
    intro explicit drop retire rekey wipe
    have hdrop := admin_of_owner (tag := tag) hs (hport (k := .dropRange) rfl (by simp [admitsLength, hlen]))
      (owner := dropRangeOwner tag pl) rfl (parseExplicit_isSome pl) (geometry := ready) Iff.rfl
    have hretire := admin_of_owner (tag := tag) hs (hport (k := .retire) rfl (by simp [admitsLength, hlen]))
      (owner := retireOwner tag pl) rfl (parseExplicit_isSome pl) (geometry := ready) Iff.rfl
    have hrekey := admin_of_owner (tag := tag) hs (hport (k := .rekey) rfl (by simp [admitsLength, hlen]))
      (owner := rekeyOwner tag pl) rfl (rangeIdOf_isSome (v 33)) (geometry := ready) Iff.rfl
    refine ⟨hdrop.1, hretire.1, hrekey.1, fun r h0 hr hready => ⟨fun hne =>
      ⟨hdrop.2 r (parseExplicit_of_val hr hne) h0 hready, hretire.2 r (parseExplicit_of_val hr hne) h0 hready⟩,
      hrekey.2 r (parseRange_of_val hr) h0 hready⟩, ?_⟩
    have hframe := hport (k := .wipe) rfl (by simp [admitsLength, hlen])
    have hwipe {r : Result} (howner : wipeOwner tag pl (s.endTransaction .drive) =
        (s.endTransaction .drive).replyTo .wipe .drive tag (.code r)) : refuses wipe .wipe r :=
      congrArg Host.Outcome.next (takeRequest_of_reply hs.1 hframe howner)
    have hauth {a : AuthId} (ha : v 0 = a.val) : authIdOf (authAt pl).1 = some a :=
      (congrArg authIdOf ha).trans (authIdOf_val a)
    have hmay {a : AuthId} (ha : v 0 = a.val) (h : v 0 = 0 ∨ v 0 = 7) : ¬(a.val ≠ 0 ∧ a.val ≠ 7) := by omega
    refine ⟨fun hn0 hn7 => hwipe ?_, fun h07 => ⟨fun hlevel => hwipe ?_, fun l hl a ha => checks_of_owner hs hframe ?_⟩⟩
    · cases ha : authIdOf (authAt pl).1 with
      | none => simp only [wipeOwner, ha]
      | some a =>
        have hval : v 0 = a.val := by
          unfold authIdOf at ha
          split at ha
          · cases ha
            rfl
          · cases ha
        simp only [wipeOwner, ha]
        exact if_pos ⟨hval ▸ hn0, hval ▸ hn7⟩
    · have hlt : v 0 < 8 := by omega
      have hnone : parseWipe pl = none := by
        rwa [← Level.ofCode_isSome, Option.not_isSome_iff_eq_none] at hlevel
      simp only [wipeOwner, hauth (a := ⟨v 0, hlt⟩) rfl, hnone]
      exact if_neg (hmay (a := ⟨v 0, hlt⟩) rfl h07)
    · have hparse : parseWipe pl = some l := (congrArg Level.ofCode hl).trans l.ofCode_rank
      simp only [wipeOwner, hauth ha, hparse]
      exact if_neg (hmay ha h07)
  case members =>
    intro grant revoke
    have hgrant := admin_of_owner (tag := tag) hs (hport (k := .grant) rfl (by simp [admitsLength, hlen]))
      (owner := grantOwner tag pl) rfl (parseGrant_isSome pl) (geometry := ready) Iff.rfl
    have hrevoke := admin_of_owner (tag := tag) hs (hport (k := .revoke) rfl (by simp [admitsLength, hlen]))
      (owner := revokeOwner tag pl) rfl (parseRevoke_isSome pl) (geometry := ready) Iff.rfl
    exact ⟨hgrant.1, hrevoke.1, fun r b h0 hr hb hready => ⟨hgrant.2 (r, b) (parseGrant_of_val hr hb) h0 hready,
      fun hne => hrevoke.2 (r, b) (parseRevoke_of_val hr hb hne) h0 hready⟩⟩
  case freeze =>
    intro freeze
    have hfreeze := admin_of_owner (tag := tag) hs (hport (k := .freezePolicy) rfl (by simp [admitsLength, hlen]))
      (owner := freezePolicyOwner tag pl) rfl (legal := True) (by simp) (geometry := True) (by simp)
    exact ⟨hfreeze.1.1, fun h0 => hfreeze.2 () rfl h0 trivial⟩
  case policy =>
    intro o legal
    have hpolicy := admin_of_owner (tag := tag) hs (hport (k := .setPolicy) rfl (by simp [admitsLength, hlen]))
      (owner := setPolicyOwner tag pl) rfl (parsePolicy_isSome pl) (geometry := True) (by simp)
    refine ⟨hpolicy.1, fun p hleg h33 h34 h35 h36 h37 hperiod hmargin hhold htries hforeign haction hsecret h0 =>
      hpolicy.2 p ?_ h0 trivial⟩
    have hcode {i : Nat} {l : Level} (h : v i = l.rank) : Level.ofCode (byteAt pl i) = some l :=
      (congrArg Level.ofCode h).trans l.ofCode_rank
    have htries0 : ¬(min (fieldAt pl 44 2) 255 = 0 ∨ min (byteAt pl 46) 15 = 0) := by
      obtain ⟨-, -, h44, h46⟩ := hleg
      have h44 : fieldAt pl 44 2 ≠ 0 := h44
      have h46 : byteAt pl 46 ≠ 0 := h46
      omega
    rw [parsePolicy, hcode h33, hcode h34, hcode h35, hcode h36, hcode h37,
      show SecretAction.ofCode (byteAt pl 47) = some p.action from
        (congrArg SecretAction.ofCode haction).trans p.action.ofCode_code]
    simp only [Option.bind_eq_bind, Option.bind_some, if_neg htries0, Option.pure_def, Option.some.injEq]
    obtain ⟨l1, l2, l3, l4, l5, period, margin, hold, tries, foreign, action, x⟩ := p
    cases show period = _ from hperiod
    cases show margin = _ from hmargin
    cases show hold = _ from hhold
    cases show tries = _ from htries
    cases show foreign = _ from hforeign
    cases show x = _ from hsecret
    rfl

end Sys2Proof.Machine

/-!
PROOFS. UNLOCK at its refund (R90 to R95): each range of the list in its order, one range's outcome, and the recovery
of R127.
-/

namespace Sys2Proof.Machine

open Sys2Proof

/-! ## A refund whose event queues notices -/

/-- A request in flight answered into its empty slot, behind notices that carry the custody state of the event's end. -/
theorem State.sealEvent_answer_of_adds {s x : State} {k : ReqKind} {tag : Byte} {w : Work}
    (hflight : x.drive.inFlight = some ⟨k, tag, w⟩) (hslot : x.drive.replySlot = none)
    (hd : s.drive.Adds x.custody.state x.drive) (hp : s.platform.Adds x.custody.state x.platform) (b : ReplyBody) :
    State.sealEvent s (x.answer .drive b) = { x with drive := x.drive.finished k tag b } := by
  rw [State.answer_of_empty (p := .drive) hflight hslot]
  exact State.sealEvent_of_adds (s := { x with drive := x.drive.finished k tag b }) hd hp

theorem PortState.finished_push (q : PortState) (n : Notice) (k : ReqKind) (tag : Byte) (b : ReplyBody) :
    (q.push n).finished k tag b = (q.finished k tag b).push n := q.push_finished ..

/-- A request answered at its refund, behind the notices of the same event. -/
theorem exec_refund_of_event {s : State} {k : ReqKind} {tag : Byte} {a : AuthId} {req : CredReq} {t : TriesRec}
    (h : s.AtRefund k tag a req t) {x : State} {b : ReplyBody}
    (hgo : (s.refundTaken a t).afterCheck a req = x.answer .drive b)
    (hflight : x.drive.inFlight = s.drive.inFlight) (hslot : x.drive.replySlot = s.drive.replySlot)
    (hd : s.drive.Adds x.custody.state x.drive) (hp : s.platform.Adds x.custody.state x.platform) :
    exec .commitComplete s = .next { x with drive := x.drive.finished k tag b } := by
  rw [exec_commitComplete_of_refund h, hgo]
  exact congrArg Host.Outcome.next
    (State.sealEvent_answer_of_adds (hflight.trans h.2.1) (hslot.trans h.1.2.1) hd hp b)

/-- The same where a conditional increment of the epoch is the event's only notice. -/
theorem exec_refund_of_raisingAnswer {s : State} {k : ReqKind} {tag : Byte} {a : AuthId} {req : CredReq} {t : TriesRec}
    (h : s.AtRefund k tag a req t) {x : State} {c : Bool} {b : ReplyBody}
    (hgo : (s.refundTaken a t).afterCheck a req = (State.raiseIf c x).answer .drive b)
    (hd : x.drive = s.drive) (hp : x.platform = s.platform) :
    exec .commitComplete s =
      .next { x with
        epoch := if c then x.epoch + 1 else x.epoch
        drive :=
          let q := s.drive.finished k tag b
          if c then q.push (changed (x.epoch + 1) x.custody.state) else q } := by
  have hadds : s.drive.Adds (State.raiseIf c x).custody.state (State.raiseIf c x).drive :=
    PortState.Adds.raiseIf (.of_same (by rw [hd])) c
  have hflight : (State.raiseIf c x).drive.inFlight = s.drive.inFlight := by
    rw [← hd]
    cases c
    · rfl
    · exact PortState.inFlight_push ..
  have hslot : (State.raiseIf c x).drive.replySlot = s.drive.replySlot := by
    rw [← hd]
    cases c
    · rfl
    · exact PortState.replySlot_push ..
  have hplatform : (State.raiseIf c x).platform = s.platform := by
    rw [← hp]
    cases c <;> rfl
  rw [exec_refund_of_event h hgo hflight hslot hadds (.of_same (by rw [hplatform]))]
  cases c
  · rw [← hd]
    rfl
  · have hport : (x.drive.push (changed (x.epoch + 1) x.custody.state)).finished k tag b =
        (s.drive.finished k tag b).push (changed (x.epoch + 1) x.custody.state) := by
      rw [hd, PortState.finished_push]
    exact congrArg (fun d => Host.Outcome.next { x with epoch := x.epoch + 1, drive := d }) hport

/-! ## One range of the list -/

/-- A range's grant changes its own entry and lane records alone (R91, R92). -/
theorem State.grantOne_frame (s : State) (a : AuthId) (w : Rights) (r : RangeId) :
    ∃ l v, (s.grantOne a w r).1 = { s with lane := { s.lane with lanes := l }, ranges := v } := by
  obtain ⟨l, v, hbind⟩ := s.bind_frame r
  unfold State.grantOne
  split
  · exact ⟨_, _, rfl⟩
  · split
    · exact ⟨_, _, rfl⟩
    · split
      · exact ⟨_, _, rfl⟩
      · dsimp only
        split
        · exact ⟨_, _, rfl⟩
        · rw [hbind]
          exact ⟨_, _, rfl⟩

theorem State.range_bind_of_ne (s : State) {r q : RangeId} (h : r ≠ q) : (s.bind r).1.range q = s.range q := by
  have hset (x : State) (e : RangeEntry) : (x.setRange r e).range q = x.range q := x.range_setRange_of_ne h e
  unfold State.bind
  split
  · split
    · rfl
    · exact hset ..
  · split <;> rfl

theorem State.range_grantOne_of_ne (s : State) (a : AuthId) (w : Rights) {r q : RangeId} (h : r ≠ q) :
    (s.grantOne a w r).1.range q = s.range q := by
  unfold State.grantOne
  split
  · rfl
  · split
    · rfl
    · split
      · rfl
      · dsimp only
        split
        · rfl
        · exact (State.range_setRange_of_ne _ h _).trans (s.range_bind_of_ne h)

/-- A range answered UNLOCKED has the authority as its holder, and any other is as it was (R92). -/
theorem State.grantOne_outcome (s : State) (a : AuthId) (w : Rights) (r : RangeId) :
    (s.grantOne a w r).2.range = r ∧
      (((s.grantOne a w r).1 = s ∧ (s.grantOne a w r).2.outcome ≠ .unlocked) ∨
        ((s.grantOne a w r).1.range r).holder = some a) := by
  unfold State.grantOne
  split
  · exact ⟨rfl, .inl ⟨rfl, nofun⟩⟩
  · split
    · exact ⟨rfl, .inl ⟨rfl, nofun⟩⟩
    · split
      · exact ⟨rfl, .inl ⟨rfl, nofun⟩⟩
      · dsimp only
        split
        · exact ⟨rfl, .inl ⟨rfl, nofun⟩⟩
        · exact ⟨rfl, .inr (by rw [State.range_setRange_self]; rfl)⟩

/-! ## The list -/

theorem State.grantAll_cons (s : State) (a : AuthId) (w : Rights) (r : RangeId) (list : List RangeId) :
    s.grantAll a w (r :: list) =
      (((s.grantOne a w r).1.grantAll a w list).1,
        (s.grantOne a w r).2 :: ((s.grantOne a w r).1.grantAll a w list).2) := rfl

theorem State.grantAll_frame (s : State) (a : AuthId) (w : Rights) (list : List RangeId) :
    ∃ l v, (s.grantAll a w list).1 = { s with lane := { s.lane with lanes := l }, ranges := v } := by
  induction list generalizing s with
  | nil => exact ⟨_, _, rfl⟩
  | cons r list ih =>
    obtain ⟨l', v', hone⟩ := s.grantOne_frame a w r
    obtain ⟨l, v, h⟩ := ih (s.grantOne a w r).1
    exact ⟨l, v, by rw [State.grantAll_cons, h, hone]⟩

theorem State.map_range_grantAll (s : State) (a : AuthId) (w : Rights) (list : List RangeId) :
    (s.grantAll a w list).2.map (fun e => e.range) = list := by
  induction list generalizing s with
  | nil => rfl
  | cons r list ih =>
    rw [State.grantAll_cons, List.map_cons, ih, (s.grantOne_outcome a w r).1]

theorem State.range_grantAll_of_notMem (s : State) (a : AuthId) (w : Rights) {list : List RangeId} {q : RangeId}
    (h : q ∉ list) : (s.grantAll a w list).1.range q = s.range q := by
  induction list generalizing s with
  | nil => rfl
  | cons r list ih =>
    obtain ⟨hr, hlist⟩ := not_or.1 (mt List.mem_cons.2 h)
    rw [State.grantAll_cons, ih _ hlist, s.range_grantOne_of_ne a w (Ne.symm hr)]

theorem State.holder_grantOne {s : State} {a : AuthId} {q : RangeId} (h : (s.range q).holder = some a) (w : Rights)
    (r : RangeId) : ((s.grantOne a w r).1.range q).holder = some a := by
  by_cases hq : r = q
  · subst hq
    rcases (s.grantOne_outcome a w r).2 with ⟨hsame, -⟩ | hholder
    · rw [hsame, h]
    · exact hholder
  · rw [s.range_grantOne_of_ne a w hq, h]

theorem State.holder_grantAll {s : State} {a : AuthId} {q : RangeId} (h : (s.range q).holder = some a) (w : Rights)
    (list : List RangeId) : ((s.grantAll a w list).1.range q).holder = some a := by
  induction list generalizing s with
  | nil => exact h
  | cons r list ih => exact ih (State.holder_grantOne h w r)

theorem State.holder_grantAll_of_unlocked (s : State) (a : AuthId) (w : Rights) (list : List RangeId) :
    ∀ e ∈ (s.grantAll a w list).2, e.outcome = .unlocked → ((s.grantAll a w list).1.range e.range).holder = some a := by
  induction list generalizing s with
  | nil => exact nofun
  | cons r list ih =>
    refine List.forall_mem_cons.2 ⟨fun hunlocked => ?_, ih _⟩
    obtain ⟨hrange, ⟨-, hno⟩ | hholder⟩ := s.grantOne_outcome a w r
    · exact absurd hunlocked hno
    · exact State.holder_grantAll (hrange.symm ▸ hholder) w list

/-! ## One range's outcome -/

theorem State.bind_of_none {s : State} {r : RangeId} (h : (s.range r).lane = none)
    (hno : ∀ l ∈ s.lane.lanes, l.state ≠ .free) : s.bind r = (s, false) := by
  have hlowest : s.lowestFree = none := List.findIdx?_eq_none_iff.2 fun l hl => by simpa using hno l hl
  simp only [State.bind, h, hlowest]

theorem State.bind_of_bound {s : State} {r : RangeId} {n : Nat} {l : LaneRec} (h : (s.range r).lane = some n)
    (hl : s.laneAt n = some l) :
    s.bind r =
      match l.state with
      | .loading => (s, true)
      | .loaded => (s, true)
      | .clearing => (s.updLane n fun l => l.bind r (s.checkCode r), true)
      | .fault => (s, false)
      | .free => (s, false) := by
  simp only [State.bind, h, hl, Option.map_some]
  cases l.state <;> rfl

theorem State.grantOne_of_refused {s : State} {a : AuthId} {w : Rights} {r : RangeId} {c : RangeRec}
    (hc : (s.range r).stored = some c) (hmember : c.access[a.val] = true) (hactive : c.state = .active)
    (hb : (s.bind r).2 = false) : s.grantOne a w r = (s, refusedEntry r .noLane) := by
  simp only [State.grantOne, hc, hmember, hactive, hb]
  rfl

theorem State.grantOne_of_bound {s y : State} {a : AuthId} {w : Rights} {r : RangeId} {c : RangeRec}
    (hc : (s.range r).stored = some c) (hmember : c.access[a.val] = true) (hactive : c.state = .active)
    (hb : s.bind r = (y, true)) :
    s.grantOne a w r =
      (y.setRange r ((y.range r).grantTo a w),
        ⟨r, .unlocked, ((y.range r).grantTo a w).read, ((y.range r).grantTo a w).write, ((y.range r).grantTo a w).lane,
          y.isLoaded r⟩) := by
  simp only [State.grantOne, hc, hmember, hactive, hb]
  rfl

/-- A change of one range's entry moves the concealed set exactly where that range enters or leaves it. -/
theorem State.moved_iff_of_one {s x : State} {r : RangeId} (hmode : x.mode = s.mode)
    (h : ∀ q, r ≠ q → x.range q = s.range q) :
    State.moved s x = true ↔ x.isConcealed r ≠ s.isConcealed r := by
  have hother (q : RangeId) (hq : r ≠ q) : x.isConcealed q = s.isConcealed q := by
    simp only [State.isConcealed, h q hq, hmode]
  rw [State.moved, decide_eq_true_iff, ne_eq, State.concealedSet_eq_iff]
  refine not_congr ⟨fun hall => hall r, fun hr q => ?_⟩
  by_cases hq : r = q
  · exact hq ▸ hr
  · exact hother q hq

/-- The UNLOCK of a list as one event: its grants, the epoch, the reply (R90 to R95). -/
theorem exec_unlock {s : State} {tag : Byte} {a : AuthId} {w : Rights} {t : TriesRec} {list : List RangeId}
    (hin : s.custody.state = .guarded ∨ s.custody.state = .warned) (h : s.AtRefund .unlock tag a (.unlock list w) t)
    {x : State} {es : List UnlockEntry} (hg : (s.refundTaken a t).grantAll a w list = (x, es)) {c : Bool}
    (hc : c = State.moved (s.refundTaken a t) x) (hd : x.drive = s.drive) (hp : x.platform = s.platform) :
    exec .commitComplete s =
      .next { x with
        epoch := if c then x.epoch + 1 else x.epoch
        drive :=
          let q := s.drive.finished .unlock tag (.unlocked (if c then x.epoch + 1 else x.epoch) es)
          if c then q.push (changed (x.epoch + 1) x.custody.state) else q } := by
  refine exec_refund_of_raisingAnswer h ?_ hd hp
  change (s.refundTaken a t).goUnlock a list w = _
  have hepoch : (State.raiseIf c x).epoch = if c then x.epoch + 1 else x.epoch := by cases c <;> rfl
  rw [State.goUnlock, show (s.refundTaken a t).custody.state.inUse = true from Custody.inUse_iff.2 hin, if_pos rfl, hg,
    ← hepoch, hc]
  rfl

theorem State.isLoaded_of_laneAt {y : State} {r : RangeId} {n : Nat} {l : LaneRec} (h : (y.range r).lane = some n)
    (hl : y.laneAt n = some l) : y.isLoaded r = decide (l.state = .loaded) := by
  simp [State.isLoaded, h, hl]

theorem State.laneAt_updLane_self {s : State} {n : Nat} {l : LaneRec} (hl : s.laneAt n = some l) (f : LaneRec → LaneRec) :
    (s.updLane n f).laneAt n = some (f l) := by
  rw [State.laneAt_updLane, if_pos rfl, hl, Option.map_some]

theorem unlock_replyCode : ReqKind.unlock.code + 0x80 = 0x82 := by decide

/-- What a grant moves: a range that its record hides leaves the concealed set with its read right (R4, R95). -/
theorem State.moved_grant {s y : State} {r : RangeId} {c : RangeRec} (hc : (s.range r).stored = some c)
    (hmode : y.mode = s.mode) (hother : ∀ q, r ≠ q → y.range q = s.range q) {n : Nat}
    (hr : y.range r = { s.range r with lane := some n }) (a : AuthId) (w : Rights) :
    State.moved s (y.setRange r ((y.range r).grantTo a w)) = true ↔
      c.visibility = .hiddenWhileLocked ∧ (s.range r).read = false ∧
        ((s.range r).read || decide (w ≠ .write)) = true ∧ s.mode ≠ .blank := by
  rw [State.moved_iff_of_one (r := r) (by exact hmode) fun q hq => (y.range_setRange_of_ne hq _).trans (hother q hq)]
  have hread : w.hasRead = decide (w ≠ .write) := by cases w <;> rfl
  simp only [State.isConcealed, State.range_setRange_self, State.setRange_mode, hmode, hr, RangeEntry.grantTo, hc, hread]
  by_cases hv : c.visibility = .hiddenWhileLocked <;> by_cases hm : s.mode = .blank <;>
    cases (s.range r).read <;> simp [hv, hm]

/-- Settles O28: the list by its frame and holders, and one range by its outcomes. -/
theorem unlockGrants : Obligations.UnlockGrants := by
  intro s tag a w t hin s1
  refine ⟨fun list h => ?list, fun r h => ?one⟩
  case list =>
    obtain ⟨l, v, hframe⟩ := s1.grantAll_frame a w list
    obtain ⟨x, hx⟩ : ∃ x, x = (s1.grantAll a w list).1 := ⟨_, rfl⟩
    obtain ⟨es, hes⟩ : ∃ es, es = (s1.grantAll a w list).2 := ⟨_, rfl⟩
    obtain ⟨c, hc⟩ : ∃ c, c = State.moved s1 x := ⟨_, rfl⟩
    rw [← hx] at hframe
    have hexec := exec_unlock hin h (x := x) (es := es) (by rw [hx, hes]) hc (by rw [hframe]; rfl) (by rw [hframe]; rfl)
    refine ⟨_, es, hexec, hes ▸ s1.map_range_grantAll a w list, ?slot, ?flight, fun q hq => ?other, fun e he hu => ?holder,
      ?frame⟩
    case slot =>
      cases c
      · exact congrArg (fun k => some (Reply.mk k tag _)) unlock_replyCode
      · exact (PortState.replySlot_push ..).trans (congrArg (fun k => some (Reply.mk k tag _)) unlock_replyCode)
    case flight =>
      cases c
      · rfl
      · exact PortState.inFlight_push ..
    case other => exact (congrArg (State.range · q) hx).trans (s1.range_grantAll_of_notMem a w hq)
    case holder =>
      exact (congrArg (fun y : State => (y.range e.range).holder) hx).trans
        (s1.holder_grantAll_of_unlocked a w list e (hes ▸ he) hu)
    case frame => rw [hframe]
  case one =>
    intro refused rd wr
    have hone {x : State} {e : UnlockEntry} (hg : s1.grantOne a w r = (x, e)) : s1.grantAll a w [r] = (x, [e]) := by
      rw [State.grantAll_cons, hg]
      rfl
    have hrefused {o : UnlockOutcome} (hg : s1.grantOne a w r = (s1, refusedEntry r o)) :
        exec .commitComplete s = refused o :=
      exec_unlock hin h (hone hg) (c := false) (decide_eq_false (not_not.2 rfl)).symm rfl rfl
    refine ⟨fun hnone => hrefused ?_, ?_⟩
    · simp only [State.grantOne, show (s1.range r).stored = none from hnone]
    intro c hc unlocked loading
    have hc' : (s1.range r).stored = some c := hc
    have hgranted {y : State} {n : Nat} {loaded : Bool} {lanes : List LaneRec} (hmember : c.access[a.val] = true)
        (hactive : c.state = .active) (hb : s1.bind r = (y, true))
        (hframe : y = { s1 with lane := { s.lane with lanes := lanes }, ranges := y.ranges })
        (hr : y.range r = { s.range r with lane := some n }) (hother : ∀ q, r ≠ q → y.range q = s.range q)
        (hloaded : y.isLoaded r = loaded) : unlocked n loaded lanes := by
      have hg := State.grantOne_of_bound (w := w) hc' hmember hactive hb
      obtain ⟨x, hx⟩ : ∃ x, x = y.setRange r ((y.range r).grantTo a w) := ⟨_, rfl⟩
      obtain ⟨b, hmoved⟩ : ∃ b, b = State.moved s1 x := ⟨_, rfl⟩
      have hmode : y.mode = s1.mode := by rw [hframe]
      have hmoves := State.moved_grant (s := s1) hc' hmode hother hr a w
      rw [← hx] at hg hmoves
      rw [← hmoved] at hmoves
      have hxr : x.range r = { s.range r with read := rd, write := wr, holder := some a, lane := some n } := by
        rw [hx, State.range_setRange_self, hr]
        cases w <;> rfl
      have hentry : ((y.range r).grantTo a w).read = rd ∧ ((y.range r).grantTo a w).write = wr ∧
          ((y.range r).grantTo a w).lane = some n := by
        rw [hr]
        cases w <;> exact ⟨rfl, rfl, rfl⟩
      rw [hentry.1, hentry.2.1, hentry.2.2, hloaded] at hg
      have hxframe : x.drive = s.drive ∧ x.platform = s.platform ∧ x.epoch = s.epoch ∧
          x.lane = { s.lane with lanes := lanes } := by
        rw [hx, hframe]
        exact ⟨rfl, rfl, rfl, rfl⟩
      obtain ⟨hd, hp, hepoch, hlanes⟩ := hxframe
      refine ⟨_, exec_unlock hin h (hone hg) hmoved hd hp, hxr, hlanes, ?_, ?_⟩
      · change (if b then x.epoch + 1 else x.epoch) = _
        have hprop : (b = true) = (c.visibility = .hiddenWhileLocked ∧ (s.range r).read = false ∧ rd = true ∧
          s.mode ≠ .blank) := propext hmoves
        simp only [hprop, hepoch]
      · cases b
        · exact congrArg (fun k => some (Reply.mk k tag _)) unlock_replyCode
        · exact (PortState.replySlot_push ..).trans (congrArg (fun k => some (Reply.mk k tag _)) unlock_replyCode)
    refine ⟨fun hout => hrefused ?_, fun hmember hkeyless => hrefused ?_, fun hmember hactive =>
      ⟨fun hlane hnofree => hrefused ?_, fun n l hlane hl hfree hfirst => ?_, fun n l hlane hl =>
        ⟨fun hfault => hrefused ?_, fun hload => ?_, fun hloaded => ?_, fun hclearing => ?_⟩⟩⟩
    · simp only [State.grantOne, hc', hout]
      rfl
    · simp only [State.grantOne, hc', hmember]
      exact (if_neg (by decide)).trans (if_pos hkeyless)
    · exact State.grantOne_of_refused hc' hmember hactive (by rw [State.bind_of_none (s := s1) hlane hnofree])
    · have hlowest := State.lowestFree_eq (s := s1) hl hfree hfirst
      have hupd := State.updLane_of_laneAt (s := s1) hl fun l => l.bind r (s1.checkCode r)
      refine hgranted hmember hactive (State.bind_of_free (s := s1) hlane hlowest) (by rw [hupd]; rfl)
        (State.range_setRange_self ..) (fun q hq => State.range_setRange_of_ne _ hq _) ?_
      refine (State.isLoaded_of_laneAt (n := n) (l := loading l) ?_ ?_).trans rfl
      · rw [State.range_setRange_self]
      · exact State.laneAt_updLane_self (s := s1) hl _
    · exact State.grantOne_of_refused hc' hmember hactive (by rw [State.bind_of_bound (s := s1) hlane hl, hfault])
    all_goals
      have hself : s.range r = { s.range r with lane := some n } := by rw [← hlane]
      have hbound := State.bind_of_bound (s := s1) hlane hl
    · rw [hload] at hbound
      refine hgranted hmember hactive hbound rfl hself (fun q _ => rfl) ?_
      rw [State.isLoaded_of_laneAt (y := s1) hlane hl, hload]
      rfl
    · rw [hloaded] at hbound
      refine hgranted hmember hactive hbound rfl hself (fun q _ => rfl) ?_
      rw [State.isLoaded_of_laneAt (y := s1) hlane hl, hloaded]
      rfl
    · rw [hclearing] at hbound
      have hupd := State.updLane_of_laneAt (s := s1) hl fun l => l.bind r (s1.checkCode r)
      refine hgranted hmember hactive hbound (by rw [hupd]; rfl) hself (fun q _ => rfl) ?_
      exact (State.isLoaded_of_laneAt (l := loading l) (by exact hlane) (State.laneAt_updLane_self (s := s1) hl _)).trans rfl

end Sys2Proof.Machine

/-!
PROOFS. The recovery of a Recovery UNLOCK that finds CONCEALED (R127), and the custody states that refuse UNLOCK.
-/

namespace Sys2Proof.Machine

open Sys2Proof

/-- What the recovery makes of the state, its notices and its commit apart (R127). -/
def State.recovered (s : State) : State :=
  { s with
    mode := .overlay
    custody :=
      { s.custody with
        state := .guarded, foreignCount := 0, checkin := 0, checkinSecs := 0, escalation := 0
        escalationSecs := 0 } }

/-- The notice of the recovery, with the epoch before the increment (log entry 21). -/
def State.recoverNote (s : State) : Notice := ⟨.custodyChanged, none, none, s.epoch, .guarded⟩

theorem State.recover_of_empty {s : State} (hq : s.queue = []) (hh : s.held = []) :
    s.recover =
      { s.recovered with
        queue := [custodyEntry ⟨.guarded, 0, 0, true, 0, true, s.custody.target⟩ []]
        drive := (s.drive.push s.recoverNote).push (changed (s.epoch + 1) .guarded)
        platform := s.platform.push s.recoverNote
        epoch := s.epoch + 1 } := by
  have henter := State.enter_of_empty (s := s.recovered) hq hh [] (custodyEntry (s.recovered.custodyRec true true) [])
  have hstore : s.recover = ((s.recovered.storeCustody true true []).notifyBoth .custodyChanged).raiseEpoch := rfl
  rw [hstore, State.storeCustody, henter]
  rfl

theorem State.goUnlock_of_concealed {s : State} (h : s.custody.state = .concealed) (list : List RangeId) (w : Rights) :
    s.goUnlock 7 list w =
      (s.recover.grantAll 7 w list).1.answer .drive
        (.unlocked (s.recover.grantAll 7 w list).1.epoch (s.recover.grantAll 7 w list).2) := by
  rw [State.goUnlock, h]
  rfl

theorem State.goUnlock_of_refused {s : State} {a : AuthId} (huse : s.custody.state.inUse = false)
    (h : ¬(s.custody.state = .concealed ∧ a = 7)) (list : List RangeId) (w : Rights) :
    s.goUnlock a list w = s.answer .drive (.code .state) := by
  rw [State.goUnlock, huse, if_neg (by decide), if_neg]
  rintro hboth
  simp only [Bool.and_eq_true, decide_eq_true_iff] at hboth
  exact h ⟨hboth.1, Fin.ext hboth.2⟩

/-- Settles O29: the recovery's event with the list's grants behind it, and the refusals. -/
theorem recoveryReturnsToGuarded : Obligations.RecoveryReturnsToGuarded := by
  intro s tag a list w t h s1
  refine ⟨fun hc ha => ?recovers, fun hno => exec_refund_of_answer h ?refused⟩
  case recovers =>
    subst ha
    have hrecover := State.recover_of_empty (s := s1) rfl h.2.2.2
    obtain ⟨l, v, hframe⟩ := s1.recover.grantAll_frame 7 w list
    have hgo : s1.goUnlock 7 list w = _ := State.goUnlock_of_concealed (s := s1) hc list w
    obtain ⟨x, hx⟩ : ∃ x, x = (s1.recover.grantAll 7 w list).1 := ⟨_, rfl⟩
    obtain ⟨es, hes⟩ : ∃ es, es = (s1.recover.grantAll 7 w list).2 := ⟨_, rfl⟩
    rw [← hx, ← hes] at hgo
    rw [← hx, hrecover] at hframe
    have hexec := exec_refund_of_event h (x := x) hgo (by rw [hframe]; simp; rfl) (by rw [hframe]; simp; rfl)
      (by rw [hframe]; exact .push (.push (.of_same rfl) rfl) rfl) (by rw [hframe]; exact .push (.of_same rfl) rfl)
    refine ⟨_, es, hexec, hes ▸ s1.recover.map_range_grantAll 7 w list, fun q hq => ?_, ?_⟩
    · have hkept := s1.recover.range_grantAll_of_notMem 7 w hq
      rw [← hx, hrecover] at hkept
      exact hkept
    · have hepoch : x.epoch = s.epoch + 1 := by rw [hframe]; rfl
      rw [hepoch]
      have hport : x.drive.finished .unlock tag (.unlocked (s.epoch + 1) es) =
          ((s.drive.finished .unlock tag (.unlocked (s.epoch + 1) es)).push s1.recoverNote).push
            (changed (s.epoch + 1) .guarded) := by
        rw [hframe, ← PortState.finished_push, ← PortState.finished_push]
        rfl
      rw [hport, hframe]
      rfl
  case refused =>
    have hstate : ¬(s.custody.state = .guarded ∨ s.custody.state = .warned) ∧ ¬(s.custody.state = .concealed ∧ a = 7) := by
      rcases hno with ⟨hc, ha⟩ | hc | hc | hc <;> simp_all
    exact State.goUnlock_of_refused (s := s1) (Custody.inUse_eq_false_iff.2 hstate.1) hstate.2 list w

end Sys2Proof.Machine

/-!
PROOFS. A custody response (R122, R123): what it makes of the state before its storing commit, and that commit.
-/

namespace Sys2Proof.Machine

open Sys2Proof

/-! ## The move -/

/-- A LANE_HOLD in flight is withdrawn (R123). -/
def PortState.withdrawn (q : PortState) : PortState :=
  match q.inFlight with
  | some ⟨_, _, .holding _⟩ => { q with inFlight := q.inFlight.map fun f => { f with work := .holding true } }
  | _ => q

theorem State.withdrawHold_eq (s : State) : s.withdrawHold = { s with drive := s.drive.withdrawn } := by
  rcases hf : s.drive.inFlight with _ | ⟨k, tag, w⟩
  · simp only [State.withdrawHold, PortState.withdrawn, hf]
  · cases w <;> simp only [State.withdrawHold, PortState.withdrawn, State.setWork, State.port, State.setPort, hf]

@[simp] theorem PortState.notices_withdrawn (q : PortState) : q.withdrawn.notices = q.notices := by
  unfold PortState.withdrawn
  split <;> rfl

@[simp] theorem PortState.replySlot_withdrawn (q : PortState) : q.withdrawn.replySlot = q.replySlot := by
  unfold PortState.withdrawn
  split <;> rfl

/-- The CUSTODY_CHANGED of a response, with the epoch before it (R123). -/
def State.responseNote (s : State) (l : Level) : Notice := ⟨.custodyChanged, none, none, s.epoch, l.target⟩

/-- The LANE_LINK_UP of a hold that a response ends (R70, R123). -/
def State.holdNote (s : State) (l : Level) : Notice := ⟨.laneLinkUp, none, none, s.epoch, l.target⟩

/-- The Drive Port after an entry to CONCEALED or beyond, its increment's notice apart. -/
def State.hiddenDrive (s : State) (l : Level) : PortState :=
  let q := s.drive.withdrawn.push (s.responseNote l)
  if s.lane.link = .held then q.push (s.holdNote l) else q

/-- A response from GUARDED or WARNED, its storing commit apart (R122, R123). -/
def State.hidden (s : State) (l : Level) : State :=
  { s with
    ranges := mapVec RangeEntry.locked s.ranges
    lane := { s.lane with
      lanes := s.lane.lanes.map LaneRec.release, link := if s.lane.link = .held then .up else s.lane.link }
    mode := .blank
    epoch := s.epoch + 1
    custody := { s.custody with
      state := l.target, escalation := 0, escalationSecs := 0, target := s.policy.escalationTarget }
    drive := (s.hiddenDrive l).push (changed (s.epoch + 1) l.target)
    platform := s.platform.push (s.responseNote l) }

/-- A response from CONCEALED or ERASED, its storing commit apart (R122, R123). -/
def State.deepened (s : State) (l : Level) : State :=
  { s with
    custody := { s.custody with state := l.target }
    drive := s.drive.push (s.responseNote l)
    platform := s.platform.push (s.responseNote l) }

theorem Custody.inUse_iff_strength {c : Custody} : c.inUse = true ↔ c ≠ .opened ∧ c.strength = 0 := by
  cases c <;> simp [Custody.inUse, Custody.strength]

theorem State.responds_iff {s : State} {l : Level} :
    s.responds l = true ↔ s.custody.state ≠ .opened ∧ s.custody.state.strength < l.target.strength := by
  simp [State.responds]

theorem Level.strength_pos (l : Level) : 0 < l.target.strength := by cases l <;> decide

theorem State.conceal_eq (s : State) :
    s.conceal =
      { s with
        ranges := mapVec RangeEntry.locked s.ranges
        lane := { s.lane with
          lanes := s.lane.lanes.map LaneRec.release, link := if s.lane.link = .held then .up else s.lane.link }
        mode := .blank
        custody := { s.custody with
          escalation := 0, escalationSecs := 0, target := s.policy.escalationTarget }
        drive := s.drive.withdrawn } := by
  unfold State.conceal
  rw [State.withdrawHold_eq]
  rfl

theorem State.respond_of_inUse {s : State} (h : s.custody.state.inUse = true) (l : Level) (acts : List Act) :
    s.respond l acts = (s.hidden l).storeResponse s.custody.state acts := by
  obtain ⟨hopen, hzero⟩ := Custody.inUse_iff_strength.1 h
  have hresponds : s.responds l = true := State.responds_iff.2 ⟨hopen, hzero ▸ l.strength_pos⟩
  unfold State.respond
  simp only [hresponds, if_true, h, Bool.true_and, decide_eq_true_iff]
  rw [State.conceal_eq]
  unfold State.hidden State.hiddenDrive
  by_cases hheld : s.lane.link = .held
  · simp only [hheld, if_true]
    rfl
  · simp only [hheld, if_false]
    rfl

theorem State.respond_of_hidden {s : State} (h : s.custody.state.inUse = false) {l : Level} (hl : s.responds l = true)
    (acts : List Act) : s.respond l acts = (s.deepened l).storeResponse s.custody.state acts := by
  unfold State.respond
  simp only [hl, if_true, h, Bool.false_and]
  rfl

/-! ## The storing commit -/

theorem State.storeResponse_of_conceal {x : State} (h : x.custody.state = .concealed) (old : Custody) (acts : List Act) :
    x.storeResponse old acts = x.enter [] (custodyEntry (x.custodyRec false true) acts) := by
  simp only [State.storeResponse, h]
  rfl

theorem State.storeResponse_of_erase {x : State} (h : x.custody.state = .erased) (old : Custody) (acts : List Act) :
    x.storeResponse old acts = x.discardScrub.enterEraseGroup ⟨none, []⟩ (.keysErased :: acts) := by
  simp only [State.storeResponse, h]

theorem State.storeResponse_of_scrub {x : State} (h : x.custody.state = .scrubbing) {old : Custody} (hold : old ≠ .erased)
    (acts : List Act) :
    x.storeResponse old acts =
      x.discardScrub.enterEraseGroup ⟨some x.custodyJob, []⟩ (.keysErased :: .custodyJobStored :: acts) := by
  simp only [State.storeResponse, h, hold, if_false]

theorem State.storeResponse_of_deeper {x : State} (h : x.custody.state = .scrubbing) (acts : List Act) :
    x.storeResponse .erased acts = x.storeScrubbing acts := by
  simp only [State.storeResponse, h, if_true]

/-- Discarding the job leaves no cursor in a waiting final checkpoint (log entry 15). -/
theorem State.discardScrub_eq (s : State) :
    s.discardScrub =
      { s with
        scrub := { s.scrub with job := none, waiting := [] }
        queue := mapFinal (fun ws => ws.filter fun w => !w.isFinalCursor) s.queue } := by
  simp only [State.discardScrub, State.updateFinalCursor, State.finalCursor, List.append_nil]

/-- A write enters without an earlier one of its sequence: an entry behind the head is one that waited there, or has
the write's key. -/
theorem State.mem_tail_enter {s : State} {w e : Entry} (hw : ∀ x : Entry, x.holds w.key = true → x.key = w.key)
    (h : e ∈ (s.enter [] w).queue.tail) : e ∈ s.queue.tail ∨ e.key = w.key := by
  have hfollows (l : List Entry) : (l.any fun e => ([] : List EntryKey).any e.holds) = false := by simp
  unfold State.enter at h
  simp only [hfollows, Bool.false_eq_true, if_false] at h
  split at h
  · exact .inl h
  · split at h
    · rename_i b x a hsplit
      obtain ⟨htail, hx, -⟩ := splitLast_some hsplit
      cases hq : s.queue with
      | nil => rw [hq] at htail; simp at htail
      | cons f q =>
        rw [hq] at h htail
        simp only [List.tail_cons] at htail
        simp only [List.take_succ_cons, List.take_zero, List.cons_append, List.nil_append, List.tail_cons,
          List.mem_append, List.mem_cons] at h
        rw [List.tail_cons, htail]
        rcases h with h | rfl | h
        · exact .inl (List.mem_append_left _ h)
        · exact .inr ((x.merge_key w).trans (hw x hx))
        · exact .inl (List.mem_append_right _ (List.mem_cons_of_mem _ h))
    · split at h
      · cases hq : s.queue with
        | nil => rw [hq] at h; simp at h
        | cons f q =>
          rw [hq] at h
          simp only [List.cons_append, List.tail_cons, List.mem_append, List.mem_singleton] at h
          rcases h with h | rfl
          · exact .inl h
          · exact .inr rfl
      · exact .inl h

theorem Entry.key_of_holds_eraseGroup {x : Entry} (h : x.holds .eraseGroup = true) : x.key = .eraseGroup := by
  simpa [Entry.holds] using h

/-- The group that stores a discard: no job, no list, and no cursor in a waiting final checkpoint (R131). -/
theorem State.discard_enterEraseGroup (s : State) (j : JournalRec) (acts : List Act) :
    let t := s.discardScrub.enterEraseGroup j acts
    t.scrub.job = none ∧ t.scrub.waiting = [] ∧
      ∀ e ∈ t.queue.tail, e.key = .final → ∀ k r n, RecordWrite.finalCursor k r n ∉ e.writes := by
  obtain ⟨x, hx⟩ : ∃ x, x = s.discardScrub.drawSecret.2 := ⟨_, rfl⟩
  obtain ⟨q, h, hframe⟩ := State.enter_frame []
    (eraseGroupEntry s.discardScrub.drawSecret.1 (s.discardScrub.custodyRec false true) j acts) x
  have hscrub : x.scrub = { s.scrub with job := none, waiting := [] } := by
    rw [hx, State.discardScrub_eq]
    rfl
  have hqueue : x.queue = mapFinal (fun ws => ws.filter fun w => !w.isFinalCursor) s.queue := by
    rw [hx, State.discardScrub_eq]
    rfl
  have ht : s.discardScrub.enterEraseGroup j acts = x.enter []
      (eraseGroupEntry s.discardScrub.drawSecret.1 (s.discardScrub.custodyRec false true) j acts) := by
    rw [hx]
    rfl
  intro t
  refine ⟨?_, ?_, fun e he hkey k r n hmem => ?_⟩
  · rw [show t = _ from ht, hframe, hscrub]
  · rw [show t = _ from ht, hframe, hscrub]
  · rw [show t = _ from ht] at he
    rcases State.mem_tail_enter (fun y hy => Entry.key_of_holds_eraseGroup hy) he with he | he
    · rw [hqueue, mapFinal] at he
      have hmap : e ∈ s.queue.tail.map fun e => if e.key = .final then
          { e with writes := e.writes.filter fun w => !w.isFinalCursor } else e := by
        cases hq : s.queue with
        | nil => rw [hq] at he; simp at he
        | cons f q => rw [hq] at he; simpa using he
      obtain ⟨y, -, rfl⟩ := List.mem_map.1 hmap
      split at hmem
      · exact absurd (List.of_mem_filter hmem) (by simp [RecordWrite.isFinalCursor])
      · rename_i hne
        rw [if_neg hne] at hkey
        exact hne hkey
    · rw [hkey] at he
      cases he

/-- The storing commit leaves all but the job, the draws and the commit queue as the move made it. -/
theorem State.storeResponse_fields {y : State} {old : Custody} (acts : List Act) {l : Level} (hy : y.custody.state = l.target) :
    (l = .conceal → (y.storeResponse old acts).scrub = y.scrub) ∧
      (l ≠ .conceal → old ≠ .erased →
        (y.storeResponse old acts).scrub.job = none ∧ (y.storeResponse old acts).scrub.waiting = [] ∧
          ∀ e ∈ (y.storeResponse old acts).queue.tail, e.key = .final → ∀ k r n, RecordWrite.finalCursor k r n ∉ e.writes) := by
  refine ⟨fun hl => ?_, fun hl hold => ?_⟩
  · subst hl
    obtain ⟨q, h, hframe⟩ := State.enter_frame [] (custodyEntry (y.custodyRec false true) acts) y
    rw [State.storeResponse_of_conceal hy, hframe]
  · cases l with
    | conceal => exact absurd rfl hl
    | erase => exact State.storeResponse_of_erase hy old acts ▸ y.discard_enterEraseGroup ..
    | scrub => exact State.storeResponse_of_scrub hy hold acts ▸ y.discard_enterEraseGroup ..

theorem State.enterEraseGroup_of_empty {y : State} (hq : y.queue = []) (hh : y.held = []) (j : JournalRec) (acts : List Act) :
    (y.discardScrub.enterEraseGroup j acts).queue =
      [eraseGroupEntry (Config.randomSecret y.draws) (y.custodyRec false true) j acts] := by
  have hdq : y.discardScrub.drawSecret.2.queue = [] := by
    rw [State.discardScrub_eq]
    simp [State.drawSecret, hq, mapFinal]
  have hdh : y.discardScrub.drawSecret.2.held = [] := by
    rw [State.discardScrub_eq]
    exact hh
  rw [State.enterEraseGroup, State.enter_of_empty hdq hdh, State.discardScrub_eq]
  rfl

/-- The entries that store a response, the queue empty before them (R130, R131, R133). -/
def Level.storingKeys (l : Level) (old : Custody) : List EntryKey :=
  match l with
  | .conceal => [.single .custody]
  | .erase => [.eraseGroup]
  | .scrub => if old = .erased then [.single .journal, .single .custody] else [.eraseGroup]

theorem State.keys_storeResponse {y : State} {old : Custody} (acts : List Act) {l : Level} (hy : y.custody.state = l.target)
    (hq : y.queue = []) (hh : y.held = []) :
    (y.storeResponse old acts).queue.map (fun e => e.key) = l.storingKeys old := by
  cases l with
  | conceal =>
    rw [State.storeResponse_of_conceal hy, State.enter_of_empty hq hh]
    rfl
  | erase =>
    rw [State.storeResponse_of_erase hy, State.enterEraseGroup_of_empty hq hh]
    rfl
  | scrub =>
    by_cases hold : old = .erased
    · rw [hold, State.storeResponse_of_deeper hy, State.storeScrubbing]
      simp only [hq, hh, List.tail_nil, List.any_nil, Bool.or_false, Bool.false_eq_true, if_false,
        State.enterAll_two_of_empty hq hh]
      rfl
    · rw [State.storeResponse_of_scrub hy hold, State.enterEraseGroup_of_empty hq hh]
      exact (if_neg hold).symm

/-- A response that responds: the move, then its storing commit. -/
theorem State.respond_eq {s : State} {l : Level} (h : s.responds l = true) (acts : List Act) :
    s.respond l acts =
      (if s.custody.state.inUse then s.hidden l else s.deepened l).storeResponse s.custody.state acts := by
  by_cases hin : s.custody.state.inUse = true
  · rw [if_pos hin, State.respond_of_inUse hin]
  · rw [if_neg hin, State.respond_of_hidden (Bool.eq_false_iff.2 hin) h]

theorem PortState.notices_push_of_room {q : PortState} {ns : List Notice} (h : q.notices = ns) (hroom : ns.length < 8)
    (n : Notice) : (q.push n).notices = ns ++ [n] := by
  rw [PortState.push_of_room _ _ (by rwa [h]), h]

/-- The notices of an entry to CONCEALED or beyond, in their order, behind those that wait (R123). -/
theorem State.notices_hidden {s : State} {ns : List Notice} (h : s.drive.notices = ns) (hroom : ns.length ≤ 5) (l : Level) :
    (s.hidden l).drive.notices =
      ns ++ s.responseNote l :: ((if s.lane.link = .held then [s.holdNote l] else []) ++
        [changed (s.epoch + 1) l.target]) := by
  have hfirst : (s.drive.withdrawn.push (s.responseNote l)).notices = ns ++ [s.responseNote l] :=
    PortState.notices_push_of_room ((PortState.notices_withdrawn _).trans h) (by omega) _
  have hhidden : (s.hiddenDrive l).notices =
      ns ++ s.responseNote l :: if s.lane.link = .held then [s.holdNote l] else [] := by
    unfold State.hiddenDrive
    by_cases hheld : s.lane.link = .held
    · simp only [hheld, if_true]
      refine (PortState.notices_push_of_room hfirst (by simp; omega) _).trans (by simp)
    · simp only [hheld, if_false]
      exact hfirst
  refine (PortState.notices_push_of_room hhidden ?_ _).trans (by simp)
  split <;> simp <;> omega

/-- Settles O45: the move by the state it meets, and the storing commit. -/
theorem responsesMoveCustody : Obligations.ResponsesMoveCustody := by
  intro s l acts c t
  refine ⟨fun h => State.respond_of_no_effect ?_ acts, fun hopen hlt => ?_⟩
  · refine Bool.eq_false_iff.2 fun hr => ?_
    obtain ⟨hne, hlt⟩ := State.responds_iff.1 hr
    exact h.elim hne fun hle => absurd hlt (Nat.not_lt.2 hle)
  have hresponds : s.responds l = true := State.responds_iff.2 ⟨hopen, hlt⟩
  have ht : t = _ := State.respond_eq hresponds acts
  by_cases hin : c.inUse = true
  · have hzero : c.strength = 0 := (Custody.inUse_iff_strength.1 hin).2
    rw [if_pos hin] at ht
    obtain ⟨sc, n, q, h, hframe⟩ := (s.hidden l).storeResponse_frame c acts
    have hfields := State.storeResponse_fields (y := s.hidden l) (old := c) acts (l := l) rfl
    rw [← ht] at hframe hfields
    have hrange (r : RangeId) : t.range r = (s.range r).locked := by
      rw [hframe]
      exact s.range_lockAll r
    refine ⟨by rw [hframe]; rfl, by rw [hframe]; rfl, by rw [hframe]; rfl, by rw [hframe]; rfl, by rw [hframe]; rfl,
      by rw [hframe]; rfl, by rw [hframe]; rfl, fun r => by rw [hrange]; exact ⟨rfl, rfl⟩, fun _ => ?hides,
      fun hpos => absurd hzero hpos.ne', hfields.1, hfields.2, fun hq hh hd hp => ?notices⟩
    case hides =>
      refine ⟨by rw [hframe]; rfl, by rw [hframe]; rfl, fun r => by rw [hrange]; exact ⟨rfl, rfl⟩, by rw [hframe]; rfl,
        by rw [hframe]; rfl, by rw [hframe]; rfl, by rw [hframe]; rfl, fun k tag b hf => ?_⟩
      have hflight : (s.hidden l).drive.inFlight = s.drive.withdrawn.inFlight := by
        simp only [State.hidden, State.hiddenDrive, PortState.inFlight_push]
        split <;> simp
      rw [hframe]
      refine hflight.trans ?_
      simp [PortState.withdrawn, hf]
    case notices =>
      have hdrive : t.drive.notices = _ := (congrArg (fun x : State => x.drive.notices) hframe).trans (State.notices_hidden hd (Nat.zero_le 5) l)
      have hplatform : t.platform.notices = [s.responseNote l] :=
        (congrArg (fun x : State => x.platform.notices) hframe).trans
          (PortState.notices_push_of_room hp (by decide : 0 < 8) _)
      have hepoch : t.epoch = s.epoch + 1 := by rw [hframe]; rfl
      have hkeys := State.keys_storeResponse (y := s.hidden l) (old := c) acts (l := l) rfl hq hh
      rw [← ht] at hkeys
      rw [hdrive, hplatform, hepoch]
      refine ⟨rfl, ?_, ?_, hkeys.trans (by cases l <;> rfl)⟩
      · by_cases hheld : s.lane.link = .held <;> simp [hheld, hzero, State.responseNote, State.holdNote, changed]
      · intro n hn
        have hcases : n = s.responseNote l ∨ n = s.holdNote l ∨ n = changed (s.epoch + 1) l.target := by
          by_cases hheld : s.lane.link = .held <;> simp [hheld] at hn <;> tauto
        rcases hcases with rfl | rfl | rfl <;> exact ⟨rfl, rfl⟩
  · have hpos : 0 < c.strength := Nat.pos_of_ne_zero fun h0 => hin (Custody.inUse_iff_strength.2 ⟨hopen, h0⟩)
    rw [if_neg hin] at ht
    obtain ⟨sc, n, q, h, hframe⟩ := (s.deepened l).storeResponse_frame c acts
    have hfields := State.storeResponse_fields (y := s.deepened l) (old := c) acts (l := l) rfl
    rw [← ht] at hframe hfields
    refine ⟨by rw [hframe]; rfl, by rw [hframe]; rfl, by rw [hframe]; rfl, by rw [hframe]; rfl, by rw [hframe]; rfl,
      by rw [hframe]; rfl, by rw [hframe]; rfl, fun r => by rw [hframe]; exact ⟨rfl, rfl⟩, fun hzero => absurd hzero hpos.ne',
      fun _ => by rw [hframe]; exact ⟨rfl, rfl, rfl, rfl⟩, hfields.1, hfields.2, fun hq hh hd hp => ?_⟩
    have hdrive : t.drive.notices = [s.responseNote l] :=
      (congrArg (fun x : State => x.drive.notices) hframe).trans
        (PortState.notices_push_of_room hd (by decide : 0 < 8) _)
    have hplatform : t.platform.notices = [s.responseNote l] :=
      (congrArg (fun x : State => x.platform.notices) hframe).trans
        (PortState.notices_push_of_room hp (by decide : 0 < 8) _)
    have hkeys := State.keys_storeResponse (y := s.deepened l) (old := c) acts (l := l) rfl hq hh
    rw [← ht] at hkeys
    rw [hdrive, hplatform]
    refine ⟨rfl, by simp [hpos.ne', State.responseNote], fun n hn => ?_, hkeys.trans (by cases l <;> rfl)⟩
    have hnote : n = s.responseNote l := by simpa using hn
    rw [hnote]
    exact ⟨rfl, rfl⟩

end Sys2Proof.Machine

/-!
PROOFS. The charge's completion (R76 to R78): the compare, the backoff and TRY_EXHAUSTION.
-/

namespace Sys2Proof.Machine

open Sys2Proof

/-! ## What a response leaves, whether or not it moves custody -/

/-- The kinds of the notices that a response queues on the Drive Port (R122, R123). -/
def State.responseKinds (s : State) (l : Level) : List NoticeKind :=
  (if s.custody.state.strength < l.target.strength then [.custodyChanged] else []) ++
    (if s.custody.state.strength = 0 ∧ s.lane.link = .held then [.laneLinkUp] else []) ++
    (if s.custody.state.strength = 0 then [.presentationChanged] else [])

/-- The fields of a response outside OPEN that say how far it went (R122, R123). -/
structure State.Responded (s : State) (l : Level) (t : State) : Prop where
  state : t.custody.state = if s.custody.state.strength < l.target.strength then l.target else s.custody.state
  mode : t.mode = if s.custody.state.strength = 0 then .blank else s.mode
  epoch : t.epoch = if s.custody.state.strength = 0 then s.epoch + 1 else s.epoch
  rights : s.custody.state.strength = 0 → ∀ r, (t.range r).hasRight = false
  flight : (∀ b, s.drive.inFlight.map InFlight.work ≠ some (.holding b)) → t.drive.inFlight = s.drive.inFlight
  slot : t.drive.replySlot = s.drive.replySlot
  kinds : s.drive.notices.length ≤ 5 →
    t.drive.notices.map (fun n => n.kind) = s.drive.notices.map (fun n => n.kind) ++ s.responseKinds l

theorem PortState.withdrawn_of_no_hold {q : PortState} (h : ∀ b, q.inFlight.map InFlight.work ≠ some (.holding b)) :
    q.withdrawn = q := by
  unfold PortState.withdrawn
  split
  · rename_i hf
    exact absurd (by rw [hf]; rfl) (h _)
  · rfl

theorem State.drive_hidden_fields (s : State) (l : Level) :
    (s.hidden l).drive.inFlight = s.drive.withdrawn.inFlight ∧ (s.hidden l).drive.replySlot = s.drive.replySlot := by
  simp only [State.hidden, State.hiddenDrive, PortState.inFlight_push, PortState.replySlot_push]
  split <;> simp

theorem State.responded_of_respond {s : State} (hopen : s.custody.state ≠ .opened) (l : Level) (acts : List Act) :
    s.Responded l (s.respond l acts) := by
  by_cases hlt : s.custody.state.strength < l.target.strength
  · have hrespond := State.respond_eq (State.responds_iff.2 ⟨hopen, hlt⟩) acts
    by_cases hzero : s.custody.state.strength = 0
    · rw [if_pos (Custody.inUse_iff_strength.2 ⟨hopen, hzero⟩)] at hrespond
      obtain ⟨sc, n, q, h, hframe⟩ := (s.hidden l).storeResponse_frame s.custody.state acts
      obtain ⟨hflight, hslot⟩ := s.drive_hidden_fields l
      rw [hrespond, hframe]
      refine ⟨by rw [if_pos hlt]; rfl, by rw [if_pos hzero]; rfl, by rw [if_pos hzero]; rfl, fun _ r => ?_, fun hno => ?_,
        hslot, fun hroom => ?_⟩
      · exact congrArg RangeEntry.hasRight (s.range_lockAll r)
      · exact hflight.trans (by rw [PortState.withdrawn_of_no_hold hno])
      · refine (congrArg (List.map _) (State.notices_hidden rfl hroom l)).trans ?_
        by_cases hheld : s.lane.link = .held <;>
          simp [State.responseKinds, hzero, hheld, l.strength_pos, State.responseNote, State.holdNote, changed]
    · have hin : ¬s.custody.state.inUse = true := fun h => hzero (Custody.inUse_iff_strength.1 h).2
      rw [if_neg hin] at hrespond
      obtain ⟨sc, n, q, h, hframe⟩ := (s.deepened l).storeResponse_frame s.custody.state acts
      rw [hrespond, hframe]
      refine ⟨by rw [if_pos hlt]; rfl, by rw [if_neg hzero]; rfl, by rw [if_neg hzero]; rfl, fun h => absurd h hzero,
        fun _ => PortState.inFlight_push .., PortState.replySlot_push .., fun hroom => ?_⟩
      refine (congrArg (List.map _) (PortState.notices_push_of_room (q := s.drive) rfl (by omega) (s.responseNote l))).trans ?_
      simp [State.responseKinds, hlt, hzero, State.responseNote]
  · have hzero : s.custody.state.strength ≠ 0 := fun h => hlt (h ▸ l.strength_pos)
    have hno : s.responds l = false := Bool.eq_false_iff.2 fun hr => hlt (State.responds_iff.1 hr).2
    rw [State.respond_of_no_effect hno]
    refine ⟨by rw [if_neg hlt], by rw [if_neg hzero], by rw [if_neg hzero], fun h => absurd h hzero, fun _ => rfl, rfl, fun _ => ?_⟩
    simp [State.responseKinds, hlt, hzero]

/-! ## The seal -/

/-- The seal of an event changes no notice's kind (R180). -/
theorem map_kind_stampNotices (old : Nat) (c : Custody) (q : PortState) :
    (stampNotices old c q).notices.map (fun n => n.kind) = q.notices.map fun n => n.kind := by
  have hmap : ((q.notices.drop old).map fun n => { n with custody := c }).map (fun n => n.kind) =
      (q.notices.drop old).map fun n => n.kind := by
    rw [List.map_map]
    rfl
  rw [stampNotices, List.map_append, hmap, ← List.map_append, List.take_append_drop]

/-! ## The compare -/

/-- The state in which the compare is made: the charge stored and live (R76). -/
def State.chargeStored (s : State) (x : TriesRec) : State :=
  { s with store := { s.store with tries := x }, tries := x, queue := [] }

theorem State.compare_of_charging {s : State} {k : ReqKind} {tag : Byte} {a : AuthId} {c : Secret} {req : CredReq}
    (hf : s.drive.inFlight = some ⟨k, tag, .charging a c req⟩) :
    s.compare =
      if s.authorities[a.val].accepts c then
        (({ s with tries := s.store.tries }).enter []
          (triesEntry (({ s with tries := s.store.tries } : State).refundedTries a) [.refunded])).setWork .drive (.refunding a req)
      else ({ s with tries := s.store.tries } : State).failCheck a := by
  simp only [State.compare, hf]

theorem exec_charge {s : State} (hs : s.Hears .drive) {x : TriesRec} (hq : s.queue = [triesEntry x [.charged]])
    (hh : s.held = []) {k : ReqKind} {tag : Byte} {a : AuthId} {c : Secret} {req : CredReq}
    (hflight : s.drive.inFlight = some ⟨k, tag, .charging a c req⟩) :
    exec .commitComplete s =
      .next (State.sealEvent s
        (if s.authorities[a.val].accepts c then
          ((s.chargeStored x).enter [] (triesEntry ((s.chargeStored x).refundedTries a) [.refunded])).setWork .drive
            (.refunding a req)
        else (s.chargeStored x).failCheck a)) :=
  (exec_commitComplete_of_one hs.1 hq hh).trans
    (congrArg (fun y => Host.Outcome.next (State.sealEvent s y))
      (State.compare_of_charging (s := s.committed (triesEntry x [.charged]) []) hflight))

end Sys2Proof.Machine

/-!
PROOFS. The compare of a credential check after its charge (R73, R76 to R78; O25).
-/

namespace Sys2Proof.Machine

open Sys2Proof

/-- A match is the digest of salt and credential equal to the verifier (R73). -/
theorem AuthorityRec.accepts_iff {r : AuthorityRec} {salt : Nonce} {v c : Secret} (hsalt : r.salt = some salt)
    (hv : r.verifier = some v) :
    r.accepts c = true ↔ Config.digest (leBytes 16 salt.toNat ++ leBytes 32 c.toNat) = v := by
  simp only [AuthorityRec.accepts, hsalt, hv, verifierOf, nonceBytes, secretBytes]
  exact decide_eq_true_iff

/-- A failed check short of its response and its reply: the backoff, and TRY_LOCKOUT where the mark is set (R78). -/
def State.failNoted (s : State) (a : AuthId) : State :=
  { s with
    backoff := s.backoff.set a.val (backoffOf s.tries.failures[a.val]) a.isLt
    drive := if s.tries.lockout[a.val] = true then s.drive.push ⟨.tryLockout, none, none, s.epoch, s.custody.state⟩
      else s.drive }

theorem State.failCheck_eq (s : State) (a : AuthId) :
    s.failCheck a =
      (if s.policy.deviceTryLimit ≤ s.tries.device then (s.failNoted a).take .tryExhaustion else s.failNoted a).answer .drive
        (.deniedCheck (backoffOf s.tries.failures[a.val]) s.tries.lockout[a.val]) := by
  have hnoted : (if s.tries.lockout[a.val] = true then
      (s.setBackoff a (backoffOf s.tries.failures[a.val])).notify .drive .tryLockout
      else s.setBackoff a (backoffOf s.tries.failures[a.val])) = s.failNoted a := by
    unfold State.failNoted
    split <;> rfl
  simp only [State.failCheck, hnoted]
  rfl

theorem State.drive_failNoted_fields (s : State) (a : AuthId) :
    (s.failNoted a).drive.inFlight = s.drive.inFlight ∧ (s.failNoted a).drive.replySlot = s.drive.replySlot := by
  unfold State.failNoted
  dsimp only
  split <;> simp

theorem State.drive_failNoted_adds (s : State) (a : AuthId) : s.drive.Adds s.custody.state (s.failNoted a).drive := by
  unfold State.failNoted
  dsimp only
  split
  · exact PortState.Adds.push (.of_same rfl) rfl
  · exact .of_same rfl

/-- The charge's completion where the credential matches. -/
theorem exec_charge_of_match {s : State} (hs : s.Hears .drive) {x : TriesRec} (hq : s.queue = [triesEntry x [.charged]])
    (hh : s.held = []) {k : ReqKind} {tag : Byte} {a : AuthId} {c : Secret} {req : CredReq}
    (hflight : s.drive.inFlight = some ⟨k, tag, .charging a c req⟩) (hmatch : s.authorities[a.val].accepts c = true) :
    exec .commitComplete s = .next { s.chargeStored x with
      queue := [triesEntry ((s.chargeStored x).refundedTries a) [.refunded]]
      drive := { s.drive with inFlight := some ⟨k, tag, .refunding a req⟩ } } := by
  rw [exec_charge hs hq hh hflight, if_pos hmatch, State.enter_of_empty (s := s.chargeStored x) rfl hh]
  refine congrArg Host.Outcome.next ?_
  simp only [State.setWork, State.setPort, State.port, State.chargeStored, hflight, Option.map_some]
  exact State.sealEvent_of_quiet (Nat.le_refl _) (Nat.le_refl _)

/-- The charge's completion on a mismatch below the device try limit. -/
theorem exec_charge_of_mismatch {s : State} (hs : s.Hears .drive) {x : TriesRec}
    (hq : s.queue = [triesEntry x [.charged]]) (hh : s.held = []) {k : ReqKind} {tag : Byte} {a : AuthId} {c : Secret}
    {req : CredReq} (hflight : s.drive.inFlight = some ⟨k, tag, .charging a c req⟩)
    (hmatch : ¬s.authorities[a.val].accepts c = true) (hdev : x.device < s.policy.deviceTryLimit) :
    exec .commitComplete s = .next { (s.chargeStored x).failNoted a with
      drive := ((s.chargeStored x).failNoted a).drive.finished k tag
        (.deniedCheck (backoffOf x.failures[a.val]) x.lockout[a.val]) } := by
  obtain ⟨hf, hslot⟩ := (s.chargeStored x).drive_failNoted_fields a
  rw [exec_charge hs hq hh hflight, if_neg hmatch, State.failCheck_eq,
    if_neg (show ¬(s.chargeStored x).policy.deviceTryLimit ≤ (s.chargeStored x).tries.device from Nat.not_le.2 hdev)]
  exact congrArg Host.Outcome.next (State.sealEvent_answer_of_adds (s := s) (hf.trans hflight) (hslot.trans hs.2.1)
    ((s.chargeStored x).drive_failNoted_adds a) (.of_same rfl) _)

/-- The charge's completion on a mismatch that leaves the device failure count at its limit. -/
theorem exec_charge_of_exhaustion {s : State} (hs : s.Hears .drive) {x : TriesRec}
    (hq : s.queue = [triesEntry x [.charged]]) (hh : s.held = []) {k : ReqKind} {tag : Byte} {a : AuthId} {c : Secret}
    {req : CredReq} (hflight : s.drive.inFlight = some ⟨k, tag, .charging a c req⟩)
    (hmatch : ¬s.authorities[a.val].accepts c = true) (hdev : s.policy.deviceTryLimit ≤ x.device) :
    exec .commitComplete s = .next (State.sealEvent s
      ((((s.chargeStored x).failNoted a).respond s.policy.tryExhaustion []).answer .drive
        (.deniedCheck (backoffOf x.failures[a.val]) x.lockout[a.val]))) := by
  rw [exec_charge hs hq hh hflight, if_neg hmatch, State.failCheck_eq,
    if_pos (show (s.chargeStored x).policy.deviceTryLimit ≤ (s.chargeStored x).tries.device from hdev)]
  rfl

/-- Settles O25: the compare either refunds, or sets the backoff and answers DENIED, with TRY_EXHAUSTION's response in
between where the device failure count stands at its limit. -/
theorem compareFollowsTheCharge : Obligations.CompareFollowsTheCharge := by
  unfold Obligations.CompareFollowsTheCharge
  intro s k tag a c req x hs hflight hq hh s1 backoff salt v hsalt hv
  have haccepts := AuthorityRec.accepts_iff (c := c) hsalt hv
  refine ⟨fun hd => exec_charge_of_match hs hq hh hflight (haccepts.2 hd), fun hd hdev => ?below, fun hd hdev hopen => ?atLimit⟩
  case below =>
    refine (exec_charge_of_mismatch hs hq hh hflight (fun h => hd (haccepts.1 h)) hdev).trans ?_
    refine congrArg (fun q => Host.Outcome.next { s1 with backoff := s.backoff.set a.val backoff a.isLt, drive := q }) ?_
    unfold State.failNoted
    dsimp only
    split
    · exact (PortState.finished_push ..).trans (if_pos ‹_›).symm
    · exact (if_neg ‹_›).symm
  case atLimit =>
    have hrun := exec_charge_of_exhaustion hs hq hh hflight (fun h => hd (haccepts.1 h)) hdev
    obtain ⟨hf, hslot⟩ := (s.chargeStored x).drive_failNoted_fields a
    have hres := State.responded_of_respond (s := (s.chargeStored x).failNoted a) hopen s.policy.tryExhaustion []
    obtain ⟨d, f, vs, la, m, e, cr, sc, n, q, h, hframe⟩ :=
      ((s.chargeStored x).failNoted a).respond_frame s.policy.tryExhaustion []
    have hno : ∀ b, ((s.chargeStored x).failNoted a).drive.inFlight.map InFlight.work ≠ some (.holding b) := by
      rw [hf, show (s.chargeStored x).drive.inFlight = _ from hflight]
      simp
    have hin := (hres.flight hno).trans (hf.trans hflight)
    have hempty := hres.slot.trans (hslot.trans hs.2.1)
    rw [State.answer_of_empty (p := .drive) hin hempty] at hrun
    refine ⟨_, hrun, ?_, ?_, ?_, rfl, rfl, hres.state, hres.mode, hres.epoch, hres.rights, fun hnone => ?_⟩
    · exact (congrArg State.backoff hframe).trans rfl
    · exact (congrArg State.tries hframe).trans rfl
    · exact congrArg (fun y => y.store.tries) hframe
    · refine (map_kind_stampNotices _ _ _).trans ?_
      have hnoted : ((s.chargeStored x).failNoted a).drive.notices =
          if x.lockout[a.val] = true then [⟨.tryLockout, none, none, s.epoch, s.custody.state⟩] else [] := by
        by_cases hb : x.lockout[a.val] = true
        · rw [if_pos hb, show ((s.chargeStored x).failNoted a).drive = _ from if_pos hb]
          exact PortState.notices_push_of_room hnone (by decide) _
        · rw [if_neg hb, show ((s.chargeStored x).failNoted a).drive = _ from if_neg hb]
          exact hnone
      refine (hres.kinds ?room).trans ?_
      case room =>
        rw [hnoted]
        split <;> simp
      rw [hnoted, State.responseKinds, ← List.append_assoc, ← List.append_assoc]
      refine congrArg₂ _ (congrArg₂ _ (congrArg₂ _ ?_ rfl) rfl) rfl
      split <;> rfl

end Sys2Proof.Machine

/-!
PROOFS. SET_AUTHORITY at its refund and the completions of what it enters (R84 to R86; O26).
-/

namespace Sys2Proof.Machine

open Sys2Proof

/-! ## The completions -/

/-- The frame of a completion that acts on the live state and then answers. -/
theorem exec_completion_of_acts {s : State} {k : ReqKind} {tag : Byte} {e : Entry} (h : s.AtCommit .drive k tag e)
    {as : List Act} {ans : Answer} (hacts : e.acts = as ++ [.answer .drive ans]) {x : State}
    (hx : as.foldl State.act (s.committed e []) = x) (hd : x.drive = s.drive) (hp : x.platform = s.platform) :
    exec .commitComplete s = .next { x with drive := s.drive.finished k tag (x.answerBody ans) } := by
  refine exec_completion_of_answer (p := .drive) h (b := x.answerBody ans) ?_ hd hp
  rw [hacts, List.foldl_append, hx]
  rfl

/-- TRY_LOCKOUT as a LIMIT's Tries entry completes: where it newly sets the mark (R85). -/
theorem exec_limitStored {s : State} (hp : s.powered = true) (hh : s.held = []) {x : TriesRec} {t : AuthId} {e : Entry}
    (hq : s.queue = [⟨.single .tries, [.tries x], [.limitStored t]⟩, e]) :
    exec .commitComplete s = .next { s with
      store := { s.store with tries := x }
      tries := x
      queue := [e]
      drive := if s.tries.lockout[t.val] = false ∧ x.lockout[t.val] = true then
        s.drive.push ⟨.tryLockout, none, none, s.epoch, s.custody.state⟩ else s.drive } := by
  let y : State := { s with store := { s.store with tries := x }, queue := [e] }
  rw [exec_commitComplete_of_cons hp hq hh]
  refine congrArg Host.Outcome.next ?_
  change State.sealEvent s (y.limitStored t) = _
  by_cases hmark : s.tries.lockout[t.val] = false ∧ x.lockout[t.val] = true
  · have hnew : y.limitStored t = { y with tries := x }.notify .drive .tryLockout := by
      refine if_pos ?_
      simpa using hmark
    rw [hnew, if_pos hmark]
    have hadds : s.drive.Adds s.custody.state (({ y with tries := x } : State).notify .drive .tryLockout).drive :=
      PortState.Adds.push (.of_same rfl) rfl
    exact State.sealEvent_of_adds (b := s) (s := ({ y with tries := x } : State).notify .drive .tryLockout) hadds (.of_same rfl)
  · have hold : y.limitStored t = { y with tries := x } := by
      refine if_neg ?_
      simpa using hmark
    rw [hold, if_neg hmark]
    exact State.sealEvent_of_quiet (Nat.le_refl _) (Nat.le_refl _)

/-! ## The operations at the refund -/

section
variable {s : State} {tag : Byte} {a t : AuthId} {op : AuthorityOp} {c : Secret} {limit : Nat} {x : TriesRec}

/-- A SET_AUTHORITY operation that is answered at the refund. -/
theorem exec_setAuthority_of_answer (h : s.AtRefund .setAuthority tag a (.setAuthority t op c limit) x) {b : ReplyBody}
    (hgo : (s.refundTaken a x).goSetAuthority t op c limit = (s.refundTaken a x).answer .drive b) :
    exec .commitComplete s = .next { s.refundTaken a x with drive := s.drive.finished .setAuthority tag b } :=
  exec_refund_of_answer h hgo

/-- A SET_AUTHORITY operation with one commit. -/
theorem exec_setAuthority_of_one (h : s.AtRefund .setAuthority tag a (.setAuthority t op c limit) x)
    (hw : s.supplyWarning = false) {w : Entry}
    (hgo : (s.refundTaken a x).goSetAuthority t op c limit = (s.refundTaken a x).commitRequest [w]) :
    exec .commitComplete s =
      .next { s.refundTaken a x with queue := [w], drive := s.drive.committing .setAuthority tag } :=
  exec_refund_of_commit (x := s.refundTaken a x) h
    (hgo.trans (State.commitRequest_one (s := s.refundTaken a x) rfl h.2.2.2 hw w)) rfl rfl

/-- A SET_AUTHORITY operation with a Tries commit before its last. -/
theorem exec_setAuthority_of_two (h : s.AtRefund .setAuthority tag a (.setAuthority t op c limit) x)
    (hw : s.supplyWarning = false) {v w : Entry}
    (hgo : (s.refundTaken a x).goSetAuthority t op c limit = (s.refundTaken a x).commitRequest [v, w]) :
    exec .commitComplete s =
      .next { s.refundTaken a x with queue := [v, w], drive := s.drive.committing .setAuthority tag } :=
  exec_refund_of_commit (x := s.refundTaken a x) h
    (hgo.trans (State.commitRequest_two (s := s.refundTaken a x) rfl h.2.2.2 hw v w)) rfl rfl

end

theorem State.goSetAuthority_of_inUse {s : State} (h : s.custody.state.inUse = true) (t : AuthId) (op : AuthorityOp)
    (c : Secret) (limit : Nat) :
    s.goSetAuthority t op c limit =
      match op with
      | .credential => s.goCredential t c
      | .limit => s.goLimit t limit
      | .enable => s.goEnable t
      | .disable => s.goDisable t
      | .reinstate => s.goReinstate t := by
  simp only [State.goSetAuthority, h]
  cases op <;> rfl

theorem State.goCredential_of_empty {s : State} (hq : s.queue = []) (hh : s.held = []) (hw : s.supplyWarning = false)
    (t : AuthId) (c : Secret) :
    s.goCredential t c =
      s.drawNonce.2.commitRequest [authorityEntry t
        { s.authorities[t.val] with
          stored := if s.authorities[t.val].stored = .unset then .active else s.authorities[t.val].stored
          salt := some s.drawNonce.1
          verifier := some (verifierOf s.drawNonce.1 c) } [.authorityStored t, .answer .drive (.authority t)]] := by
  simp only [State.goCredential, State.refusesWrites_of_empty hq hh hw [.single (.authority t)] (by decide : 1 ≤ 4)]
  rfl

/-! ## LIMIT -/

theorem State.goLimit_of_frozen {s : State} {t : AuthId} {limit : Nat} (hf : s.policy.frozen = true)
    (hl : s.authorities[t.val].tryLimit < limit) : s.goLimit t limit = s.answer .drive (.code .frozen) :=
  if_pos (by simp [hf, hl])

theorem State.goLimit_of_equal {s : State} {t : AuthId} {limit : Nat} (hl : limit = s.authorities[t.val].tryLimit) :
    s.goLimit t limit = s.answer .drive (s.authorityReply t) :=
  (if_neg (by simp [hl])).trans (if_pos hl)

theorem State.goLimit_of_changed {s : State} {t : AuthId} {limit : Nat}
    (hf : s.policy.frozen = false ∨ limit < s.authorities[t.val].tryLimit) (hl : limit ≠ s.authorities[t.val].tryLimit) :
    s.goLimit t limit = s.commitRequest
      ((if limit ≤ s.tries.failures[t.val] then
          [triesEntry (s.tries.withCount t limit (s.tries.lockout[t.val] || t.val != 0)) [.limitStored t]]
        else []) ++
        [authorityEntry t { s.authorities[t.val] with tryLimit := limit } [.authorityStored t, .answer .drive (.authority t)]]) := by
  refine (if_neg ?_).trans (if_neg hl)
  rcases hf with hf | hf
  · simp [hf]
  · simpa using fun _ => Nat.le_of_lt hf

/-- An authority other than the Administrator, as the model writes it. -/
theorem AuthId.val_bne_zero : ∀ t : AuthId, (t.val != 0) = decide (t ≠ 0) := by decide

/-! ## O26 -/

/-- The completions of SET_AUTHORITY's entries. -/
theorem setAuthority_completions (s : State) (tag : Byte) (t : AuthId) :
    let ends (s1 : State) : State := { s1 with
      drive := s.drive.finished .setAuthority tag
        (.authority (s1.authorityState t) s1.tries.failures[t.val] s1.authorities[t.val].tryLimit) }
    let cleared := s.backoff.set t.val 0 t.isLt
    (∀ r, s.AtCommit .drive .setAuthority tag
        ⟨.single (.authority t), [.authority t r], [.authorityStored t, .answer .drive (.authority t)]⟩ →
      exec .commitComplete s = .next (ends { s with
        store := { s.store with authorities := s.store.authorities.set t.val r t.isLt }
        authorities := s.authorities.set t.val r t.isLt, queue := [] })) ∧
    (∀ r, s.AtCommit .drive .setAuthority tag ⟨.single (.authority t), [.authority t r],
        [.authorityStored t, .backoffCleared t, .answer .drive (.authority t)]⟩ →
      exec .commitComplete s = .next (ends { s with
        store := { s.store with authorities := s.store.authorities.set t.val r t.isLt }
        authorities := s.authorities.set t.val r t.isLt, backoff := cleared, queue := [] })) ∧
    (∀ x, s.AtCommit .drive .setAuthority tag ⟨.single .tries, [.tries x],
        [.triesStored, .backoffCleared t, .answer .drive (.authority t)]⟩ →
      exec .commitComplete s = .next (ends { s with
        store := { s.store with tries := x }, tries := x, backoff := cleared, queue := [] })) := by
  intro ends cleared
  have hstored (r : AuthorityRec) : (s.written [.authority t r]).act (.authorityStored t) = { s with
      store := { s.store with authorities := s.store.authorities.set t.val r t.isLt }
      authorities := s.authorities.set t.val r t.isLt, queue := [] } := by
    change (s.written [.authority t r]).setAuthority t (s.store.authorities.set t.val r t.isLt)[t.val] = _
    rw [Vector.getElem_set_self]
    rfl
  refine ⟨fun r h => exec_completion_of_acts (as := [.authorityStored t]) h rfl (hstored r) rfl rfl,
    fun r h => exec_completion_of_acts (as := [.authorityStored t, .backoffCleared t]) h rfl ?_ rfl rfl,
    fun x h => exec_completion_of_acts (as := [.triesStored, .backoffCleared t]) h rfl rfl rfl rfl⟩
  exact congrArg (fun y => State.act y (.backoffCleared t)) (hstored r)

/-- Settles O26: the five operations by the way they go on, and the completions of what they enter. -/
theorem setAuthorityOperations : Obligations.SetAuthorityOperations := by
  unfold Obligations.SetAuthorityOperations
  constructor
  · intro s tag t ends cleared
    obtain ⟨hlast, hcleared, hreinstated⟩ := setAuthority_completions s tag t
    refine ⟨hlast, hcleared, hreinstated, ?_⟩
    intro x e hp hh s1 n
    refine ⟨fun hq => ?_, fun hq => exec_limitStored hp hh hq⟩
    exact (exec_commitComplete_of_cons hp hq hh).trans
      (congrArg Host.Outcome.next (State.sealEvent_of_quiet (Nat.le_refl _) (Nat.le_refl _)))
  · intro s tag a t op c limit x h hin hw s1 r state answer current enters authority cleared n newVerifier
    have hgo := State.goSetAuthority_of_inUse (s := s1) (Custody.inUse_iff.2 hin) t op c limit
    refine ⟨fun hop => ?credential, fun hop => ?limit, fun hop => ?enable, fun hop => ?disable, fun hop => ?reinstate⟩
    all_goals
      subst hop
      dsimp only at hgo
    case credential =>
      exact exec_refund_of_commit (x := s1.drawNonce.2) h (hgo.trans ((State.goCredential_of_empty (s := s1) rfl h.2.2.2 hw t c).trans
        (State.commitRequest_one (s := s1.drawNonce.2) rfl h.2.2.2 hw _))) rfl rfl
    case limit =>
      refine ⟨fun hf hl => exec_setAuthority_of_answer h (hgo.trans (State.goLimit_of_frozen hf hl)),
        fun hl => exec_setAuthority_of_answer h (hgo.trans (State.goLimit_of_equal hl)), fun hf hl => ?_⟩
      have hchanged := hgo.trans (State.goLimit_of_changed (s := s1) hf hl)
      refine ⟨fun hlt => ?_, fun hle => ?_⟩
      · rw [if_neg (show ¬limit ≤ s1.tries.failures[t.val] from Nat.not_le.2 hlt)] at hchanged
        exact exec_setAuthority_of_one h hw hchanged
      · have hmark := congrArg (x.lockout[t.val] || ·) (AuthId.val_bne_zero t)
        rw [if_pos (show limit ≤ s1.tries.failures[t.val] from hle)] at hchanged
        rw [← hmark]
        exact exec_setAuthority_of_two h hw hchanged
    case enable =>
      refine ⟨fun hs => exec_setAuthority_of_two h hw (hgo.trans ?_), fun hs => exec_setAuthority_of_answer h (hgo.trans ?_),
        fun hs => exec_setAuthority_of_answer h (hgo.trans ?_)⟩
      · simp only [State.goEnable, show s1.authorityState t = _ from hs]
        rfl
      · simp only [State.goEnable, show s1.authorityState t = _ from hs]
        rfl
      · rcases hs with hs | hs
        all_goals
          simp only [State.goEnable, show s1.authorityState t = _ from hs]
          rfl
    case disable =>
      refine ⟨fun hs => exec_setAuthority_of_one h hw (hgo.trans ?_), fun hs => exec_setAuthority_of_answer h (hgo.trans ?_),
        fun hs => exec_setAuthority_of_answer h (hgo.trans ?_)⟩
      · rcases hs with hs | hs
        all_goals
          simp only [State.goDisable, show s1.authorityState t = _ from hs]
          rfl
      · simp only [State.goDisable, show s1.authorityState t = _ from hs]
        rfl
      · simp only [State.goDisable, show s1.authorityState t = _ from hs]
        rfl
    case reinstate =>
      refine ⟨fun hs => exec_setAuthority_of_one h hw (hgo.trans ?_), fun hs => exec_setAuthority_of_answer h (hgo.trans ?_)⟩
      · simp only [State.goReinstate, show s1.authorityState t = _ from hs]
        rfl
      · unfold State.goReinstate
        split
        · exact absurd ‹_› hs
        · rfl

end Sys2Proof.Machine

/-!
PROOFS. CHECK_IN (R116, R117; O43).
-/

namespace Sys2Proof.Machine

open Sys2Proof

/-! ## A request whose effect leaves the ports' notices, or adds to them -/

/-- A request that is answered at once and changes more than its port, the notices apart. -/
theorem takeRequest_of_replied {s x : State} {p : Port} (hs : s.Hears p) {k : ReqKind} {pl : List Byte}
    (h : frameRefusal s k p pl = none) {tag : Byte} {owner : State → State} {b : ReplyBody}
    (howner : owner (s.endTransaction p) = x.replyTo k p tag b)
    (hd : x.drive = (s.endTransaction p).drive) (hp : x.platform = (s.endTransaction p).platform) :
    takeRequest k p tag pl owner s = x.setPort p ((s.port p).answered k tag b) := by
  have hreply : x.replyTo k p tag b = x.setPort p ((s.port p).answered k tag b) := by
    cases p <;> simp only [State.replyTo, State.reply, State.port, hd, hp] <;> rfl
  refine takeRequest_of_quiet hs h tag (howner.trans hreply) fun p' => ?_
  cases p <;> cases p' <;> simp only [State.setPort, State.port, hd, hp] <;> exact Nat.le_refl _

/-- A request that goes in flight on the Platform Port, behind the notices of its event. -/
theorem takeRequest_of_noted {s x : State} (hs : s.Hears .platform) {k : ReqKind} {pl : List Byte}
    (h : frameRefusal s k .platform pl = none) {tag : Byte} {owner : State → State} {w : Work}
    (howner : owner (s.endTransaction .platform) = x.startWork k .platform tag w)
    (hd : s.drive.Adds x.custody.state x.drive)
    (hp : (s.endTransaction .platform).platform.Adds x.custody.state x.platform) :
    takeRequest k .platform tag pl owner s =
      { x with platform := { x.platform with inFlight := some ⟨k, tag, w⟩ } } := by
  rw [takeRequest_of_taken hs h, howner]
  exact State.sealEvent_of_adds (b := s.endTransaction .platform) (s := x.startWork k .platform tag w) hd hp

theorem PortState.push_flight (q : PortState) (n : Notice) (f : Option InFlight) :
    { q.push n with inFlight := f } = { q with inFlight := f }.push n := by
  unfold PortState.push
  split <;> rfl

/-! ## The owner, case by case -/

section
variable {s : State} {k : Secret} (tag : Byte) (pl : List Byte)

theorem checkInOwner_of_unpaired (hk : s.pairing = none) :
    checkInOwner tag pl s = s.replyTo .checkIn .platform tag (.code .state) := by
  simp only [checkInOwner, hk]

theorem checkInOwner_of_gone (hk : s.pairing = some k) (hopen : s.custody.state ≠ .opened)
    (hin : s.custody.state.inUse = false) :
    checkInOwner tag pl s = s.replyTo .checkIn .platform tag (.code .state) := by
  simp only [checkInOwner, hk, hin]
  exact if_pos (by simpa using hopen)

/-- The states in which a CHECK_IN is not refused for the custody state. -/
theorem checkInAdmits {s : State} (h : s.custody.state = .opened ∨ s.custody.state.inUse = true) :
    ¬(!(decide (s.custody.state = .opened) || s.custody.state.inUse)) = true := by
  simpa using fun ho => h.resolve_left ho

theorem checkInOwner_of_unasked (hk : s.pairing = some k)
    (hstate : s.custody.state = .opened ∨ s.custody.state.inUse = true) (hn : s.challenge = none) :
    checkInOwner tag pl s = s.replyTo .checkIn .platform tag (.code .denied) := by
  simp only [checkInOwner, hk, if_neg (checkInAdmits hstate), hn]

theorem checkInOwner_of_mismatch {n : Nonce} (hk : s.pairing = some k)
    (hstate : s.custody.state = .opened ∨ s.custody.state.inUse = true) (hn : s.challenge = some n)
    (hne : secretAt pl 0 ≠ answerFor k n) :
    checkInOwner tag pl s =
      if s.custody.verdict = .pending then (s.consume.replyTo .checkIn .platform tag (.code .denied)).becomeForeign
      else s.consume.replyTo .checkIn .platform tag (.code .denied) := by
  simp only [checkInOwner, hk, if_neg (checkInAdmits hstate), hn, if_pos hne]

theorem checkInOwner_of_opened {n : Nonce} (hk : s.pairing = some k) (ho : s.custody.state = .opened)
    (hn : s.challenge = some n) (heq : secretAt pl 0 = answerFor k n) :
    checkInOwner tag pl s =
      ({ s.consume with custody := { s.custody with
        verdict := if s.custody.verdict = .pending then .paired else s.custody.verdict } } : State).replyTo
        .checkIn .platform tag (.custody .opened) := by
  simp only [checkInOwner, hk, if_neg (checkInAdmits (.inl ho)), hn, if_neg (not_not.2 heq), if_pos ho]

theorem checkInOwner_of_refused {n : Nonce} {r : Result} (hk : s.pairing = some k) (hin : s.custody.state.inUse = true)
    (hn : s.challenge = some n) (heq : secretAt pl 0 = answerFor k n) (hr : s.refusesWrites [.single .custody] = some r) :
    checkInOwner tag pl s = s.replyTo .checkIn .platform tag (.code r) := by
  have hopen : s.custody.state ≠ .opened := fun h => by simp [h, Custody.inUse] at hin
  simp only [checkInOwner, hk, if_neg (checkInAdmits (.inr hin)), hn, if_neg (not_not.2 heq), if_neg hopen, hr]

theorem checkInOwner_of_admitted {n : Nonce} (hk : s.pairing = some k) (hin : s.custody.state.inUse = true)
    (hn : s.challenge = some n) (heq : secretAt pl 0 = answerFor k n) (hr : s.refusesWrites [.single .custody] = none) :
    checkInOwner tag pl s =
      (s.checkedIn.enterAll [custodyEntry (s.checkedIn.custodyRec true false) [.answer .platform .custody]]).startWork
        .checkIn .platform tag .committing := by
  have hopen : s.custody.state ≠ .opened := fun h => by simp [h, Custody.inUse] at hin
  simp only [checkInOwner, hk, if_neg (checkInAdmits (.inr hin)), hn, if_neg (not_not.2 heq), if_neg hopen, hr]

end

/-! ## The two effects -/

/-- What a PENDING verdict's end as FOREIGN leaves (R117). -/
theorem State.becomeForeign_fields (s : State) : ∃ q h, s.becomeForeign =
    { s with
      custody := { s.custody with
        verdict := .foreign
        foreignCount := if s.custody.state.inUse then min (s.custody.foreignCount + 1) 15 else s.custody.foreignCount }
      queue := q, held := h } := by
  unfold State.becomeForeign
  split
  · exact State.storeCustody_frame ..
  · exact ⟨s.queue, s.held, rfl⟩

theorem State.storeCustody_of_empty {s : State} (hq : s.queue = []) (hh : s.held = []) (b c : Bool) (acts : List Act) :
    s.storeCustody b c acts = { s with queue := [custodyEntry (s.custodyRec b c) acts] } :=
  State.enter_of_empty hq hh [] _

theorem State.becomeForeign_acts {s : State} (hq : s.queue = []) (hh : s.held = []) :
    (s.becomeForeign.queue.map fun e => e.acts) = if s.custody.state.inUse then [[.foreignTest]] else [] := by
  unfold State.becomeForeign
  split
  · refine (congrArg (fun x : State => x.queue.map fun e => e.acts) (State.storeCustody_of_empty ?_ ?_ ..)).trans rfl
    · exact hq
    · exact hh
  · exact congrArg (List.map _) hq

/-- A matching CHECK_IN before its commit is entered. -/
theorem State.checkedIn_eq (s : State) : s.checkedIn =
    { s with
      challenge := none
      custody := { s.custody with
        state := .guarded, checkin := 0, checkinSecs := 0, foreignCount := 0
        verdict := if s.custody.verdict = .pending then .paired else s.custody.verdict }
      drive := if s.custody.state = .warned then s.drive.push ⟨.custodyChanged, none, none, s.epoch, .guarded⟩ else s.drive
      platform := if s.custody.state = .warned then s.platform.push ⟨.custodyChanged, none, none, s.epoch, .guarded⟩
        else s.platform } := by
  by_cases hw : s.custody.state = .warned
  · simp only [State.checkedIn, if_pos hw]
    rfl
  · simp only [State.checkedIn, if_neg hw]

theorem State.enterAll_checkedIn {s : State} (hq : s.queue = []) (hh : s.held = []) (w : Entry) :
    s.checkedIn.enterAll [w] = { s.checkedIn with queue := [w] } := by
  have hqueue : s.checkedIn.queue = [] := (congrArg State.queue s.checkedIn_eq).trans hq
  exact State.enterAll_one_of_empty hqueue ((congrArg State.held s.checkedIn_eq).trans hh) w

/-- Where a CHECK_IN is not refused for the custody state, OPEN and in use are the two cases. -/
theorem ite_inUse {α : Type} {c : Custody} (h : c = .opened ∨ c.inUse = true) (a b : α) :
    (if c.inUse then a else b) = if c = .opened then b else a := by
  rcases h with rfl | h
  · rfl
  · rw [if_pos h, if_neg fun ho => by simp [ho, Custody.inUse] at h]

/-- Settles O43: the owner's cases, and the completion that answers. -/
theorem checkInAnswersTheChallenge : Obligations.CheckInAnswersTheChallenge := by
  refine ⟨fun s tag pl hs hlen => ?taken, fun s tag c h => exec_completion_of_answer h rfl rfl rfl⟩
  intro inUse run reply verdict
  have hport : frameRefusal s .checkIn .platform pl = none :=
    frameRefusal_of_ready hs.2 rfl (by simp [admitsLength, hlen])
  have hreply {b : ReplyBody} (howner : checkInOwner tag pl (s.endTransaction .platform) =
      (s.endTransaction .platform).replyTo .checkIn .platform tag b) : run = .next { s with platform := reply b } :=
    congrArg Host.Outcome.next (takeRequest_of_reply hs.1 hport howner)
  refine ⟨fun hk => hreply (checkInOwner_of_unpaired tag pl hk), fun k hk => ⟨fun ho hin => ?gone, fun hstate => ?here⟩⟩
  case gone => exact hreply (checkInOwner_of_gone tag pl hk ho (Custody.inUse_eq_false_iff.2 hin))
  case here =>
    have hstate : s.custody.state = .opened ∨ s.custody.state.inUse = true := hstate.imp_right Custody.inUse_iff.2
    refine ⟨fun hn => hreply (checkInOwner_of_unasked tag pl hk hstate hn), fun n hn => ?asked⟩
    intro proof
    have hpresented : BitVec.ofNat 256 (leNat pl) = secretAt pl 0 := by
      rw [← toNat_secretAt_zero hlen, BitVec.ofNat_toNat, BitVec.setWidth_eq]
    rw [hpresented]
    refine ⟨fun hne => ?mismatch, fun heq => ⟨fun ho => ?opened, fun hin hw => ?warning, fun hin hw hq hh => ?proved⟩⟩
    case mismatch =>
      have howner := checkInOwner_of_mismatch (s := s.endTransaction .platform) tag pl hk hstate hn hne
      refine ⟨fun hv => ?_, fun hv => ?_⟩
      · rw [if_neg (show ¬(s.endTransaction .platform).custody.verdict = _ from hv)] at howner
        exact congrArg Host.Outcome.next (takeRequest_of_replied hs.1 hport howner rfl rfl)
      · rw [if_pos (show (s.endTransaction .platform).custody.verdict = _ from hv)] at howner
        obtain ⟨q, h, hfields⟩ :=
          ((s.endTransaction .platform).consume.replyTo .checkIn .platform tag (.code .denied)).becomeForeign_fields
        have hquiet := takeRequest_of_quiet hs.1 hport tag (howner.trans hfields) fun p => by cases p <;> exact Nat.le_refl _
        refine ⟨_, congrArg Host.Outcome.next hquiet, rfl, rfl, rfl, ?_, fun hq hh => ?_⟩
        · exact ite_inUse hstate _ _
        · have hacts := State.becomeForeign_acts
            (s := (s.endTransaction .platform).consume.replyTo .checkIn .platform tag (.code .denied)) hq hh
          rw [hfields] at hacts
          exact hacts.trans (ite_inUse hstate _ _)
    case opened =>
      exact congrArg Host.Outcome.next (takeRequest_of_replied hs.1 hport
        (checkInOwner_of_opened (s := s.endTransaction .platform) tag pl hk ho hn heq) rfl rfl)
    case warning =>
      exact hreply (checkInOwner_of_refused (s := s.endTransaction .platform) tag pl hk (Custody.inUse_iff.2 hin) hn heq
        (State.refusesWrites_of_warning hw _))
    case proved =>
      intro note flying
      have hempty := State.refusesWrites_of_empty (s := s.endTransaction .platform) hq hh hw [.single .custody] (by decide : 1 ≤ 4)
      have howner := (checkInOwner_of_admitted (s := s.endTransaction .platform) tag pl hk (Custody.inUse_iff.2 hin) hn heq
        hempty).trans (congrArg (State.startWork · .checkIn .platform tag .committing)
          (State.enterAll_checkedIn (s := s.endTransaction .platform) hq hh _))
      rw [State.checkedIn_eq] at howner
      by_cases hwarned : (s.endTransaction .platform).custody.state = .warned
      · simp only [if_pos hwarned] at howner
        refine (congrArg Host.Outcome.next (takeRequest_of_noted hs.1 hport howner (.push (.of_same rfl) rfl)
          (.push (.of_same rfl) rfl))).trans ?_
        rw [if_pos (show s.custody.state = .warned from hwarned), if_pos (show s.custody.state = .warned from hwarned)]
        simp only [PortState.push_flight]
        rfl
      · simp only [if_neg hwarned] at howner
        refine (congrArg Host.Outcome.next (takeRequest_of_started hs.1 hport howner rfl rfl)).trans ?_
        rw [if_neg (show ¬s.custody.state = .warned from hwarned), if_neg (show ¬s.custody.state = .warned from hwarned)]
        rfl

end Sys2Proof.Machine

/-!
PROOFS. The Key-erase group's completion (R131, R133; O46): what the group writes, and what waits on it.
-/

namespace Sys2Proof.Machine

open Sys2Proof

/-! ## The group's writes -/

/-- Every listed element mapped, one write at a time. -/
def mapAt {α : Type} {n : Nat} (f : α → α) (l : List (Fin n)) (v : Vector α n) : Vector α n :=
  l.foldl (fun v i => v.set i.val (f v[i.val]) i.isLt) v

theorem getElem_mapAt {α : Type} {n : Nat} (f : α → α) {l : List (Fin n)} (hl : l.Nodup) (v : Vector α n) (j : Fin n) :
    (mapAt f l v)[j.val] = if j ∈ l then f v[j.val] else v[j.val] := by
  induction l generalizing v with
  | nil => rfl
  | cons i l ih =>
    obtain ⟨hi, hl⟩ := List.nodup_cons.1 hl
    have hstep : (mapAt f (i :: l) v)[j.val] = (mapAt f l (v.set i.val (f v[i.val]) i.isLt))[j.val] := rfl
    rw [hstep, ih hl, Vector.getElem_set]
    by_cases hij : i = j
    · subst hij
      simp [hi]
    · simp [Fin.val_ne_of_ne hij, Ne.symm hij]

theorem Records.commit_append (st : Records) (a b : List RecordWrite) : st.commit (a ++ b) = (st.commit a).commit b :=
  List.foldl_append

theorem Records.commit_eraseKeys (st : Records) (l : List RangeId) :
    st.commit (l.map .eraseKey) = { st with keys := mapAt KeyRec.erased l st.keys } := by
  induction l generalizing st with
  | nil => rfl
  | cons r l ih => exact ih _

theorem Records.commit_rangeStates (st : Records) (x : RangeState) (l : List RangeId) :
    st.commit (l.map (.rangeState · x)) = { st with ranges := mapAt (withState x) l st.ranges } := by
  induction l generalizing st with
  | nil => rfl
  | cons r l ih => exact ih _

theorem Records.commit_unsetAuthorities (st : Records) (l : List AuthId) :
    st.commit (l.map .unsetAuthority) = { st with authorities := mapAt AuthorityRec.erased l st.authorities } := by
  induction l generalizing st with
  | nil => rfl
  | cons r l ih => exact ih _

/-- The store after the Key-erase group (R131). -/
theorem Records.commit_eraseGroup (st : Records) (root : Secret) (c : CustodyRec) (j : JournalRec) (acts : List Act) :
    st.commit (eraseGroupEntry root c j acts).writes =
      { st with
        identity := { st.identity with rootKey := root }
        keys := mapAt KeyRec.erased allRanges st.keys
        ranges := mapAt (withState .void) allRanges st.ranges
        authorities := mapAt AuthorityRec.erased allAuthorities st.authorities
        custody := c
        journal := j } := by
  simp only [eraseGroupEntry, Records.commit_append, Records.commit_eraseKeys, Records.commit_rangeStates,
    Records.commit_unsetAuthorities]
  rfl

theorem mem_allAuthorities (a : AuthId) : a ∈ allAuthorities := by revert a; decide

/-! ## What waits on the group -/

/-- The two kinds of waiter of a response's storing commit. -/
def Act.Waits (x : Act) : Prop := x = .custodyJobStored ∨ ∃ p, x = .answer p .custody

theorem State.custodyJobStored_idem (s : State) : s.custodyJobStored.custodyJobStored = s.custodyJobStored := rfl

theorem State.answer_custody_frame (s : State) (p : Port) :
    ∃ q : PortState, s.answer p (.custody s.custody.state) = s.setPort p q ∧ q.notices = (s.port p).notices := by
  unfold State.answer
  split
  · refine ⟨s.port p, ?_, rfl⟩
    cases p <;> rfl
  · split
    · exact ⟨_, rfl, rfl⟩
    · exact ⟨_, rfl, rfl⟩

theorem State.act_answer_custody (s : State) (p : Port) :
    s.act (.answer p .custody) = s.answer p (.custody s.custody.state) := rfl

/-- Waiters change the Scrub Controller and the ports alone, and queue no notice. -/
theorem State.foldl_waits_frame {acts : List Act} (h : ∀ x ∈ acts, x.Waits) (s : State) :
    ∃ d f sc, acts.foldl State.act s = { s with drive := d, platform := f, scrub := sc } ∧
      d.notices = s.drive.notices ∧ f.notices = s.platform.notices := by
  induction acts generalizing s with
  | nil => exact ⟨s.drive, s.platform, s.scrub, rfl, rfl, rfl⟩
  | cons x acts ih =>
    obtain ⟨hx, hacts⟩ := List.forall_mem_cons.1 h
    obtain ⟨d, f, sc, heq, hd, hf⟩ := ih hacts (s.act x)
    rw [List.foldl_cons, heq]
    rcases hx with rfl | ⟨p, rfl⟩
    · exact ⟨d, f, sc, rfl, hd, hf⟩
    · obtain ⟨q, hq, hn⟩ := s.answer_custody_frame p
      rw [State.act_answer_custody, hq] at hd hf ⊢
      cases p
      · exact ⟨d, f, sc, rfl, hd.trans hn, hf⟩
      · exact ⟨d, f, sc, rfl, hd, hf.trans hn⟩

theorem State.scrub_foldl_waits {acts : List Act} (h : ∀ x ∈ acts, x.Waits) (s : State) :
    (acts.foldl State.act s).scrub = if .custodyJobStored ∈ acts then s.custodyJobStored.scrub else s.scrub := by
  induction acts generalizing s with
  | nil => rfl
  | cons x acts ih =>
    obtain ⟨hx, hacts⟩ := List.forall_mem_cons.1 h
    rw [List.foldl_cons, ih hacts]
    rcases hx with rfl | ⟨p, rfl⟩
    · rw [if_pos List.mem_cons_self, show s.act .custodyJobStored = s.custodyJobStored from rfl, State.custodyJobStored_idem,
        ite_self]
    · obtain ⟨q, hq, -⟩ := s.answer_custody_frame p
      rw [State.act_answer_custody, hq]
      have hscrub : (s.setPort p q).custodyJobStored.scrub = s.custodyJobStored.scrub ∧ (s.setPort p q).scrub = s.scrub := by
        cases p <;> exact ⟨rfl, rfl⟩
      rw [hscrub.1, hscrub.2]
      simp

/-- A waiter that answers another port leaves this one. -/
theorem State.port_act_of_other {x : Act} (hx : x.Waits) {p : Port} (hp : x ≠ .answer p .custody) (s : State) :
    (s.act x).port p = s.port p := by
  rcases hx with rfl | ⟨p', rfl⟩
  · cases p <;> rfl
  · obtain ⟨q, hq, -⟩ := s.answer_custody_frame p'
    rw [State.act_answer_custody, hq]
    cases p <;> cases p'
    · exact absurd rfl hp
    · rfl
    · rfl
    · exact absurd rfl hp

theorem State.port_foldl_of_notMem {acts : List Act} (h : ∀ x ∈ acts, x.Waits) {p : Port}
    (hp : .answer p .custody ∉ acts) (s : State) : (acts.foldl State.act s).port p = s.port p := by
  induction acts generalizing s with
  | nil => rfl
  | cons x acts ih =>
    obtain ⟨hx, hacts⟩ := List.forall_mem_cons.1 h
    have hne : x ≠ .answer p .custody := fun h => hp (h ▸ List.mem_cons_self)
    exact (ih hacts (fun h => hp (List.mem_cons_of_mem x h)) _).trans (State.port_act_of_other hx hne s)

/-- A port without a request in flight keeps its reply through every waiter. -/
theorem State.port_foldl_of_idle {acts : List Act} (h : ∀ x ∈ acts, x.Waits) {p : Port} {s : State}
    (hidle : (s.port p).inFlight = none) : (acts.foldl State.act s).port p = s.port p := by
  induction acts generalizing s with
  | nil => rfl
  | cons x acts ih =>
    obtain ⟨hx, hacts⟩ := List.forall_mem_cons.1 h
    have hstay : (s.act x).port p = s.port p := by
      by_cases hp : x = .answer p .custody
      · subst hp
        rw [State.act_answer_custody]
        simp only [State.answer, hidle]
      · exact State.port_act_of_other hx hp s
    exact (ih hacts (hstay ▸ hidle)).trans hstay

/-- The first waiter that answers a port with an empty slot brings its reply. -/
theorem State.port_foldl_of_mem {acts : List Act} (h : ∀ x ∈ acts, x.Waits) {p : Port} (hp : .answer p .custody ∈ acts)
    {s : State} {k : ReqKind} {tag : Byte} {w : Work} (hflight : (s.port p).inFlight = some ⟨k, tag, w⟩)
    (hslot : (s.port p).replySlot = none) :
    (acts.foldl State.act s).port p = (s.port p).finished k tag (.custody s.custody.state) := by
  induction acts generalizing s with
  | nil => cases hp
  | cons x acts ih =>
    obtain ⟨hx, hacts⟩ := List.forall_mem_cons.1 h
    rw [List.foldl_cons]
    by_cases hxp : x = .answer p .custody
    · subst hxp
      have hans : (s.act (.answer p .custody)).port p = (s.port p).finished k tag (.custody s.custody.state) := by
        rw [State.act_answer_custody, State.answer_of_empty hflight hslot]
        cases p <;> rfl
      rw [State.port_foldl_of_idle hacts (by rw [hans]; rfl), hans]
    · have hmem : .answer p .custody ∈ acts := (List.mem_cons.1 hp).resolve_left (Ne.symm hxp)
      have hport := State.port_act_of_other hx hxp s
      have hcustody : (s.act x).custody = s.custody := by
        rcases hx with rfl | ⟨p', rfl⟩
        · rfl
        · obtain ⟨q, hq, -⟩ := s.answer_custody_frame p'
          rw [State.act_answer_custody, hq]
          cases p' <;> rfl
      rw [ih hacts hmem (hport ▸ hflight) (hport ▸ hslot), hport, hcustody]

/-! ## O46 -/

theorem allRanges_nodup : allRanges.Nodup := by decide

theorem allAuthorities_nodup : allAuthorities.Nodup := by decide

theorem Records.getElem_mapAt_keys (st : Records) (r : RangeId) :
    (mapAt KeyRec.erased allRanges st.keys)[r.val] = ⟨st.keys[r.val].generation, none⟩ := by
  rw [getElem_mapAt _ allRanges_nodup, if_pos (mem_allRanges r)]
  rfl

theorem Records.getElem_mapAt_ranges (st : Records) (r : RangeId) :
    (mapAt (withState .void) allRanges st.ranges)[r.val] = st.ranges[r.val].map fun x => { x with state := .void } := by
  rw [getElem_mapAt _ allRanges_nodup, if_pos (mem_allRanges r)]
  rfl

theorem Records.getElem_mapAt_authorities (st : Records) (a : AuthId) :
    (mapAt AuthorityRec.erased allAuthorities st.authorities)[a.val] =
      ⟨.unset, none, none, st.authorities[a.val].tryLimit⟩ := by
  rw [getElem_mapAt _ allAuthorities_nodup, if_pos (mem_allAuthorities a)]
  rfl

/-- The state in which what waits on the Key-erase group is met. -/
def State.groupErased (s : State) (root : Secret) (c : CustodyRec) (j : JournalRec) : State :=
  { s with
    ranges := mapVec RangeEntry.voided s.ranges
    lane := { s.lane with lanes := s.lane.lanes.map fun l => { l with range := none } }
    keys := mapVec KeyRec.erased s.keys
    rootKey := root
    authorities := mapVec AuthorityRec.erased s.authorities
    backoff := Vector.replicate 8 0
    store := { s.store with
      identity := { s.store.identity with rootKey := root }
      keys := mapAt KeyRec.erased allRanges s.store.keys
      ranges := mapAt (withState .void) allRanges s.store.ranges
      authorities := mapAt AuthorityRec.erased allAuthorities s.store.authorities
      custody := c
      journal := j }
    queue := [] }

/-- The Key-erase group completes: the event is the erasure, then what waits. -/
theorem exec_keyErase {s : State} (hp : s.powered = true) (hh : s.held = []) {root : Secret} {c : CustodyRec}
    {j : JournalRec} {acts : List Act} (hq : s.queue = [eraseGroupEntry root c j (.keysErased :: acts)])
    (hacts : ∀ x ∈ acts, x.Waits) :
    exec .commitComplete s = .next (acts.foldl State.act (s.groupErased root c j)) := by
  have herased : (s.committed (eraseGroupEntry root c j (.keysErased :: acts)) []).keysErased = s.groupErased root c j :=
    (congrArg (fun st : Records => ({ s with store := st, queue := [] } : State).keysErased)
      (s.store.commit_eraseGroup root c j (.keysErased :: acts))).trans rfl
  rw [exec_commitComplete_of_one hp hq hh]
  refine congrArg Host.Outcome.next ?_
  obtain ⟨d, f, sc, heq, hd, hf⟩ := State.foldl_waits_frame hacts (s.groupErased root c j)
  change State.sealEvent s (acts.foldl State.act
    (s.committed (eraseGroupEntry root c j (.keysErased :: acts)) []).keysErased) = _
  rw [herased, heq]
  exact State.sealEvent_of_quiet (Nat.le_of_eq (congrArg List.length hd)) (Nat.le_of_eq (congrArg List.length hf))

theorem State.range_groupErased (s : State) (root : Secret) (c : CustodyRec) (j : JournalRec) (r : RangeId) :
    (s.groupErased root c j).range r = (s.range r).voided :=
  getElem_mapVec ..

/-- Settles O46: the group's writes and the live erasure, then the waiters' part. -/
theorem keyEraseDestroysTheKeys : Obligations.KeyEraseDestroysTheKeys := by
  unfold Obligations.KeyEraseDestroysTheKeys
  intro s root c j acts hp hh hq hacts
  have hrun := exec_keyErase hp hh hq hacts
  obtain ⟨d, f, sc, heq, -, -⟩ := State.foldl_waits_frame hacts (s.groupErased root c j)
  have hscrub := State.scrub_foldl_waits hacts (s.groupErased root c j)
  have hport (p : Port) : (s.groupErased root c j).port p = s.port p := by cases p <;> rfl
  refine ⟨_, hrun, ?queue, ?root, fun r => ?range, fun a => ?authority, ?identity, ?custody, ?journal, ?policy, ?tries,
    ?pairing, fun r => ?records, fun a => ?authorities, ?lane, ?live, ?epoch, ?mode, fun hno => ?scrub,
    fun g hmem hg => ?job, fun p hno => ?other, fun p k tag hmem hflight hslot => ?answered⟩
  case scrub => exact hscrub.trans (if_neg hno)
  case job =>
    rw [hscrub, if_pos hmem]
    have hjob : (s.groupErased root c j).custodyJob = ⟨.custody, none, 0, g.capacity, 0, false⟩ := by
      rw [State.custodyJob, show (s.groupErased root c j).geometry = some g from hg]
      rfl
    refine ⟨?_, rfl⟩
    rw [State.custodyJobStored, hjob]
    rfl
  case other => exact (State.port_foldl_of_notMem hacts hno _).trans (hport p)
  case answered =>
    rw [← hport p] at hflight hslot
    exact (State.port_foldl_of_mem hacts hmem hflight hslot).trans (by rw [hport]; rfl)
  all_goals rw [heq]
  case range =>
    refine ⟨?_, ?_, getElem_mapVec ..⟩
    · exact congrArg RangeEntry.stored (s.range_groupErased root c j r)
    · exact congrArg RangeEntry.lane (s.range_groupErased root c j r)
  case authority => exact ⟨getElem_mapVec .., Vector.getElem_replicate _⟩
  case records => exact ⟨s.store.getElem_mapAt_keys r, s.store.getElem_mapAt_ranges r⟩
  case authorities => exact s.store.getElem_mapAt_authorities a
  all_goals rfl

end Sys2Proof.Machine

/-!
PROOFS. WIPE and WIPE_ORDER (R124 to R126; O44): the refusals, the response, and what waits on its storing commit.
-/

namespace Sys2Proof.Machine

open Sys2Proof

/-! ## What waits on a response's storing commit -/

/-- The effects that a level's storing commit brings at its completion, from a custody state (R123, R131, R133). -/
def Level.storingActs (l : Level) (old : Custody) : List Act :=
  match l with
  | .conceal => []
  | .erase => [.keysErased]
  | .scrub => if old = .erased then [.custodyJobStored] else [.keysErased, .custodyJobStored]

theorem State.acts_storeResponse {y : State} {old : Custody} (acts : List Act) {l : Level} (hy : y.custody.state = l.target)
    (hq : y.queue = []) (hh : y.held = []) :
    ((y.storeResponse old acts).queue.flatMap fun e => e.acts) = l.storingActs old ++ acts := by
  cases l with
  | conceal =>
    rw [State.storeResponse_of_conceal hy, State.enter_of_empty hq hh]
    exact List.append_nil acts
  | erase =>
    rw [State.storeResponse_of_erase hy, State.enterEraseGroup_of_empty hq hh]
    exact congrArg (Act.keysErased :: ·) (List.append_nil acts)
  | scrub =>
    by_cases hold : old = .erased
    · rw [hold, State.storeResponse_of_deeper hy, State.storeScrubbing]
      simp only [hq, hh, List.tail_nil, List.any_nil, Bool.or_false, Bool.false_eq_true, if_false,
        State.enterAll_two_of_empty hq hh]
      exact congrArg (Act.custodyJobStored :: ·) (List.append_nil acts)
    · rw [State.storeResponse_of_scrub hy hold, State.enterEraseGroup_of_empty hq hh, Level.storingActs, if_neg hold]
      exact congrArg (Act.keysErased :: Act.custodyJobStored :: ·) (List.append_nil acts)

/-- What a response that responds leaves on the Platform Port and of the challenge, and what waits on its commit. -/
theorem State.respond_rest {s : State} {l : Level} (h : s.responds l = true) (acts : List Act) :
    (s.respond l acts).platform.inFlight = s.platform.inFlight ∧
      (s.respond l acts).platform.replySlot = s.platform.replySlot ∧ (s.respond l acts).challenge = s.challenge ∧
      (s.queue = [] → s.held = [] →
        ((s.respond l acts).queue.flatMap fun e => e.acts) = l.storingActs s.custody.state ++ acts) := by
  obtain ⟨y, hy⟩ : ∃ y, y = if s.custody.state.inUse then s.hidden l else s.deepened l := ⟨_, rfl⟩
  have hmove : y.platform = s.platform.push (s.responseNote l) ∧ y.challenge = s.challenge ∧ y.queue = s.queue ∧
      y.held = s.held ∧ y.custody.state = l.target := by
    rw [hy]
    split <;> exact ⟨rfl, rfl, rfl, rfl, rfl⟩
  obtain ⟨hplatform, hchallenge, hqueue, hheld, htarget⟩ := hmove
  rw [State.respond_eq h, ← hy]
  refine ⟨?_, ?_, ?_, fun hq hh => State.acts_storeResponse acts htarget (hqueue.trans hq) (hheld.trans hh)⟩
  all_goals
    obtain ⟨sc, n, q, hd, hframe⟩ := y.storeResponse_frame s.custody.state acts
    rw [hframe]
  · exact (congrArg PortState.inFlight hplatform).trans (PortState.inFlight_push ..)
  · exact (congrArg PortState.replySlot hplatform).trans (PortState.replySlot_push ..)
  · exact hchallenge

/-! ## WIPE_ORDER -/

section
variable {s : State} (tag : Byte) {pl : List Byte}

theorem wipeOrderOwner_of_badLevel (hl : Level.ofCode (byteAt pl 0) = none) :
    wipeOrderOwner tag pl s = s.replyTo .wipeOrder .platform tag (.code .badValue) := by
  simp only [wipeOrderOwner, parseWipeOrder, hl, Option.map_none]

theorem wipeOrderOwner_of_noSecret {x : Level} (hl : Level.ofCode (byteAt pl 0) = some x) (hd : s.policy.wipeDigest = none) :
    wipeOrderOwner tag pl s = s.replyTo .wipeOrder .platform tag (.code .state) := by
  simp only [wipeOrderOwner, parseWipeOrder, hl, Option.map_some, hd]

theorem wipeOrderOwner_of_unasked {x : Level} {d : Secret} (hl : Level.ofCode (byteAt pl 0) = some x)
    (hd : s.policy.wipeDigest = some d) (hn : s.challenge = none) :
    wipeOrderOwner tag pl s = s.replyTo .wipeOrder .platform tag (.code .denied) := by
  simp only [wipeOrderOwner, parseWipeOrder, hl, Option.map_some, hd, hn]

/-- A WIPE_ORDER past its refusals without effect: Supply Warning, the compare, then the response (R125). -/
theorem wipeOrderOwner_of_asked {x : Level} {d : Secret} {n : Nonce} (hl : Level.ofCode (byteAt pl 0) = some x)
    (hd : s.policy.wipeDigest = some d) (hn : s.challenge = some n) :
    wipeOrderOwner tag pl s =
      if s.supplyWarning then s.replyTo .wipeOrder .platform tag (.code .deferred)
      else if secretAt pl 1 ≠ answerFor d n then s.consume.replyTo .wipeOrder .platform tag (.code .denied)
      else if s.responds (x.higher s.policy.remoteOrder) then
        (s.consume.startWork .wipeOrder .platform tag .committing).respond (x.higher s.policy.remoteOrder)
          [.answer .platform .custody]
      else s.consume.replyTo .wipeOrder .platform tag (.custody s.custody.state) := by
  simp only [wipeOrderOwner, parseWipeOrder, hl, Option.map_some, hd, hn]

end

/-! ## WIPE -/

theorem State.goWipe_of_refused {s : State} {l : Level} {hidden : Bool}
    (h : ¬(s.custody.state = .guarded ∨ s.custody.state = .warned ∨ s.custody.state = .concealed ∧ hidden = true)) :
    s.goWipe l hidden = s.answer .drive (.code .state) := by
  refine if_pos ?_
  rw [← or_assoc, ← Custody.inUse_iff] at h
  simp only [not_or, Bool.not_eq_true, not_and] at h
  simp only [h.1, Bool.false_or, Bool.not_eq_true', Bool.and_eq_false_iff, decide_eq_false_iff_not]
  by_cases hhidden : hidden = true
  · exact .inr fun hc => absurd hhidden (by simp [h.2 hc])
  · exact .inl (Bool.eq_false_iff.2 hhidden)

theorem State.goWipe_of_admitted {s : State} {l : Level} {hidden : Bool}
    (h : s.custody.state = .guarded ∨ s.custody.state = .warned ∨ s.custody.state = .concealed ∧ hidden = true) :
    s.goWipe l hidden =
      if s.responds (l.higher s.policy.adminOrder) then
        (s.setWork .drive .committing).respond (l.higher s.policy.adminOrder) [.answer .drive .custody]
      else s.answer .drive (.custody s.custody.state) := by
  refine if_neg ?_
  rw [← or_assoc, ← Custody.inUse_iff] at h
  rcases h with h | ⟨hc, hh⟩
  · simp [h]
  · simp [hc, hh]

/-! ## O44 -/

/-- Settles O44: the two owners' cases, the response's frame, and the two completions. -/
theorem wipeOrders : Obligations.WipeOrders := by
  unfold Obligations.WipeOrders
  refine ⟨fun s tag => ?orders, fun s tag p k c => ?completions⟩
  case completions =>
    intro stored ended
    refine ⟨fun h => exec_completion_of_answer h rfl rfl rfl, fun g hg h => ?_⟩
    refine (exec_completion_of_act h (x := (s.written [.custody c]).custodyJobStored) rfl rfl rfl).trans ?_
    have hjob : (s.written [.custody c]).custodyJob = ⟨.custody, none, 0, g.capacity, 0, false⟩ := by
      rw [State.custodyJob, show (s.written [.custody c]).geometry = some g from hg]
      rfl
    rw [State.custodyJobStored, hjob]
    rfl
  case orders =>
    intro after changes waits
    have hchanges (l : Level) : changes l ↔ s.responds l = true := State.responds_iff.symm
    have hwaits (l : Level) (p : Port) : l.storingActs s.custody.state ++ [.answer p .custody] = waits l p := by
      cases l <;> rfl
    refine ⟨fun pl hs hlen => ?wipeOrder, fun a l hidden x h => ?wipe⟩
    case wipe =>
      intro admitted s1
      refine ⟨fun hno => exec_refund_of_answer h (State.goWipe_of_refused (s := s1) hno),
        fun hyes hsame => exec_refund_of_answer h ((State.goWipe_of_admitted (s := s1) hyes).trans (if_neg fun hr => hsame ((hchanges _).2 hr))),
        fun hyes hmoves => ?_⟩
      have hopen : s.custody.state ≠ .opened := hmoves.1
      have hrun := exec_commitComplete_of_refund h
      rw [show s1.afterCheck a (.wipe l hidden) = _ from
        (State.goWipe_of_admitted (s := s1) hyes).trans (if_pos ((hchanges _).1 hmoves))] at hrun
      have hflight : (s1.setWork .drive .committing).drive.inFlight = some ⟨.wipe, tag, .committing⟩ :=
        congrArg (Option.map fun f : InFlight => (⟨f.kind, f.tag, .committing⟩ : InFlight)) h.2.1
      have hres := State.responded_of_respond (s := s1.setWork .drive .committing) hopen (l.higher s.policy.adminOrder)
        [.answer .drive .custody]
      have hrest := State.respond_rest (s := s1.setWork .drive .committing) ((hchanges _).1 hmoves) [.answer .drive .custody]
      refine ⟨_, hrun, hres.state.trans (if_pos hmoves.2), (hres.flight fun b => ?_).trans hflight, hres.slot.trans h.1.2.1,
        (hrest.2.2.2 rfl h.2.2.2).trans (hwaits _ _)⟩
      rw [hflight]
      simp
    case wipeOrder =>
      intro run reply l
      have hport : frameRefusal s .wipeOrder .platform pl = none :=
        frameRefusal_of_ready hs.2 rfl (by simp [admitsLength, hlen])
      have hreply {b : ReplyBody} (howner : wipeOrderOwner tag pl (s.endTransaction .platform) =
          (s.endTransaction .platform).replyTo .wipeOrder .platform tag b) : run = .next { s with platform := reply b } :=
        congrArg Host.Outcome.next (takeRequest_of_reply hs.1 hport howner)
      refine ⟨fun hl => hreply (wipeOrderOwner_of_badLevel tag hl), fun x hl =>
        ⟨fun hd => hreply (wipeOrderOwner_of_noSecret tag hl hd), fun d hd =>
          ⟨fun hn => hreply (wipeOrderOwner_of_unasked tag hl hd hn), fun n hn => ?asked⟩⟩⟩
      intro proof sent
      have hsent : sent = secretAt pl 1 := by
        refine congrArg (BitVec.ofNat 256) ?_
        rw [fieldAt, List.take_of_length_le (by simp [hlen])]
      have howner := wipeOrderOwner_of_asked (s := s.endTransaction .platform) tag hl hd hn
      rw [← hsent, show answerFor d n = proof from rfl] at howner
      refine ⟨fun hw => hreply (howner.trans (if_pos hw)), fun hw hne => ?_, fun hw heq => ?_⟩
      · rw [if_neg (by simpa using hw), if_pos hne] at howner
        exact congrArg Host.Outcome.next (takeRequest_of_replied hs.1 hport howner rfl rfl)
      · rw [if_neg (by simpa using hw), if_neg (not_not.2 heq)] at howner
        refine ⟨fun hsame => ?_, fun hmoves => ?_⟩
        · exact congrArg Host.Outcome.next (takeRequest_of_replied hs.1 hport
            (howner.trans (if_neg fun hr => hsame ((hchanges _).2 hr))) rfl rfl)
        · obtain ⟨hflight, hslot, hchallenge, hacts⟩ := State.respond_rest
            (s := (s.endTransaction .platform).consume.startWork .wipeOrder .platform tag .committing)
            ((hchanges _).1 hmoves) [.answer .platform .custody]
          have hres := State.responded_of_respond
            (s := (s.endTransaction .platform).consume.startWork .wipeOrder .platform tag .committing) hmoves.1
            (x.higher s.policy.remoteOrder) [.answer .platform .custody]
          have hrun : run = _ := congrArg Host.Outcome.next ((takeRequest_of_taken hs.1 hport tag (wipeOrderOwner tag pl)).trans
            (congrArg (State.sealEvent _) (howner.trans (if_pos ((hchanges _).1 hmoves)))))
          exact ⟨_, hrun, hchallenge, hres.state.trans (if_pos hmoves.2), hflight, hslot.trans hs.1.2.1,
            fun hq hh => (hacts hq hh).trans (hwaits _ _)⟩

end Sys2Proof.Machine

/-!
PROOFS. SCRUB_TAKE and SCRUB_DONE short of the job's end (R139 to R141; O48).
-/

namespace Sys2Proof.Machine

open Sys2Proof

/-! ## The orders -/

/-- The end of the last order of a list, or the cursor where there is none. -/
def endOf (c : Nat) (l : List Order) : Nat := (l.getLast?.map fun o => o.start + o.length).getD c

theorem endOf_cons (c : Nat) (o : Order) (l : List Order) : endOf c (o :: l) = endOf (o.start + o.length) l := by
  cases l <;> simp [endOf, List.getLast?_cons]

theorem removeDone_cons_of_done {o : Order} (h : o.done = true) (os : List Order) (c n : Nat) (cp : Option Nat) :
    removeDone (o :: os) c n cp =
      if 64 ≤ n + 1 then removeDone os (o.start + o.length) 0 (some (o.start + o.length))
      else removeDone os (o.start + o.length) (n + 1) cp := by
  simp only [removeDone, h, if_true]
  rfl

/-- Done orders that stand oldest are removed, short of a checkpoint (R140, R141). -/
theorem removeDone_append {d : List Order} (hd : ∀ x ∈ d, x.done = true) {n : Nat} (hn : n + d.length < 64) (u : List Order)
    (c : Nat) (cp : Option Nat) : removeDone (d ++ u) c n cp = removeDone u (endOf c d) (n + d.length) cp := by
  induction d generalizing c n with
  | nil => rfl
  | cons o d ih =>
    obtain ⟨ho, hd⟩ := List.forall_mem_cons.1 hd
    rw [List.length_cons] at hn
    rw [List.cons_append, removeDone_cons_of_done ho, if_neg (by omega), ih hd (by omega), endOf_cons, List.length_cons]
    congr 1
    omega

/-- An undone order stops the removal (R140). -/
theorem removeDone_of_undone {u : List Order} (hu : ∀ x, u.head? = some x → x.done = false) (c n : Nat) (cp : Option Nat) :
    removeDone u c n cp = ⟨u, c, n, cp⟩ := by
  cases u with
  | nil => rfl
  | cons o u => simp [removeDone, hu o rfl]

/-- The 64th chunk on the way: its checkpoint, and the rest counted from 0 (R141, log entry 39). -/
theorem removeDone_checkpoint {d1 d2 : List Order} {x : Order} (hd : ∀ y ∈ d1 ++ x :: d2, y.done = true) {n : Nat}
    (hn : n + d1.length = 63) (hrest : d2.length < 64) (u : List Order) (c : Nat) (cp : Option Nat) :
    removeDone ((d1 ++ x :: d2) ++ u) c n cp =
      removeDone u (endOf c (d1 ++ x :: d2)) d2.length (some (x.start + x.length)) := by
  have hd1 : ∀ y ∈ d1, y.done = true := fun y hy => hd y (List.mem_append_left _ hy)
  have hx : x.done = true := hd x (List.mem_append_right _ List.mem_cons_self)
  have hd2 : ∀ y ∈ d2, y.done = true := fun y hy => hd y (List.mem_append_right _ (List.mem_cons_of_mem _ hy))
  have hend : endOf c (d1 ++ x :: d2) = endOf (x.start + x.length) d2 := by
    rw [← endOf_cons c]
    simp [endOf, List.getLast?_append, List.getLast?_cons]
  rw [List.append_assoc, removeDone_append hd1 (by omega), List.cons_append, removeDone_cons_of_done hx, if_pos (by omega),
    removeDone_append hd2 (by omega), hend, Nat.zero_add]

/-- An order held once is the one found. -/
theorem find?_of_unique {l : List Order} {n : Nat} {o : Order} (ho : o ∈ l) (hid : o.id = n)
    (hunique : ∀ y ∈ l, y.id = n → y = o) : (l.find? fun x => decide (x.id = n)) = some o := by
  have hsome : (l.find? fun x => decide (x.id = n)).isSome = true := by
    rw [List.find?_isSome]
    exact ⟨o, ho, decide_eq_true hid⟩
  obtain ⟨y, hy⟩ := Option.isSome_iff_exists.1 hsome
  have hyid : decide (y.id = n) = true := List.find?_some (p := fun x : Order => decide (x.id = n)) hy
  rw [hy, hunique y (List.mem_of_find?_eq_some hy) (of_decide_eq_true hyid)]

theorem find?_of_unknown {l : List Order} {n : Nat} (h : ∀ o ∈ l, o.id ≠ n) :
    (l.find? fun x => decide (x.id = n)) = none :=
  List.find?_eq_none.2 fun o ho => by simpa using h o ho

/-! ## The owners -/

theorem mapFinal_of_none {q : List Entry} (h : ∀ e ∈ q.tail, e.key ≠ .final) (f : List RecordWrite → List RecordWrite) :
    mapFinal f q = q := by
  have hmap : (q.tail.map fun e => if e.key = .final then { e with writes := f e.writes } else e) = q.tail :=
    (List.map_congr_left fun e he => if_neg (h e he)).trans (List.map_id _)
  rw [mapFinal, hmap]
  cases q <;> rfl

/-- The Scrub Controller's job after the removal of done orders. -/
def Job.advanced (j : Job) (a : Advance) : Job :=
  { j with journal := { j.journal with cursor := a.cursor }, orders := a.orders, chunks := a.chunks }

section
variable {s : State} (tag : Byte) {pl : List Byte}

theorem scrubDoneOwner_of_idle (hj : s.scrub.job = none) :
    scrubDoneOwner tag pl s = s.replyTo .scrubDone .drive tag (.code .stale) := by
  simp only [scrubDoneOwner, hj]

theorem scrubDoneOwner_of_unknown {j : Job} (hj : s.scrub.job = some j)
    (hf : (j.orders.find? fun x => decide (x.id = fieldAt pl 0 2)) = none) :
    scrubDoneOwner tag pl s = s.replyTo .scrubDone .drive tag (.code .stale) := by
  simp only [scrubDoneOwner, hj, hf]

theorem scrubDoneOwner_of_done {j : Job} {o : Order} (hj : s.scrub.job = some j)
    (hf : (j.orders.find? fun x => decide (x.id = fieldAt pl 0 2)) = some o) (ho : o.done = true) :
    scrubDoneOwner tag pl s = s.replyTo .scrubDone .drive tag (.scrubbed j.journal.cursor false) := by
  simp only [scrubDoneOwner, hj, hf, ho, if_true]

/-- What a SCRUB_DONE makes of the state before its reply (R140 to R143). -/
def State.advance (s : State) (j : Job) (a : Advance) : State :=
  if a.cursor = j.journal.stop then (s.setJob (some (j.advanced a))).completeJob { j.journal with cursor := a.cursor }
  else
    match a.checkpoint with
    | some c => (s.setJob (some (j.advanced a))).checkpoint c
    | none => s.setJob (some (j.advanced a))

theorem scrubDoneOwner_of_undone {j : Job} {o : Order} (hj : s.scrub.job = some j)
    (hf : (j.orders.find? fun x => decide (x.id = fieldAt pl 0 2)) = some o) (ho : o.done = false) {a : Advance}
    (ha : removeDone (markDone (fieldAt pl 0 2) j.orders) j.journal.cursor j.chunks none = a) :
    scrubDoneOwner tag pl s =
      (s.advance j a).updateFinalCursor.replyTo .scrubDone .drive tag
        (.scrubbed a.cursor (decide (a.cursor = j.journal.stop))) := by
  simp only [scrubDoneOwner, hj, hf, ho, ha, Bool.false_eq_true, if_false, decide_eq_true_eq]
  rfl

end

/-! ## SCRUB_TAKE -/

theorem scrubTakeOwner_of_idle {s : State} (tag : Byte) (hj : s.scrub.job = none) :
    scrubTakeOwner tag s = s.replyTo .scrubTake .drive tag (.noOrder .noJob) := by
  simp only [scrubTakeOwner, hj]

theorem scrubTakeOwner_of_refused {s : State} (tag : Byte) {j : Job} (hj : s.scrub.job = some j) {r : NoneReason}
    (hr : s.takeReason j = some r) : scrubTakeOwner tag s = s.replyTo .scrubTake .drive tag (.noOrder r) := by
  simp only [scrubTakeOwner, hj, hr]

theorem scrubTakeOwner_of_issued {s : State} (tag : Byte) {j : Job} (hj : s.scrub.job = some j)
    (hr : s.takeReason j = none) (hlt : j.issue < j.journal.stop) {n : Nat} (hn : n = min 2048 (j.journal.stop - j.issue)) :
    scrubTakeOwner tag s =
      ({ s with scrub := { s.scrub with
          job := some { j with issue := j.issue + n, orders := j.orders ++ [⟨s.scrub.nextId, j.issue, n, false⟩] }
          nextId := if s.scrub.nextId = 65535 then 1 else s.scrub.nextId + 1 } } : State).replyTo .scrubTake .drive tag
        (.order s.scrub.nextId j.journal.kind j.journal.range j.issue n) := by
  have hstop : min (j.issue + Config.chunk) j.journal.stop = j.issue + n := by
    rw [hn, show Config.chunk = 2048 from rfl]
    omega
  simp only [scrubTakeOwner, hj, hr, hstop, Nat.add_sub_cancel_left, nextOrderId]

/-! ## SCRUB_DONE's removal, short of the job's end -/

theorem State.advance_of_kept {s : State} {j : Job} {a : Advance} (h : a.cursor ≠ j.journal.stop) (hc : a.checkpoint = none) :
    s.advance j a = s.setJob (some (j.advanced a)) := by
  rw [State.advance, if_neg h, hc]

theorem State.advance_of_checkpoint {s : State} {j : Job} {a : Advance} (h : a.cursor ≠ j.journal.stop) {c : Nat}
    (hc : a.checkpoint = some c) : s.advance j a = (s.setJob (some (j.advanced a))).checkpoint c := by
  rw [State.advance, if_neg h, hc]

/-- Short of the job's end the advance changes the job, and the commit queue by its checkpoint and by the waiting final
checkpoint's cursor. -/
theorem State.advance_frame {s : State} {j : Job} {a : Advance} (h : a.cursor ≠ j.journal.stop) :
    ∃ q hd, (s.advance j a).updateFinalCursor =
        { s with scrub := { s.scrub with job := some (j.advanced a) }, queue := q, held := hd } ∧
      (a.checkpoint = none → (∀ e ∈ s.queue.tail, e.key ≠ .final) → q = s.queue) ∧
      ∀ c, a.checkpoint = some c → s.queue = [] → s.held = [] →
        q = [journalEntry ⟨some { j.journal with cursor := c }, s.scrub.waiting⟩ .checkpoint []] := by
  cases hc : a.checkpoint with
  | none =>
    rw [State.advance_of_kept h hc]
    exact ⟨_, s.held, rfl, fun _ hno => mapFinal_of_none hno _, fun c hsome => nomatch hsome⟩
  | some c =>
    rw [State.advance_of_checkpoint h hc]
    obtain ⟨q, hd, hframe⟩ := State.enter_frame []
      (journalEntry ⟨some { j.journal with cursor := c }, s.scrub.waiting⟩ .checkpoint []) (s.setJob (some (j.advanced a)))
    refine ⟨_, hd, (congrArg State.updateFinalCursor hframe).trans rfl, fun hnone => absurd hnone (Option.some_ne_none c), fun c' hsome hq hh => ?_⟩
    cases hsome
    have hempty := State.enter_of_empty (s := s.setJob (some (j.advanced a))) hq hh []
      (journalEntry ⟨some { j.journal with cursor := c }, s.scrub.waiting⟩ .checkpoint [])
    have hqueue := congrArg State.queue (hframe.symm.trans hempty)
    rw [show q = _ from hqueue]
    rfl

/-- A SCRUB_DONE of an undone order, short of the job's end. -/
theorem exec_scrubDone_of_advance {s : State} (hs : s.Ready .drive) (tag : Byte) {pl : List Byte} (hlen : pl.length = 2)
    {j : Job} {o : Order} (hj : s.scrub.job = some j)
    (hf : (j.orders.find? fun x => decide (x.id = leNat pl)) = some o) (ho : o.done = false) {a : Advance}
    (ha : removeDone (markDone (leNat pl) j.orders) j.journal.cursor j.chunks none = a) (hstop : a.cursor ≠ j.journal.stop) :
    ∃ q hd, exec (.scrubDone .drive tag pl) s = .next { s with
        scrub := { s.scrub with job := some (j.advanced a) }, queue := q, held := hd
        drive := s.drive.answered .scrubDone tag (.scrubbed a.cursor false) } ∧
      (a.checkpoint = none → (∀ e ∈ s.queue.tail, e.key ≠ .final) → q = s.queue) ∧
      ∀ c, a.checkpoint = some c → s.queue = [] → s.held = [] →
        q = [journalEntry ⟨some { j.journal with cursor := c }, s.scrub.waiting⟩ .checkpoint []] := by
  have hid : fieldAt pl 0 2 = leNat pl := by rw [fieldAt, List.drop_zero, List.take_of_length_le hlen.le]
  obtain ⟨q, hd, hframe, hkept, hcheckpoint⟩ := State.advance_frame (s := s.endTransaction .drive) hstop
  have howner := scrubDoneOwner_of_undone (s := s.endTransaction .drive) tag hj (hid ▸ hf) ho (hid ▸ ha)
  rw [hframe, decide_eq_false hstop] at howner
  exact ⟨q, hd, congrArg Host.Outcome.next (takeRequest_of_replied hs.1
    (frameRefusal_of_ready hs.2 rfl (by simp [admitsLength, hlen])) howner rfl rfl), hkept, hcheckpoint⟩

/-- Settles O48: the reasons of SCRUB_TAKE in their order, and SCRUB_DONE by what it removes. -/
theorem ordersAreIssuedAndDone : Obligations.OrdersAreIssuedAndDone := by
  unfold Obligations.OrdersAreIssuedAndDone
  intro s tag hs take none_ done stale
  have htake {r : NoneReason} (howner : scrubTakeOwner tag (s.endTransaction .drive) =
      (s.endTransaction .drive).replyTo .scrubTake .drive tag (.noOrder r)) : take = none_ r :=
    congrArg Host.Outcome.next (takeRequest_of_reply hs.1 (frameRefusal_of_ready hs.2 rfl rfl) howner)
  have hdone {pl : List Byte} (hlen : pl.length = 2) {b : ReplyBody} (howner : scrubDoneOwner tag pl (s.endTransaction .drive) =
      (s.endTransaction .drive).replyTo .scrubDone .drive tag b) :
      done pl = .next { s with drive := s.drive.answered .scrubDone tag b } :=
    congrArg Host.Outcome.next (takeRequest_of_reply hs.1
      (frameRefusal_of_ready hs.2 rfl (by simp [admitsLength, hlen])) howner)
  have hid {pl : List Byte} (hlen : pl.length = 2) : fieldAt pl 0 2 = leNat pl := by
    rw [fieldAt, List.drop_zero, List.take_of_length_le hlen.le]
  refine ⟨fun hj => ⟨htake (scrubTakeOwner_of_idle tag hj), fun pl hlen => hdone hlen (scrubDoneOwner_of_idle tag hj)⟩, fun j hj =>
    ⟨fun hp => ?paused, fun hp => ⟨fun hw => ?supply, fun hw => ⟨fun hfull => ?full, fun hroom => ⟨fun hend => ?allIssued, fun hlt => ?issue⟩⟩⟩,
      fun pl hlen => ⟨fun hno => ?unknown, fun o ho hoid hunique => ⟨fun hd => ?again, fun hd hne hhead hcur => ?marked,
        fun d u e hd hsplit hall hu hlast hstop => ?removed⟩⟩⟩⟩
  case paused => exact htake (scrubTakeOwner_of_refused (s := s.endTransaction .drive) tag hj (if_pos hp))
  case supply => exact htake (scrubTakeOwner_of_refused (s := s.endTransaction .drive) tag hj ((if_neg (by simpa using hp)).trans (if_pos hw)))
  case full =>
    exact htake (scrubTakeOwner_of_refused (s := s.endTransaction .drive) tag hj
      ((if_neg (by simpa using hp)).trans ((if_neg (by simpa using hw)).trans (if_pos hfull))))
  case allIssued =>
    exact htake (scrubTakeOwner_of_refused (s := s.endTransaction .drive) tag hj
      ((if_neg (by simpa using hp)).trans ((if_neg (by simpa using hw)).trans ((if_neg (Nat.not_le.2 hroom)).trans (if_pos hend)))))
  case issue =>
    intro n id
    have hreason : (s.endTransaction .drive).takeReason j = none :=
      (if_neg (by simpa using hp)).trans ((if_neg (by simpa using hw)).trans ((if_neg (Nat.not_le.2 hroom)).trans
        (if_neg (Nat.ne_of_lt hlt))))
    exact congrArg Host.Outcome.next (takeRequest_of_replied hs.1 (frameRefusal_of_ready hs.2 rfl rfl)
      (scrubTakeOwner_of_issued (s := s.endTransaction .drive) tag hj hreason hlt rfl) rfl rfl)
  case unknown =>
    refine hdone hlen (scrubDoneOwner_of_unknown tag hj ?_)
    rw [hid hlen]
    exact find?_of_unknown hno
  case again =>
    refine hdone hlen (scrubDoneOwner_of_done tag hj ?_ hd)
    rw [hid hlen]
    exact find?_of_unique ho hoid hunique
  case marked =>
    have ha : removeDone (markDone (leNat pl) j.orders) j.journal.cursor j.chunks none =
        ⟨markDone (leNat pl) j.orders, j.journal.cursor, j.chunks, none⟩ := by
      refine removeDone_of_undone (fun x hx => ?_) ..
      rw [markDone, List.head?_map, Option.map_eq_some_iff] at hx
      obtain ⟨y, hy, rfl⟩ := hx
      rw [if_neg fun hyid => hne (hy.trans (congrArg some (hunique y (List.mem_of_mem_head? hy) hyid)))]
      exact hhead y hy
    obtain ⟨q, h, hrun, -, -⟩ := exec_scrubDone_of_advance hs tag hlen hj (find?_of_unique ho hoid hunique) hd ha hcur
    exact ⟨_, hrun, rfl, rfl⟩
  case removed =>
    intro moved
    have hfind := find?_of_unique ho hoid hunique
    have hend : endOf j.journal.cursor d = e.start + e.length := by rw [endOf, hlast]; rfl
    refine ⟨fun hchunks => ?_, fun d1 x d2 hd12 hat hrest => ?_⟩
    · have ha : removeDone (markDone (leNat pl) j.orders) j.journal.cursor j.chunks none =
          ⟨u, e.start + e.length, j.chunks + d.length, none⟩ := by
        rw [markDone, hsplit, removeDone_append hall hchunks, removeDone_of_undone hu, hend]
      obtain ⟨q, h, hrun, hkept, -⟩ := exec_scrubDone_of_advance hs tag hlen hj hfind hd ha hstop
      exact ⟨_, hrun, ⟨rfl, rfl, rfl, rfl⟩, hkept rfl⟩
    · have ha : removeDone (markDone (leNat pl) j.orders) j.journal.cursor j.chunks none =
          ⟨u, e.start + e.length, d2.length, some (x.start + x.length)⟩ := by
        rw [markDone, hsplit, ← hend]
        subst hd12
        rw [removeDone_checkpoint hall hat hrest, removeDone_of_undone hu]
      obtain ⟨q, h, hrun, -, hcheckpoint⟩ := exec_scrubDone_of_advance hs tag hlen hj hfind hd ha hstop
      exact ⟨_, hrun, ⟨rfl, rfl, rfl, rfl⟩, hcheckpoint _ rfl⟩

end Sys2Proof.Machine

/-!
PROOFS. The job's end (R140, R142, R143; O51), and the commits that follow a CUSTODY job one by one.
-/

namespace Sys2Proof.Machine

open Sys2Proof

/-! ## The first of an ascending list -/

theorem find?_of_least {p : RangeId → Bool} {l : List RangeId} (hl : l.Pairwise (· < ·)) {r : RangeId} (hr : r ∈ l)
    (hp : p r = true) (hleast : ∀ q ∈ l, q < r → p q = false) : l.find? p = some r := by
  induction l with
  | nil => cases hr
  | cons q l ih =>
    obtain ⟨hq, hl⟩ := List.pairwise_cons.1 hl
    rcases List.mem_cons.1 hr with rfl | hmem
    · exact List.find?_cons_of_pos hp
    · have hno : p q = false := hleast q List.mem_cons_self (hq r hmem)
      rw [List.find?_cons_of_neg (by simp [hno])]
      exact ih hl hmem fun x hx => hleast x (List.mem_cons_of_mem q hx)

theorem allRanges_pairwise : allRanges.Pairwise (· < ·) := by decide

/-! ## The commits of a CUSTODY job's end -/

/-- The range ids behind a commit of R143. -/
def SpendStep.behind (step : SpendStep) (r : RangeId) : Prop :=
  match step with
  | .journal => False
  | .custody => True
  | .range p => p < r

/-- The first owed range behind a commit of R143 is the next. -/
theorem State.spendNext_of_least {s : State} {step : SpendStep} (hstep : step ≠ .journal) {r : RangeId}
    (hb : step.behind r) (ho : s.owesBlank r = true) (hleast : ∀ q, step.behind q → q < r → s.owesBlank q = false) :
    s.spendNext step = some (.range r) := by
  cases step with
  | journal => exact absurd rfl hstep
  | custody =>
    exact congrArg (Option.map SpendStep.range)
      (find?_of_least allRanges_pairwise (mem_allRanges r) ho fun q _ => hleast q trivial)
  | range p =>
    refine congrArg (Option.map SpendStep.range) (find?_of_least (allRanges_pairwise.filter _) ?_ ho fun q hq => ?_)
    · exact List.mem_filter.2 ⟨mem_allRanges r, decide_eq_true hb⟩
    · exact hleast q (of_decide_eq_true (p := p < q) (List.mem_filter.1 hq).2)

theorem State.spendNext_of_none {s : State} {step : SpendStep} (hstep : step ≠ .journal)
    (hno : ∀ q, step.behind q → s.owesBlank q = false) : s.spendNext step = none := by
  cases step with
  | journal => exact absurd rfl hstep
  | custody =>
    exact congrArg (Option.map SpendStep.range) (List.find?_eq_none.2 fun q _ => by simp [hno q trivial])
  | range p =>
    refine congrArg (Option.map SpendStep.range) (List.find?_eq_none.2 fun q hq => ?_)
    simp [hno q (of_decide_eq_true (p := p < q) (List.mem_filter.1 hq).2)]

/-- With nothing queued or held a range is owed its record where it is present and stored present (log entry 52). -/
theorem State.owesBlank_iff {s : State} (hq : s.queue = []) (hh : s.held = []) (r : RangeId) :
    s.owesBlank r = true ↔ (s.range r).stored.isSome = true ∧ s.store.ranges[r.val].isSome = true := by
  simp [State.owesBlank, State.storedRange, hq, hh]

/-- A commit of R143 that completes enters the next (R154; log entry 48). -/
theorem exec_spending {s : State} (hp : s.powered = true) (hh : s.held = []) {key : EntryKey} {ws : List RecordWrite}
    {step : SpendStep} (hq : s.queue = [⟨key, ws, [.spending step]⟩]) :
    exec .commitComplete s = .next (State.sealEvent s ((s.written ws).spent step)) :=
  exec_commitComplete_of_one hp hq hh

theorem State.spent_of_next {s : State} {step next : SpendStep} (h : s.spendNext step = some next) :
    s.spent step = s.spendEnter next := by
  simp only [State.spent, h]

theorem State.spent_of_none {s : State} {step : SpendStep} (h : s.spendNext step = none) : s.spent step = s := by
  simp only [State.spent, h]

/-- A commit of R143 that completes with no other entry: the next is the one entry of the queue. -/
theorem exec_spending_of_next {s : State} (hp : s.powered = true) (hh : s.held = []) {key : EntryKey}
    {ws : List RecordWrite} {step next : SpendStep} (hq : s.queue = [⟨key, ws, [.spending step]⟩])
    (hnext : (s.written ws).spendNext step = some next) {w : Entry}
    (hw : (s.written ws).spendEnter next = (s.written ws).enter [] w) :
    exec .commitComplete s = .next { s.written ws with queue := [w] } := by
  rw [exec_spending hp hh hq, State.spent_of_next hnext, hw, State.enter_of_empty (s := s.written ws) rfl hh]
  exact congrArg Host.Outcome.next (State.sealEvent_of_quiet (Nat.le_refl _) (Nat.le_refl _))

/-! ## The removal at the job's end -/

theorem removeDone_of_all {l : List Order} (h : ∀ x ∈ l, x.done = true) (c n : Nat) (cp : Option Nat) :
    (removeDone l c n cp).orders = [] ∧ (removeDone l c n cp).cursor = endOf c l := by
  induction l generalizing c n cp with
  | nil => exact ⟨rfl, rfl⟩
  | cons o l ih =>
    obtain ⟨ho, hl⟩ := List.forall_mem_cons.1 h
    rw [removeDone_cons_of_done ho, endOf_cons]
    split
    · exact ih hl ..
    · exact ih hl ..

theorem endOf_markDone (c n : Nat) (l : List Order) : endOf c (markDone n l) = endOf c l := by
  rw [endOf, endOf, markDone, List.getLast?_map, Option.map_map]
  refine congrArg (fun f => (Option.map f l.getLast?).getD c) (funext fun o => ?_)
  dsimp only [Function.comp]
  split <;> rfl

theorem markDone_done {n : Nat} {l : List Order} (h : ∀ x ∈ l, x.id = n ∨ x.done = true) :
    ∀ x ∈ markDone n l, x.done = true := by
  intro x hx
  obtain ⟨y, hy, rfl⟩ := List.mem_map.1 hx
  split
  · rfl
  · exact (h y hy).resolve_left ‹_›

/-! ## A request answered behind the notices of its event -/

theorem takeRequest_of_notedReply {s x : State} (hs : s.Hears .drive) {k : ReqKind} {pl : List Byte}
    (h : frameRefusal s k .drive pl = none) {tag : Byte} {owner : State → State} {b : ReplyBody}
    (howner : owner (s.endTransaction .drive) = x.replyTo k .drive tag b)
    (hd : (s.endTransaction .drive).drive.Adds x.custody.state x.drive)
    (hp : s.platform.Adds x.custody.state x.platform) :
    takeRequest k .drive tag pl owner s = { x with drive := { x.drive with replySlot := some ⟨replyKind k, tag, b⟩ } } := by
  rw [takeRequest_of_taken hs h, howner]
  exact State.sealEvent_of_adds (b := s.endTransaction .drive) (s := x.replyTo k .drive tag b) hd hp

theorem PortState.push_slot (q : PortState) (n : Notice) (r : Option Reply) :
    { q.push n with replySlot := r } = { q with replySlot := r }.push n := by
  unfold PortState.push
  split <;> rfl

/-! ## Range states -/

theorem State.setRangeState_of_stored {s : State} {r : RangeId} {c : RangeRec} (h : (s.range r).stored = some c)
    (st : RangeState) :
    s.setRangeState r st = s.setRange r { s.range r with stored := some { c with state := st } } := by
  rw [State.setRangeState, State.editRange, RangeEntry.edit, h]
  rfl

theorem State.foldl_setRangeState (st : RangeState) (l : List RangeId) (s : State) :
    ∃ v, l.foldl (fun x r => x.setRangeState r st) s = { s with ranges := v } ∧
      ∀ r : RangeId, v[r.val] = if r ∈ l then (s.range r).edit (fun c => { c with state := st }) else s.range r := by
  induction l generalizing s with
  | nil => exact ⟨s.ranges, rfl, fun r => rfl⟩
  | cons q l ih =>
    obtain ⟨v, hv, hr⟩ := ih (s.setRangeState q st)
    refine ⟨v, hv, fun r => ?_⟩
    have hrange : (s.setRangeState q st).range r =
        if q = r then (s.range q).edit (fun c => { c with state := st }) else s.range r := s.range_setRange ..
    rw [hr r, hrange]
    by_cases hqr : q = r
    · subst hqr
      simp [RangeEntry.edit, Option.map_map, Function.comp_def]
    · simp [hqr, Ne.symm hqr]

/-- The CUSTODY job's end makes every present range BLANK and custody SPENT (R143). -/
theorem State.markSpent_eq (s : State) :
    ∃ v, s.markSpent = { s with
        ranges := v, scrub := { s.scrub with job := none }, custody := { s.custody with state := .spent } } ∧
      ∀ r : RangeId, v[r.val] = { s.range r with stored := (s.range r).stored.map fun c => { c with state := .blank } } := by
  obtain ⟨v, hv, hr⟩ := State.foldl_setRangeState .blank (s.setJob none).presentRanges (s.setJob none)
  refine ⟨v, (congrArg (fun x : State => { x with custody := { x.custody with state := .spent } }) hv).trans rfl, fun r => ?_⟩
  rw [hr r]
  split
  · rfl
  · rename_i hno
    have hnone : (s.range r).stored = none :=
      Option.not_isSome_iff_eq_none.1 fun h => hno (List.mem_filter.2 ⟨mem_allRanges r, h⟩)
    change s.range r = _
    rw [hnone]
    exact congrArg (fun o => { s.range r with stored := o }) hnone

/-! ## The job's end -/

/-- A RETIRE job's end, its job's successor and its group apart (R142). -/
def State.retireEnded (s : State) (r : RangeId) (c : RangeRec) : State :=
  { s with
    ranges := s.ranges.set r.val { s.range r with stored := some { c with state := .blank } } r.isLt
    scrub := { s.scrub with job := none }
    drive := s.drive.push ⟨.scrubJobDone, some r, none, s.epoch, s.custody.state⟩ }

/-- A RETIRE job's end into an empty queue, the Scrub Controller's next contents given (R142). -/
theorem State.completeRetire_eq {s : State} (hq : s.queue = []) (hh : s.held = []) {r : RangeId} {c : RangeRec}
    (hc : (s.range r).stored = some c) {x : ScrubCtl}
    (hx : (s.retireEnded r c).nextJob = { s.retireEnded r c with scrub := x }) :
    s.completeRetire r = { s.retireEnded r c with
      scrub := x
      queue := [retireGroupEntry r .blank ⟨x.job.map (·.journal), x.waiting⟩ .setsJob []] } := by
  have hended : ((s.setRangeState r .blank).notify .drive .scrubJobDone (some r)).setJob none = s.retireEnded r c := by
    rw [State.setRangeState_of_stored hc]
    rfl
  simp only [State.completeRetire, hended, hx]
  exact State.enter_of_empty (s := { s.retireEnded r c with scrub := x }) hq hh [] _

theorem State.nextJob_of_empty {s : State} (hw : s.scrub.waiting = []) : s.nextJob = s := by
  unfold State.nextJob
  rw [hw]
  split
  · contradiction
  · rfl

theorem State.nextJob_of_waiting {s : State} (hj : s.scrub.job = none) {q : RangeId} {rest : List RangeId}
    (hw : s.scrub.waiting = q :: rest) {d : RangeRec} (hd : (s.range q).stored = some d) :
    s.nextJob = { s with scrub := { s.scrub with
      job := some ⟨⟨.retire, some q, d.start * 8, (d.start + d.length) * 8, d.start * 8, false⟩, d.start * 8, [], 0⟩
      waiting := rest } } := by
  simp only [State.nextJob, hj, hw, State.retireJob_of_stored hd]
  rfl

/-- A CUSTODY job's end into an empty queue (R143). -/
theorem State.completeCustody_eq {s : State} (hq : s.queue = []) (hh : s.held = []) :
    ∃ v, s.completeCustody = { s with
        ranges := v
        scrub := { s.scrub with job := none }
        custody := { s.custody with state := .spent }
        queue := [⟨.single .journal, [.journal ⟨none, s.scrub.waiting⟩ .plain], [.spending .journal]⟩]
        drive := s.drive.push ⟨.custodyChanged, none, none, s.epoch, .spent⟩
        platform := s.platform.push ⟨.custodyChanged, none, none, s.epoch, .spent⟩ } ∧
      ∀ r : RangeId, v[r.val] = { s.range r with stored := (s.range r).stored.map fun c => { c with state := .blank } } := by
  obtain ⟨v, hv, hr⟩ := s.markSpent_eq
  refine ⟨v, ?_, hr⟩
  have hspend : s.spend = { s.markSpent with
      queue := [⟨.single .journal, [.journal ⟨none, s.scrub.waiting⟩ .plain], [.spending .journal]⟩] } := by
    rw [State.spend, hv]
    exact State.enter_of_empty
      (s := { s with ranges := v, scrub := { s.scrub with job := none }, custody := { s.custody with state := .spent } })
      hq hh [] _
  rw [State.completeCustody, hspend, hv]
  rfl

/-- The SCRUB_DONE after which every order is done and the newest ends at the job's end. -/
theorem exec_scrubDone_of_end {s : State} (hs : s.Ready .drive) (tag : Byte) {pl : List Byte} (hlen : pl.length = 2)
    {j : Job} {o e : Order} (hj : s.scrub.job = some j)
    (hf : (j.orders.find? fun x => decide (x.id = leNat pl)) = some o) (ho : o.done = false)
    (hall : ∀ x ∈ j.orders, x.id = leNat pl ∨ x.done = true) (hlast : j.orders.getLast? = some e)
    (hstop : e.start + e.length = j.journal.stop) :
    ∃ j', ∀ x, (((s.endTransaction .drive).setJob (some j')).completeJob
        { j.journal with cursor := j.journal.stop }).updateFinalCursor = x →
      (s.endTransaction .drive).drive.Adds x.custody.state x.drive → s.platform.Adds x.custody.state x.platform →
      exec (.scrubDone .drive tag pl) s = .next { x with
        drive := { x.drive with replySlot := some ⟨replyKind .scrubDone, tag, .scrubbed j.journal.stop true⟩ } } := by
  have hid : fieldAt pl 0 2 = leNat pl := by rw [fieldAt, List.drop_zero, List.take_of_length_le hlen.le]
  obtain ⟨a, ha⟩ : ∃ a, removeDone (markDone (leNat pl) j.orders) j.journal.cursor j.chunks none = a := ⟨_, rfl⟩
  have hcursor : a.cursor = j.journal.stop := by
    rw [← ha, (removeDone_of_all (markDone_done hall) ..).2, endOf_markDone, endOf, hlast]
    exact hstop
  have howner := scrubDoneOwner_of_undone (s := s.endTransaction .drive) tag hj (hid ▸ hf) ho (hid ▸ ha)
  refine ⟨j.advanced a, fun x hx hd hp => ?_⟩
  rw [State.advance, if_pos hcursor, hcursor, hx, decide_eq_true rfl] at howner
  exact congrArg Host.Outcome.next (takeRequest_of_notedReply hs.1
    (frameRefusal_of_ready hs.2 rfl (by simp [admitsLength, hlen])) howner hd hp)

/-- Settles O51: the commits of a CUSTODY job's end, and the SCRUB_DONE that ends each kind of job. -/
theorem lastOrderCompletesTheJob : Obligations.LastOrderCompletesTheJob := by
  unfold Obligations.LastOrderCompletesTheJob
  refine ⟨fun s key ws step hp hh hq => ?commits, fun s tag pl j o e hs hlen hj hf ho hall hlast hstop hq hh => ?ends⟩
  case commits =>
    intro st c owed behind enters
    have hbehind (r : RangeId) : behind r = step.behind r := by cases step <;> rfl
    have howed (r : RangeId) : (s.written ws).owesBlank r = true ↔ owed r := State.owesBlank_iff (s := s.written ws) rfl hh r
    refine ⟨fun hstep => ?_, fun hstep => ⟨fun r hb ho hleast => ?_, fun hno => ?_⟩⟩
    · subst hstep
      exact exec_spending_of_next hp hh hq rfl rfl
    · refine exec_spending_of_next hp hh hq (State.spendNext_of_least hstep (hbehind r ▸ hb) ((howed r).2 ho)
        fun q hbq hqr => ?_) rfl
      exact Bool.eq_false_iff.2 fun h => hleast q ((hbehind q).symm ▸ hbq) hqr ((howed q).1 h)
    · have hnone := State.spendNext_of_none (s := s.written ws) hstep fun q hbq =>
        Bool.eq_false_iff.2 fun h => hno q ((hbehind q).symm ▸ hbq) ((howed q).1 h)
      refine (exec_spending hp hh hq).trans ?_
      rw [State.spent_of_none hnone]
      exact congrArg Host.Outcome.next (State.sealEvent_of_quiet (Nat.le_refl _) (Nat.le_refl _))
  case ends =>
    intro reply
    obtain ⟨j', hrun⟩ := exec_scrubDone_of_end hs tag hlen hj hf ho hall hlast hstop
    refine ⟨fun r c hkind hrange hc => ?retireJob, fun hkind => ?custodyJob⟩
    case retireJob =>
      intro ranges ends
      have hends {y : ScrubCtl} (hy : (((s.endTransaction .drive).setJob (some j')).retireEnded r c).nextJob =
          { (s.endTransaction .drive).retireEnded r c with scrub := y }) :
          exec (.scrubDone .drive tag pl) s = ends y (y.job.map Job.journal) := by
        obtain ⟨x, hx⟩ : ∃ x, x = { (s.endTransaction .drive).retireEnded r c with
            scrub := y, queue := [retireGroupEntry r .blank ⟨y.job.map Job.journal, y.waiting⟩ .setsJob []] } := ⟨_, rfl⟩
        have hdrive : x.drive = (s.endTransaction .drive).drive.push
            ⟨.scrubJobDone, some r, none, s.epoch, s.custody.state⟩ := hx ▸ rfl
        have hcustody : x.custody = s.custody := hx ▸ rfl
        refine (hrun x ?_ ?_ ?_).trans ?_
        · simp only [State.completeJob, hkind, hrange]
          rw [State.completeRetire_eq (s := (s.endTransaction .drive).setJob (some j')) hq hh hc hy, hx]
          rfl
        · rw [hdrive, hcustody]
          exact .push (.of_same rfl) rfl
        · rw [hx]
          exact .of_same rfl
        · rw [hdrive, hx]
          exact congrArg (fun d => Host.Outcome.next { s with
            ranges := ranges
            scrub := y
            queue := [retireGroupEntry r .blank ⟨y.job.map Job.journal, y.waiting⟩ .setsJob []]
            drive := d }) (PortState.push_slot ..)
      refine ⟨fun hw => ?_, fun q rest d hw hqr hd => ?_⟩
      · exact hends (y := { s.scrub with job := none }) (State.nextJob_of_empty hw)
      · refine hends (y := { s.scrub with
          job := some ⟨⟨.retire, some q, d.start * 8, (d.start + d.length) * 8, d.start * 8, false⟩, d.start * 8, [], 0⟩
          waiting := rest }) (State.nextJob_of_waiting
            (s := ((s.endTransaction .drive).setJob (some j')).retireEnded r c) rfl hw ?_)
        have hrange : (((s.endTransaction .drive).setJob (some j')).retireEnded r c).range q = s.range q :=
          s.range_setRange_of_ne (Ne.symm hqr) _
        rw [hrange, hd]
    case custodyJob =>
      obtain ⟨v, hv, hr⟩ := State.completeCustody_eq (s := (s.endTransaction .drive).setJob (some j')) hq hh
      have hcomplete : ((s.endTransaction .drive).setJob (some j')).completeJob
          { j.journal with cursor := j.journal.stop } = ((s.endTransaction .drive).setJob (some j')).completeCustody := by
        simp only [State.completeJob, hkind]
      have hrun := hrun _ (congrArg State.updateFinalCursor (hcomplete.trans hv)) (.push (.of_same rfl) rfl)
        (.push (.of_same rfl) rfl)
      exact ⟨_, hrun, rfl, rfl, rfl, rfl, hr, PortState.push_slot .., rfl, rfl, hh⟩

end Sys2Proof.Machine

/-!
PROOFS. The record store (R150 to R156; O52): where a write goes, and what a completion changes.
-/

namespace Sys2Proof.Machine

open Sys2Proof

/-! ## Where a write goes -/

theorem splitLast_append {m : Entry → Bool} {x : Entry} (hx : m x = true) {a : List Entry} (ha : ∀ e ∈ a, m e = false)
    (b : List Entry) : splitLast m (b ++ x :: a) = some (b, x, a) := by
  induction b with
  | nil => simp [splitLast, splitLast_none ha, hx]
  | cons e b ih => simp [splitLast, ih]

theorem Entry.contains_iff {e : Entry} {r : RecordId} :
    e.contains r = true ↔ e.key ≠ .final ∧ ∃ x ∈ e.writes, x.record = some r := by
  simp [Entry.contains]

/-- A write other than a cursor checkpoint takes the place of the one it merges into (R152). -/
theorem mergeWrite_of_plain {w : RecordWrite} (h : ∀ j, w ≠ .journal j .checkpoint) (old : RecordWrite) :
    mergeWrite old w = w := by
  unfold mergeWrite
  split
  · exact absurd rfl (h _)
  · exact absurd rfl (h _)
  · exact absurd rfl (h _)
  · rfl

/-- The write of one record merged into an entry. -/
def Entry.mergedOne (e : Entry) (r : RecordId) (w : RecordWrite) (acts : List Act) : Entry :=
  { e with writes := e.writes.map (fun x => if x.record = some r then w else x), acts := e.acts ++ acts }

theorem Entry.merge_of_plain {w : RecordWrite} (h : ∀ j, w ≠ .journal j .checkpoint) (e : Entry) (r : RecordId)
    (acts : List Act) : e.merge ⟨.single r, [w], acts⟩ = e.mergedOne r w acts := by
  simp only [Entry.merge, List.foldl_cons, List.foldl_nil, mergeWrite_of_plain h]
  rfl

section
variable {s : State} {earlier : List EntryKey} {n : Entry} {b a : List Entry} {x : Entry}

theorem State.enter_of_held (hs : s.held = b ++ x :: a) (hx : x.holds n.key = true) (ha : ∀ e ∈ a, e.holds n.key = false) :
    s.enter [] n = { s with held := b ++ x.merge n :: a } := by
  have hfollows : (a.any fun e => ([] : List EntryKey).any e.holds) = false := by simp
  simp only [State.enter, hs, splitLast_append hx ha, hfollows, Bool.false_eq_true, if_false]

theorem State.enter_of_waiting {h : Entry} (hs : s.queue = h :: (b ++ x :: a)) (hx : x.holds n.key = true)
    (ha : ∀ e ∈ a, e.holds n.key = false) (hheld : ∀ e ∈ s.held, e.holds n.key = false)
    (hfollows : ∀ e ∈ a ++ s.held, ∀ k ∈ earlier, e.holds k = false) :
    s.enter earlier n = { s with queue := h :: (b ++ x.merge n :: a) } := by
  have hno : ((a ++ s.held).any fun e => earlier.any e.holds) = false := by
    simp only [List.any_eq_false, Bool.not_eq_true]
    exact hfollows
  simp only [State.enter, splitLast_none hheld, hs, List.tail_cons, splitLast_append hx ha, hno, Bool.false_eq_true,
    if_false]
  rfl

theorem State.enter_of_followed {h : Entry} (hs : s.queue = h :: (b ++ x :: a)) (hx : x.holds n.key = true)
    (ha : ∀ e ∈ a, e.holds n.key = false) (hheld : s.held = [])
    (hfollows : ∃ e ∈ a, ∃ k ∈ earlier, e.holds k = true) :
    s.enter earlier n = { s with queue := h :: (b ++ a ++ [x.merge n]) } := by
  have hyes : ((a ++ []).any fun e => earlier.any e.holds) = true := by
    rw [List.append_nil]
    simp only [List.any_eq_true]
    exact hfollows
  have hnone : splitLast (·.holds n.key) [] = none := rfl
  simp only [State.enter, hnone, hs, List.tail_cons, splitLast_append hx ha, hyes, hheld, List.isEmpty_nil, if_true]
  rfl

theorem State.enter_of_free (hheld : s.held = []) (hno : ∀ e ∈ s.queue.tail, e.holds n.key = false)
    (hroom : nonFinal s.queue < 4) : s.enter earlier n = { s with queue := s.queue ++ [n] } := by
  have hfree : 0 < s.freeEntries := by
    rw [State.freeEntries, hheld]
    exact Nat.sub_pos_of_lt hroom
  have hnone : splitLast (·.holds n.key) s.held = none := by rw [hheld]; rfl
  simp only [State.enter, hnone, splitLast_none hno, if_pos hfree]

theorem State.enter_of_full (hheld : ∀ e ∈ s.held, e.holds n.key = false)
    (hno : ∀ e ∈ s.queue.tail, e.holds n.key = false) (hfull : s.held ≠ [] ∨ 4 ≤ nonFinal s.queue) :
    s.enter earlier n = { s with held := s.held ++ [n] } := by
  have hfree : ¬0 < s.freeEntries := by
    rw [State.freeEntries]
    split
    · rename_i hempty
      have hfour := hfull.resolve_left (not_not.2 (List.isEmpty_iff.1 hempty))
      rw [show Config.queueCapacity = 4 from rfl]
      omega
    · exact Nat.lt_irrefl 0
  simp only [State.enter, splitLast_none hheld, splitLast_none hno, if_neg hfree]

end

/-! ## Completions -/

theorem State.promoteHeld_one {s : State} {h : Entry} (hs : s.held = [h]) (hroom : nonFinal s.queue < 4)
    (hno : ∀ x ∈ s.queue.tail, x.holds h.key = false) :
    State.promoteHeld s.held.length s = { s with queue := s.queue ++ [h], held := [] } := by
  rw [hs]
  simp only [List.length_cons, List.length_nil, State.promoteHeld, hs, splitLast_none hno,
    if_pos (show nonFinal s.queue < Config.queueCapacity from hroom)]

/-- No command but COMMIT_COMPLETE changes a record. -/
theorem exec_store {c : Instr} {s t : State} (h : exec c s = .next t) (hc : c ≠ .commitComplete) : t.store = s.store := by
  by_cases hstart : ∃ kept, c = .startInstant kept
  · obtain ⟨kept, rfl⟩ := hstart
    cases h
    obtain ⟨cause, hstays⟩ := s.start_stays kept
    exact hstays.store
  · by_cases hloss : c = .powerLoss
    · subst hloss
      cases h
      split <;> rfl
    · exact (exec_event h (fun kept hk => hstart ⟨kept, hk⟩) hloss hc).store

/-- Settles O52: the places of a write, the merge of journals, and COMMIT_COMPLETE. -/
theorem storeChangesAtCompletions : Obligations.StoreChangesAtCompletions := by
  unfold Obligations.StoreChangesAtCompletions
  refine ⟨fun s earlier r w acts hw hplain => ?enters, fun n j r b => ?merges, fun c s t => exec_store, fun s => ?completes⟩
  case enters =>
    intro t has merged
    have hhas {e : Entry} (h : has e) : e.holds (.single r) = true := Entry.contains_iff.2 h
    have hnot {e : Entry} (h : ¬has e) : e.holds (.single r) = false := Bool.eq_false_iff.2 fun hc => h (Entry.contains_iff.1 hc)
    have hmerge (e : Entry) : e.merge ⟨.single r, [w], acts⟩ = merged e := Entry.merge_of_plain hplain e r acts
    refine ⟨fun b x a hs hx ha hnil => ?_, fun hheld => ⟨fun h b x a hs hx ha => ⟨fun hfree => ?_, fun hnil hfollows => ?_⟩,
      fun hno => ⟨fun hnil hroom => ?_, fun hfull => ?_⟩⟩⟩
    · rw [← hmerge]
      have henter := State.enter_of_held (n := ⟨.single r, [w], acts⟩) hs (hhas hx) fun e he => hnot (ha e he)
      rwa [← hnil] at henter
    · rw [← hmerge]
      exact State.enter_of_waiting hs (hhas hx) (fun e he => hnot (ha e he)) (fun e he => hnot (hheld e he)) hfree
    · rw [← hmerge]
      exact State.enter_of_followed hs (hhas hx) (fun e he => hnot (ha e he)) hnil hfollows
    · exact State.enter_of_free hnil (fun e he => hnot (hno e he)) hroom
    · exact State.enter_of_full (fun e he => hnot (hheld e he)) (fun e he => hnot (hno e he)) hfull
  case merges =>
    refine ⟨?_, rfl, rfl, rfl, rfl⟩
    simp only [mergeWrite, List.contains_iff_mem]
  case completes =>
    refine ⟨fun hnone => ?_, fun e rest hp hq => ⟨?_, fun hacts hh => ?_, fun h hacts hh hroom hno => ?_⟩⟩
    · rcases hnone with hq | hp
      · refine congrArg Host.Outcome.next ?_
        unfold deviceEvent
        split
        · rw [State.completeHead_of_nil hq]
          exact State.sealEvent_of_quiet (Nat.le_refl _) (Nat.le_refl _)
        · rfl
      · exact congrArg Host.Outcome.next (if_neg (by simp [hp]))
    · refine ⟨_, congrArg Host.Outcome.next (deviceEvent_of_powered hp State.completeHead), ?_⟩
      exact (State.completeHead_flows hq).store
    · rw [exec_commitComplete_of_cons hp hq hh, hacts]
      exact congrArg Host.Outcome.next (State.sealEvent_of_quiet (Nat.le_refl _) (Nat.le_refl _))
    · have hhead : s.completeHead = { s with store := s.store.commit e.writes, queue := rest ++ [h], held := [] } := by
        rw [State.completeHead_of_cons hq, hacts]
        exact State.promoteHeld_one (s := s.committed e rest) hh hroom hno
      refine (congrArg Host.Outcome.next (deviceEvent_of_powered hp State.completeHead)).trans ?_
      rw [hhead]
      exact congrArg Host.Outcome.next (State.sealEvent_of_quiet (Nat.le_refl _) (Nat.le_refl _))

end Sys2Proof.Machine

/-!
PROOFS. Supply Warning and the final checkpoint (R146, R157, R158; O53).
-/

namespace Sys2Proof.Machine

open Sys2Proof

/-! ## A SCRUB_DONE while a final checkpoint waits -/

/-- A waiting final checkpoint holds no record and no group: a write passes it. -/
theorem State.enter_behind_final {y : State} {e fin : Entry} (hq : y.queue = [e, fin]) (hh : y.held = [])
    (hfin : fin.key = .final) (w : Entry) : y.enter [] w = { y with queue := [e, fin, w] } := by
  have hnone : ∀ x ∈ y.queue.tail, x.holds w.key = false := by
    intro x hx
    rw [hq] at hx
    obtain rfl : x = fin := by simpa using hx
    cases w.key <;> simp [Entry.holds, Entry.contains, hfin]
  have hroom : nonFinal y.queue < 4 := by
    rw [hq, nonFinal_cons, nonFinal_cons, if_pos hfin]
    split <;> simp [nonFinal]
  rw [State.enter_of_free hh hnone hroom, hq]
  rfl

/-- What a removal enters stands behind the entry under way and the final checkpoint that waits. -/
theorem State.queue_advance_behind {y : State} {e fin : Entry} (hq : y.queue = [e, fin]) (hh : y.held = [])
    (hfin : fin.key = .final) (j : Job) (a : Advance) : ∃ rest, (y.advance j a).queue = e :: fin :: rest := by
  have hset (z : State) (hz : z.queue = [e, fin]) : ∃ rest, z.queue = e :: fin :: rest := ⟨[], hz⟩
  have henter (z : State) (hz : z.queue = [e, fin]) (hzh : z.held = []) (w : Entry) :
      ∃ rest, (z.enter [] w).queue = e :: fin :: rest := by
    rw [State.enter_behind_final hz hzh hfin w]
    exact ⟨[w], rfl⟩
  unfold State.advance
  split
  · unfold State.completeJob
    split
    · rename_i r _ _
      obtain ⟨c, hc⟩ := State.nextJob_frame ((((y.setJob (some (j.advanced a))).setRangeState r .blank).notify .drive
        .scrubJobDone (some r)).setJob none)
      simp only [State.completeRetire, hc]
      refine henter _ ?_ ?_ _
      · exact hq
      · exact hh
    · exact hset _ hq
    · obtain ⟨v, hv, -⟩ := (y.setJob (some (j.advanced a))).markSpent_eq
      have hspend := henter _ (show (y.setJob (some (j.advanced a))).markSpent.queue = [e, fin] by rw [hv]; exact hq)
        (by rw [hv]; exact hh)
      exact hspend _
  · split
    · refine henter (y.setJob (some (j.advanced a))) ?_ ?_ _
      · exact hq
      · exact hh
    · exact hset _ hq

/-- A SCRUB_DONE leaves the queue and the Scrub Controller, or makes a removal of them. -/
theorem exec_scrubDone_queue {s t : State} (hs : s.Ready .drive) {tag : Byte} {pl : List Byte} (hlen : pl.length = 2)
    (h : exec (.scrubDone .drive tag pl) s = .next t) :
    (t.queue = s.queue ∧ t.scrub = s.scrub) ∨
      ∃ j a, t.queue = ((s.endTransaction .drive).advance j a).updateFinalCursor.queue ∧
        t.scrub = ((s.endTransaction .drive).advance j a).scrub := by
  have hport : frameRefusal s .scrubDone .drive pl = none :=
    frameRefusal_of_ready hs.2 rfl (by simp [admitsLength, hlen])
  have hrun : t = State.sealEvent (s.endTransaction .drive) (scrubDoneOwner tag pl (s.endTransaction .drive)) :=
    (Host.Outcome.next.inj (h.symm.trans (congrArg Host.Outcome.next (takeRequest_of_taken hs.1 hport tag _))))
  subst hrun
  cases hj : (s.endTransaction .drive).scrub.job with
  | none =>
    rw [scrubDoneOwner_of_idle tag hj]
    exact .inl ⟨rfl, rfl⟩
  | some j =>
    cases hf : j.orders.find? fun x => decide (x.id = fieldAt pl 0 2) with
    | none =>
      rw [scrubDoneOwner_of_unknown tag hj hf]
      exact .inl ⟨rfl, rfl⟩
    | some o =>
      by_cases ho : o.done = true
      · rw [scrubDoneOwner_of_done tag hj hf ho]
        exact .inl ⟨rfl, rfl⟩
      · rw [scrubDoneOwner_of_undone tag hj hf (Bool.eq_false_iff.2 ho) rfl]
        exact .inr ⟨j, _, rfl, rfl⟩

/-! ## The checkpoint's writes -/

theorem State.finalWaiting_iff {s : State} : s.finalWaiting = true ↔ ∃ e ∈ s.queue.tail, e.key = .final := by
  simp [State.finalWaiting]

/-- The cursor that a final checkpoint writes, the case without a job first. -/
theorem State.finalCursor_eq (s : State) : s.finalCursor =
    match s.scrub.job with
    | none => []
    | some j => [.finalCursor j.journal.kind j.journal.range j.journal.cursor] := by
  unfold State.finalCursor
  cases s.scrub.job <;> rfl

/-- The cursor that a final checkpoint writes is one of the job that stands (R157). -/
theorem State.isFinalCursor_of_finalCursor {s : State} {w : RecordWrite} (h : w ∈ s.finalCursor) :
    ∃ k r n, w = .finalCursor k r n := by
  unfold State.finalCursor at h
  split at h
  · exact ⟨_, _, _, by simpa using h⟩
  · cases h

/-- The waiting final checkpoint's cursor follows the job (R157). -/
theorem State.queue_updateFinalCursor {y : State} {e : Entry} {f : RecordWrite} {ws : List RecordWrite} {rest : List Entry}
    (hq : y.queue = e :: ⟨.final, f :: ws, []⟩ :: rest) (hf : f.isFinalCursor = false)
    (hws : ∀ w ∈ ws, w.isFinalCursor = true) :
    y.updateFinalCursor.queue[1]? = some ⟨.final, f :: y.finalCursor, []⟩ := by
  have hfilter : ((f :: ws).filter fun w => !w.isFinalCursor) = [f] := by
    rw [List.filter_cons_of_pos (by simp [hf]), List.filter_eq_nil_iff.2 fun w hw => by simp [hws w hw]]
  simp only [State.updateFinalCursor, hq, mapFinal, List.take_succ_cons, List.take_zero, List.tail_cons, List.map_cons,
    if_pos, hfilter]
  rfl

/-- A completed final checkpoint writes the clock fields, and the cursor of the job that it names (R157). -/
theorem JournalRec.withCursor_of_job {r : JournalRec} {b : JournalJob} (h : r.job = some b) (k : JobKind) (q : Option RangeId)
    (n : Nat) : r.withCursor k q n = if b.kind = k ∧ b.range = q then { r with job := some { b with cursor := n } } else r := by
  simp only [JournalRec.withCursor, h]

theorem JournalRec.withCursor_of_none {r : JournalRec} (h : r.job = none) (k : JobKind) (q : Option RangeId) (n : Nat) :
    r.withCursor k q n = r := by
  simp only [JournalRec.withCursor, h]

/-- The journal that a final checkpoint of this instant leaves in the store (R157). -/
def State.finalJournal (s : State) : JournalRec :=
  match s.scrub.job with
  | none => s.store.journal
  | some j => s.store.journal.withCursor j.journal.kind j.journal.range j.journal.cursor

/-- The completion of a final checkpoint whose values are those of this instant. -/
theorem Records.commit_final (s : State) :
    s.store.commit s.finalWrites = { s.store with
      custody := { s.store.custody with
        checkin := s.custody.checkin, checkinExact := true, escalation := s.custody.escalation, escalationExact := true }
      journal := s.finalJournal } := by
  unfold State.finalWrites State.finalJournal State.finalCursor
  cases s.scrub.job <;> rfl

/-- The state after a deassertion, what becomes of the checkpoint apart (R158). -/
def State.supplied (s : State) : State :=
  { s with
    supplyWarning := false, drive := s.drive.push ⟨.supplyRecovered, none, none, s.epoch, s.custody.state⟩ }

/-- What a deassertion makes of a write of the waiting final checkpoint (R158). -/
def State.clearExact (s : State) : RecordWrite → RecordWrite
  | .finalClocks ci es cx ex => .finalClocks ci es (cx && !s.checkinCounting) (ex && !s.escalationCounting)
  | w => w

theorem exec_supplyWarningDeasserted {s : State} (hp : s.powered = true) (hon : s.supplyWarning = true) {q : List Entry}
    (hq : ({ s with supplyWarning := false } : State).supplyRecovered = { s.supplied with queue := q }) :
    exec .supplyWarningDeasserted s = .next { s.supplied with queue := q } := by
  refine congrArg Host.Outcome.next ((if_pos (by simp [hp, hon])).trans ?_)
  rw [hq]
  have hadds : s.drive.Adds s.custody.state s.supplied.drive := .push (.of_same rfl) rfl
  exact State.sealEvent_of_adds (b := { s with supplyWarning := false }) (s := { s.supplied with queue := q }) hadds
    (.of_same rfl)

/-- Settles O53: the placing, the writing, the refreshing and the taking back of the final checkpoint. -/
theorem supplyWarningPlacesTheFinalCheckpoint : Obligations.SupplyWarningPlacesTheFinalCheckpoint := by
  unfold Obligations.SupplyWarningPlacesTheFinalCheckpoint
  intro s hp waits c clocks cursor recovered
  have hcursor : s.finalCursor = cursor := s.finalCursor_eq
  have hnotWaits (h : ¬waits) : s.finalWaiting = false := Bool.eq_false_iff.2 fun hw => h (State.finalWaiting_iff.1 hw)
  refine ⟨fun tag pl e f t hs hlen hf hq hh hrun => ?scrubDone, fun hw => ?kept, fun hno => ?placed, fun hq hh => ?written,
    fun hoff => ?idle, fun hon => ⟨fun hno hcheckin hescalation => ?uncounted, fun hq hh hcounts => ?entered,
      fun e ws hq hws => ?cleared⟩⟩
  case scrubDone =>
    have hfclock : f.isFinalCursor = false := hf ▸ rfl
    rcases exec_scrubDone_queue hs hlen hrun with ⟨hqueue, hscrub⟩ | ⟨j, a, hqueue, hscrub⟩
    · rw [hqueue, hq, hscrub]
      rfl
    · obtain ⟨rest, hrest⟩ := State.queue_advance_behind (y := s.endTransaction .drive) hq hh rfl j a
      rw [hqueue, hscrub]
      refine (State.queue_updateFinalCursor hrest hfclock fun w hw => ?_).trans ?_
      · obtain ⟨k, r, n, rfl⟩ := State.isFinalCursor_of_finalCursor (hcursor.symm ▸ hw)
        rfl
      · exact congrArg (fun l => some (⟨.final, f :: l, []⟩ : Entry)) (State.finalCursor_eq _)
  case kept =>
    refine congrArg Host.Outcome.next ((if_pos hp).trans ?_)
    exact if_pos (State.finalWaiting_iff.2 hw)
  case placed =>
    refine congrArg Host.Outcome.next ((if_pos hp).trans ((if_neg ?_).trans ?_))
    · exact Bool.eq_false_iff.1 (hnotWaits hno)
    · have hwrites : ({ s with supplyWarning := true } : State).finalWrites = clocks true true :: cursor :=
        congrArg (clocks true true :: ·) hcursor
      rw [hwrites, List.append_assoc, List.drop_one]
      rfl
  case written =>
    have hwrites : clocks true true :: cursor = s.finalWrites := congrArg (clocks true true :: ·) hcursor.symm
    have hdone : s.committed ⟨.final, clocks true true :: cursor, []⟩ [] = _ :=
      congrArg (fun st => { s with store := st, queue := [] }) ((congrArg s.store.commit hwrites).trans (Records.commit_final s))
    have hrun := (exec_commitComplete_of_one hp hq hh).trans
      (congrArg Host.Outcome.next (State.sealEvent_of_quiet (Nat.le_refl _) (Nat.le_refl _)))
    refine ⟨_, hrun.trans (congrArg Host.Outcome.next hdone), rfl, fun j b hj hb => ?_, fun hnone => ?_, rfl⟩
    · change s.finalJournal = _
      simp only [State.finalJournal, hj, JournalRec.withCursor_of_job hb]
    · change s.finalJournal = _
      unfold State.finalJournal
      split
      · rfl
      · rename_i j hj
        exact JournalRec.withCursor_of_none (hnone.resolve_left (by simp [hj])) ..
  case idle =>
    refine congrArg Host.Outcome.next ((if_neg (by simp [hoff])).trans ?_)
    exact congrArg (fun b => { s with supplyWarning := b }) hoff.symm
  case uncounted =>
    refine exec_supplyWarningDeasserted hp hon (q := s.queue) ((if_neg (Bool.eq_false_iff.1 (hnotWaits hno))).trans (if_neg ?_))
    exact Bool.eq_false_iff.1 (Bool.or_eq_false_iff.2 ⟨hcheckin, hescalation⟩)
  case entered =>
    have hno : ¬waits := by
      rintro ⟨x, hx, -⟩
      rw [hq] at hx
      cases hx
    refine exec_supplyWarningDeasserted hp hon ((if_neg (Bool.eq_false_iff.1 (hnotWaits hno))).trans ((if_pos ?_).trans ?_))
    · exact Bool.or_eq_true_iff.2 hcounts
    · exact State.storeCustody_of_empty (s := s.supplied) hq hh ..
  case cleared =>
    have hw : waits := ⟨⟨.final, clocks true true :: ws, []⟩, by rw [hq]; exact List.mem_singleton_self _, rfl⟩
    have hclocks : (clocks true true :: ws).map s.clearExact = clocks (!s.checkinCounting) (!s.escalationCounting) :: ws := by
      refine congrArg₂ List.cons rfl ((List.map_congr_left fun w hmem => ?_).trans (List.map_id ws))
      obtain ⟨k, r, n, rfl⟩ := hws w hmem
      rfl
    refine exec_supplyWarningDeasserted hp hon ((if_pos (State.finalWaiting_iff.2 hw)).trans ?_)
    refine congrArg (fun q => { s.supplied with queue := q }) ?_
    change mapFinal _ s.queue = _
    rw [hq]
    exact congrArg (fun l => [e, ⟨.final, l, []⟩]) hclocks

end Sys2Proof.Machine

/-!
PROOFS. The custody clocks, the pairing window, the backoff timers, and the test for FOREIGN_START (R81, R117 to R120; O57).
-/

namespace Sys2Proof.Machine

open Sys2Proof

/-! ## A response, field by field -/

/-- What a response that responds leaves of the custody fields. -/
theorem State.custody_respond {s : State} {l : Level} (h : s.responds l = true) (acts : List Act) :
    (s.respond l acts).custody =
      if s.custody.state.inUse then (s.hidden l).custody else { s.custody with state := l.target } := by
  obtain ⟨sc, n, q, hd, hframe⟩ :=
    (if s.custody.state.inUse then s.hidden l else s.deepened l).storeResponse_frame s.custody.state acts
  rw [State.respond_eq h, hframe]
  dsimp only
  split <;> rfl

/-- In GUARDED or WARNED every response enters its target with the effects of CONCEALED (R122, R123). -/
theorem State.responds_of_inUse {s : State} (h : s.custody.state.inUse = true) (l : Level) : s.responds l = true := by
  obtain ⟨hopen, hzero⟩ := Custody.inUse_iff_strength.1 h
  exact State.responds_iff.2 ⟨hopen, hzero ▸ l.strength_pos⟩

/-- A response in GUARDED or WARNED. -/
structure State.Hidden (s : State) (l : Level) (t : State) : Prop where
  custody : t.custody = (s.hidden l).custody
  mode : t.mode = .blank
  epoch : t.epoch = s.epoch + 1
  range : ∀ r, t.range r = (s.range r).locked
  drive : t.drive = (s.hidden l).drive
  platform : t.platform = (s.hidden l).platform
  store : t.store = s.store

theorem State.hidden_of_respond {s : State} (h : s.custody.state.inUse = true) (l : Level) (acts : List Act) :
    s.Hidden l (s.respond l acts) := by
  obtain ⟨sc, n, q, hd, hframe⟩ := (s.hidden l).storeResponse_frame s.custody.state acts
  rw [State.respond_of_inUse h, hframe]
  exact ⟨rfl, rfl, rfl, fun r => s.range_lockAll r, rfl, rfl, rfl⟩

/-- The storing commit of a response into an empty queue. -/
theorem State.keys_respond {s : State} {l : Level} (h : s.responds l = true) (acts : List Act) (hq : s.queue = [])
    (hh : s.held = []) : (s.respond l acts).queue.map (fun e => e.key) = l.storingKeys s.custody.state := by
  rw [State.respond_eq h]
  refine State.keys_storeResponse acts ?_ ?_ ?_
  all_goals split
  any_goals rfl
  all_goals assumption

/-! ## Events of the device that queue no notice -/

theorem deviceEvent_of_silent {s t : State} {f : State → State} (hp : s.powered = true) (hf : f s = t)
    (hd : t.drive = s.drive) (hplat : t.platform = s.platform) : deviceEvent f s = t := by
  rw [deviceEvent_of_powered hp, hf, State.sealEvent_of_quiet (by rw [hd]) (by rw [hplat])]

/-- A guarded event of the device whose guard fails. -/
theorem deviceEvent_of_skipped {s : State} (hp : s.powered = true) {b : State → Bool} {f : State → State}
    (hb : b s = false) : deviceEvent (fun s => if b s then f s else s) s = s :=
  deviceEvent_of_silent hp (if_neg (Bool.eq_false_iff.1 hb)) rfl rfl

theorem deviceEvent_of_guarded {s : State} (hp : s.powered = true) {b : State → Bool} {f : State → State}
    (hb : b s = true) : deviceEvent (fun s => if b s then f s else s) s = State.sealEvent s (f s) :=
  (deviceEvent_of_powered hp _).trans (congrArg (State.sealEvent s) (if_pos hb))

/-! ## The clocks -/

/-- The state of an advance of the check-in clock before its points are tested. -/
def State.clocked (s : State) (v : Nat) : State := { s with custody := { s.custody with checkin := v, checkinSecs := 0 } }

/-- The state of an advance of the escalation clock before its limit is tested. -/
def State.escalated (s : State) (v : Nat) : State :=
  { s with custody := { s.custody with escalation := v, escalationSecs := 0 } }

/-- Advancing a clock with nothing queued: no final checkpoint is updated. -/
theorem State.advanceCheckin_of_empty {s x : State} (hq : s.queue = [])
    (hx : (if s.policy.expiryPoint ≤ s.nextCheckin then (s.clocked s.nextCheckin).take .checkinExpired
      else if s.custody.state = .guarded ∧ s.policy.warningPoint ≤ s.nextCheckin then (s.clocked s.nextCheckin).warn
      else s.clocked s.nextCheckin) = x) :
    s.advanceCheckin =
      if s.nextCheckin % 15 = 0 then x.storeCustody false (decide (x.custody.state = .concealed)) [] else x := by
  subst hx
  have hclocks : (s.clocked s.nextCheckin).updateFinalClocks = s.clocked s.nextCheckin := by
    simp only [State.updateFinalClocks, State.clocked, hq]
    rfl
  unfold State.advanceCheckin
  simp only [show ({ s with custody := { s.custody with
    checkin := min (s.custody.checkin + 1) s.policy.expiryPoint, checkinSecs := 0 } } : State).updateFinalClocks = _ from hclocks]
  simp only [Bool.and_eq_true, decide_eq_true_eq]
  rfl

theorem State.advanceEscalation_of_empty {s x : State} (hq : s.queue = []) {v : Nat}
    (hv : min (s.custody.escalation + 1) s.policy.escalationLimit = v)
    (hx : (if s.policy.escalationLimit ≤ v then (s.escalated v).respond s.custody.target [] else s.escalated v) = x) :
    s.advanceEscalation = if v % 15 = 0 then x.storeCustody false false [] else x := by
  subst hx hv
  have hclocks : (s.escalated (min (s.custody.escalation + 1) s.policy.escalationLimit)).updateFinalClocks =
      s.escalated (min (s.custody.escalation + 1) s.policy.escalationLimit) := by
    simp only [State.updateFinalClocks, State.escalated, hq]
    rfl
  unfold State.advanceEscalation
  simp only [show ({ s with custody := { s.custody with
    escalation := min (s.custody.escalation + 1) s.policy.escalationLimit, escalationSecs := 0 } } : State).updateFinalClocks = _
    from hclocks]
  rfl

/-- WARNED, into an empty queue (R118). -/
theorem State.warn_of_empty {s : State} (hq : s.queue = []) (hh : s.held = []) :
    s.warn = { s with
      custody := { s.custody with state := .warned }
      drive := s.drive.push ⟨.checkinDue, none, none, s.epoch, .warned⟩
      platform := s.platform.push ⟨.checkinDue, none, none, s.epoch, .warned⟩
      queue := [custodyEntry (({ s with custody := { s.custody with state := .warned } } : State).custodyRec false false) []] } :=
  State.storeCustody_of_empty (s := ({ s with custody := { s.custody with state := .warned } } : State).notifyBoth .checkinDue)
    hq hh false false []

/-! ## The test for FOREIGN_START -/

theorem State.foreignTest_of_due {s : State} (hin : s.custody.state.inUse = true)
    (hlimit : s.policy.foreignLimit ≤ s.custody.foreignCount) : s.foreignTest = s.respond s.policy.foreignStart [] :=
  if_pos (by simp [hin, hlimit])

theorem State.foreignTest_of_short {s : State}
    (h : ¬(s.custody.state.inUse = true ∧ s.policy.foreignLimit ≤ s.custody.foreignCount)) : s.foreignTest = s :=
  if_neg (by simpa using h)

/-- The completion of an entry that carries the test, by whether it takes FOREIGN_START (R117, R121). -/
theorem foreignTest_completes (s : State) (x : CustodyRec) (hp : s.powered = true) (hh : s.held = [])
    (hq : s.queue = [⟨.single .custody, [.custody x], [.foreignTest]⟩]) :
    let s1 : State := { s with store := { s.store with custody := x }, queue := [] }
    let due : Prop := (s.custody.state = .guarded ∨ s.custody.state = .warned) ∧
      s.policy.foreignLimit ≤ s.custody.foreignCount
    (¬due → exec .commitComplete s = .next s1) ∧
    (due → ∃ t, exec .commitComplete s = .next t ∧ t.store = s1.store ∧
      t.custody.state = s.policy.foreignStart.target ∧ t.mode = .blank ∧ t.epoch = s.epoch + 1 ∧
      t.custody.foreignCount = s.custody.foreignCount ∧ t.custody.verdict = s.custody.verdict ∧
      (∀ r, (t.range r).hasRight = false ∧ (t.range r).stored = (s.range r).stored) ∧
      (s.platform.notices = [] → t.platform.notices.map (fun n => n.kind) = [.custodyChanged]) ∧
      (s.drive.notices = [] → t.drive.notices.map (fun n => n.kind) = .custodyChanged ::
        (if s.lane.link = .held then [.laneLinkUp] else []) ++ [.presentationChanged]) ∧
      t.queue.map (fun e => e.key) =
        [if s.policy.foreignStart = .conceal then .single .custody else .eraseGroup]) := by
  intro s1 due
  have hrun : exec .commitComplete s = .next (State.sealEvent s s1.foreignTest) := exec_commitComplete_of_one hp hq hh
  refine ⟨fun hno => ?_, fun ⟨hin, hlimit⟩ => ?_⟩
  · rw [State.foreignTest_of_short (s := s1) fun h => hno ⟨Custody.inUse_iff.1 h.1, h.2⟩] at hrun
    exact hrun.trans (congrArg Host.Outcome.next (State.sealEvent_of_quiet (Nat.le_refl _) (Nat.le_refl _)))
  · have huse : s1.custody.state.inUse = true := Custody.inUse_iff.2 hin
    rw [State.foreignTest_of_due huse hlimit] at hrun
    have hid := State.hidden_of_respond huse s1.policy.foreignStart []
    refine ⟨_, hrun, hid.store, congrArg CustodyCtl.state hid.custody, hid.mode, hid.epoch,
      (congrArg CustodyCtl.foreignCount hid.custody).trans rfl, (congrArg CustodyCtl.verdict hid.custody).trans rfl, fun r => ?range,
      fun hnone => ?platform, fun hnone => ?drive, ?keys⟩
    case range =>
      refine ⟨(congrArg RangeEntry.hasRight (hid.range r)).trans rfl, (congrArg RangeEntry.stored (hid.range r)).trans rfl⟩
    case platform =>
      refine (map_kind_stampNotices ..).trans ?_
      rw [hid.platform, show (s1.hidden s1.policy.foreignStart).platform.notices = _ from
        PortState.notices_push_of_room hnone (by decide) _]
      rfl
    case drive =>
      refine (map_kind_stampNotices ..).trans ?_
      rw [hid.drive, State.notices_hidden (s := s1) hnone (by decide)]
      by_cases hheld : s.lane.link = .held
      · rw [if_pos hheld, if_pos (show s1.lane.link = .held from hheld)]
        rfl
      · rw [if_neg hheld, if_neg (show ¬s1.lane.link = .held from hheld)]
        rfl
    case keys =>
      have hnotErased : s.custody.state ≠ .erased := fun h => by simp [h] at hin
      refine (State.keys_respond (s := s1) (State.responds_of_inUse huse _) [] rfl hh).trans ?_
      change Level.storingKeys s.policy.foreignStart s.custody.state = _
      cases s.policy.foreignStart
      · rfl
      · rfl
      · exact if_neg hnotErased

/-! ## O57 -/

/-- The pairing window's expiry (R117). -/
theorem exec_pairingWindowExpiry {s : State} (hp : s.powered = true) (hw : s.custody.window < 120) :
    exec .pairingWindowExpiry s = .next (State.sealEvent s s.expireWindow) :=
  congrArg Host.Outcome.next ((deviceEvent_of_powered hp _).trans
    (congrArg (State.sealEvent s) (if_pos (show s.custody.window < Config.pairingWindow from hw))))

section
variable {s : State} (hp : s.powered = true) (hq : s.queue = []) (hh : s.held = [])
include hp hq hh

theorem pairingWindow_expires (hw : s.custody.window < 120) :
    ∃ t, exec .pairingWindowExpiry s = .next t ∧ t.custody.window = 120 ∧
      t.custody.verdict = (if s.custody.verdict = .pending then .foreign else s.custody.verdict) ∧
      t.custody.state = s.custody.state ∧
      t.custody.foreignCount =
        (if s.custody.verdict = .pending ∧ s.custody.state.inUse = true then min (s.custody.foreignCount + 1) 15
         else s.custody.foreignCount) ∧
      (t.queue.map fun e => e.acts) =
        (if s.custody.verdict = .pending ∧ s.custody.state.inUse = true then [[.foreignTest]] else []) := by
  have hrun := exec_pairingWindowExpiry hp hw
  by_cases hv : s.custody.verdict = .pending
  · obtain ⟨q, h, hfields⟩ := ({ s with custody := { s.custody with window := 120 } } : State).becomeForeign_fields
    have hacts := State.becomeForeign_acts (s := { s with custody := { s.custody with window := 120 } }) hq hh
    rw [hfields] at hacts
    rw [show s.expireWindow = _ from (if_pos hv).trans hfields] at hrun
    simp only [hv, true_and, if_true]
    exact ⟨_, hrun, rfl, rfl, rfl, rfl, hacts⟩
  · rw [show s.expireWindow = { s with custody := { s.custody with window := 120 } } from if_neg hv] at hrun
    simp only [hv, false_and, if_false]
    exact ⟨_, hrun, rfl, rfl, rfl, rfl, congrArg (List.map _) hq⟩

end

/-- A periodic Custody record into an empty queue (R119). -/
theorem State.periodic_of_empty {x : State} (hq : x.queue = []) (hh : x.held = []) (v : Nat) (b c : Bool) :
    (if v % 15 = 0 then x.storeCustody b c [] else x) =
      if v % 15 = 0 then { x with queue := [custodyEntry (x.custodyRec b c) []] } else x := by
  rw [State.storeCustody_of_empty hq hh]

theorem State.inUse_of_checkinCounting {s : State} (h : s.checkinCounting = true) : s.custody.state.inUse = true := by
  simp only [State.checkinCounting, Bool.and_eq_true] at h
  exact h.1.1

theorem State.concealed_of_escalationCounting {s : State} (h : s.escalationCounting = true) :
    s.custody.state = .concealed := by
  simp only [State.escalationCounting, Bool.and_eq_true, decide_eq_true_eq] at h
  exact h.1

/-- A Custody record while the check-in clock counts: its mark is clear, and the stopped clock's is set (R119). -/
theorem State.custodyRec_of_checkinCounting {s : State} (h : s.checkinCounting = true) :
    s.custodyRec false false =
      ⟨s.custody.state, s.custody.foreignCount, s.custody.checkin, false, s.custody.escalation, true, s.custody.target⟩ := by
  have hstate : s.custody.state ≠ .concealed := fun hc => by
    simpa [hc, Custody.inUse] using State.inUse_of_checkinCounting h
  simp [State.custodyRec, h, State.escalationCounting, hstate]

theorem State.custodyRec_of_escalationCounting {s : State} (h : s.escalationCounting = true) :
    s.custodyRec false false =
      ⟨s.custody.state, s.custody.foreignCount, s.custody.checkin, true, s.custody.escalation, false, s.custody.target⟩ := by
  simp [State.custodyRec, h, State.checkinCounting, State.concealed_of_escalationCounting h, Custody.inUse]

/-- A periodic checkpoint changes the commit queue alone. -/
theorem State.periodic_frame (x : State) (v : Nat) (b c : Bool) :
    ∃ q h, (if v % 15 = 0 then x.storeCustody b c [] else x) = { x with queue := q, held := h } := by
  split
  · exact State.storeCustody_frame ..
  · exact ⟨x.queue, x.held, rfl⟩

/-- An advance that makes GUARDED WARNED: its write, and a periodic one behind it (R118, log entry 38). -/
theorem State.warn_periodic {s : State} (hq : s.queue = []) (hh : s.held = []) (hcounts : s.checkinCounting = true) (v n : Nat) :
    let e : Entry := ⟨.single .custody,
      [.custody ⟨.warned, s.custody.foreignCount, n, false, s.custody.escalation, true, s.custody.target⟩], []⟩
    (if v % 15 = 0 then (s.clocked n).warn.storeCustody false (decide ((s.clocked n).warn.custody.state = .concealed)) []
      else (s.clocked n).warn) =
      { s with
        custody := { s.custody with state := .warned, checkin := n, checkinSecs := 0 }
        drive := s.drive.push ⟨.checkinDue, none, none, s.epoch, .warned⟩
        platform := s.platform.push ⟨.checkinDue, none, none, s.epoch, .warned⟩
        queue := if v % 15 = 0 then [e, e] else [e] } := by
  intro e
  have hwarned : ({ s.clocked n with custody := { (s.clocked n).custody with state := .warned } } : State).checkinCounting =
      true := by
    simp only [State.checkinCounting, Bool.and_eq_true] at hcounts ⊢
    exact ⟨⟨rfl, hcounts.1.2⟩, hcounts.2⟩
  have hwarn := State.warn_of_empty (s := s.clocked n) hq hh
  rw [State.custodyRec_of_checkinCounting hwarned] at hwarn
  obtain ⟨y, hy⟩ : ∃ y, y = (s.clocked n).warn := ⟨_, rfl⟩
  rw [← hy] at hwarn ⊢
  have hstate : y.custody.state = .warned := congrArg (fun x : State => x.custody.state) hwarn
  have hcount : y.checkinCounting = true := by
    rw [hwarn]
    exact hwarned
  have hrec := State.custodyRec_of_checkinCounting hcount
  have henter := State.enter_of_one (s := y) (congrArg State.queue hwarn) (by rw [hwarn]; exact hh) []
    (custodyEntry (y.custodyRec false false) [])
  rw [hstate, decide_eq_false (by decide : Custody.warned ≠ .concealed), State.storeCustody, henter, hrec, hwarn]
  split <;> rfl

/-- An advance that ends without notice. -/
theorem sealEvent_periodic {s x : State} (hd : x.drive = s.drive) (hp : x.platform = s.platform) (v : Nat) (q : List Entry) :
    State.sealEvent s (if v % 15 = 0 then { x with queue := q } else x) = if v % 15 = 0 then { x with queue := q } else x := by
  split <;> exact State.sealEvent_of_quiet (by rw [hd]) (by rw [hp])

/-- Settles O57: each timer by whether it is short of its point, at it, or past it. -/
theorem timersAdvanceAndExpire : Obligations.TimersAdvanceAndExpire := by
  unfold Obligations.TimersAdvanceAndExpire
  refine ⟨foreignTest_completes, fun s hp hq hh => ?_⟩
  intro c p margin next later clocked held periodic expires warns
  refine ⟨fun a => ?backoff, pairingWindow_expires hp hq hh, fun hno => ?stopped, fun hcounts => ⟨fun hshort hquiet => ?short, fun hwarns => ?warns,
    fun hexpires => ?expires⟩, fun hno => ?idle, fun hcounts => ⟨fun hshort => ?holding, fun hlimit hdeeper => ?escalates⟩⟩
  case backoff => exact congrArg Host.Outcome.next (deviceEvent_of_silent hp rfl rfl rfl)
  case stopped => exact congrArg Host.Outcome.next (deviceEvent_of_skipped hp hno)
  case idle => exact congrArg Host.Outcome.next (deviceEvent_of_skipped hp hno)
  case short =>
    have hstate : (s.clocked s.nextCheckin).custody.state ≠ .concealed := fun hc => by
      simpa [show s.custody.state = .concealed from hc, Custody.inUse] using State.inUse_of_checkinCounting hcounts
    have hadvance := State.advanceCheckin_of_empty hq ((if_neg (show ¬p.expiryPoint ≤ s.nextCheckin from hshort)).trans
      (if_neg (show ¬(s.custody.state = .guarded ∧ p.warningPoint ≤ s.nextCheckin) from fun h => hquiet ⟨hshort, h⟩)))
    rw [decide_eq_false hstate, State.periodic_of_empty (x := s.clocked s.nextCheckin) hq hh,
      State.custodyRec_of_checkinCounting (s := s.clocked s.nextCheckin) hcounts] at hadvance
    refine congrArg Host.Outcome.next ((deviceEvent_of_guarded hp hcounts).trans ?_)
    rw [hadvance]
    exact sealEvent_periodic (x := s.clocked s.nextCheckin) rfl rfl _ _
  case holding =>
    have hadvance := State.advanceEscalation_of_empty hq (v := later) rfl (if_neg (Nat.not_le.2 hshort))
    rw [State.periodic_of_empty (x := s.escalated later) hq hh,
      State.custodyRec_of_escalationCounting (s := s.escalated later) hcounts] at hadvance
    refine congrArg Host.Outcome.next ((deviceEvent_of_guarded hp hcounts).trans ?_)
    rw [hadvance]
    exact sealEvent_periodic (x := s.escalated later) rfl rfl _ _
  case escalates =>
    have hconcealed : c.state = .concealed := State.concealed_of_escalationCounting hcounts
    have hresponds : (s.escalated later).responds c.target = true :=
      State.responds_iff.2 ⟨fun h => by simp [show c.state = .opened from h] at hconcealed, by
        rw [show (s.escalated later).custody.state = .concealed from hconcealed]
        exact hdeeper⟩
    have hadvance := State.advanceEscalation_of_empty hq (v := later) rfl (if_pos hlimit.ge)
    have hnext : s.escalatesNext = true := by
      have hle : p.concealHold * 60 ≤ c.escalation + 1 := hlimit ▸ Nat.min_le_left ..
      simp only [State.escalatesNext, hcounts, Bool.true_and]
      exact decide_eq_true hle
    obtain ⟨q, h, hframe⟩ := ((s.escalated later).respond c.target []).periodic_frame later false false
    have hcustody := State.custody_respond hresponds []
    have hres := State.responded_of_respond (s := s.escalated later) (State.responds_iff.1 hresponds).1 c.target []
    have hstrength : (s.escalated later).custody.state.strength ≠ 0 := by
      rw [show (s.escalated later).custody.state = .concealed from hconcealed]
      decide
    have hidle : ¬(s.escalated later).custody.state.inUse = true := by
      rw [show (s.escalated later).custody.state = .concealed from hconcealed]
      decide
    rw [if_neg hidle] at hcustody
    refine ⟨State.sealEvent s s.advanceEscalation, congrArg Host.Outcome.next (deviceEvent_of_guarded hp hnext),
      congrArg Host.Outcome.next (deviceEvent_of_guarded hp hcounts), ?_⟩
    rw [hadvance.trans hframe]
    exact ⟨congrArg CustodyCtl.state hcustody, congrArg CustodyCtl.escalation hcustody, hres.mode.trans (if_neg hstrength),
      hres.epoch.trans (if_neg hstrength)⟩
  case expires =>
    have hin : (s.clocked next).custody.state.inUse = true := State.inUse_of_checkinCounting hcounts
    have hid := State.hidden_of_respond hin p.checkinExpired []
    have hadvance := State.advanceCheckin_of_empty hq (if_pos (show p.expiryPoint ≤ s.nextCheckin from hexpires))
    obtain ⟨q, h, hframe⟩ := ((s.clocked next).respond p.checkinExpired []).periodic_frame next false
      (decide (((s.clocked next).respond p.checkinExpired []).custody.state = .concealed))
    have hnext : s.expiresNext = true := by
      simp only [State.expiresNext, hcounts, Bool.true_and]
      exact decide_eq_true hexpires
    refine ⟨State.sealEvent s s.advanceCheckin, congrArg Host.Outcome.next (deviceEvent_of_guarded hp hnext),
      congrArg Host.Outcome.next (deviceEvent_of_guarded hp hcounts), ?_⟩
    rw [hadvance.trans hframe]
    exact ⟨congrArg CustodyCtl.state hid.custody, congrArg CustodyCtl.checkin hid.custody, hid.mode, hid.epoch,
      fun r => congrArg RangeEntry.hasRight (hid.range r)⟩
  case warns =>
    intro due e t
    obtain ⟨hshort, hguarded, hpoint⟩ := hwarns
    have hadvance := (State.advanceCheckin_of_empty hq ((if_neg (show ¬p.expiryPoint ≤ s.nextCheckin from hshort)).trans
      (if_pos (show s.custody.state = .guarded ∧ p.warningPoint ≤ s.nextCheckin from ⟨hguarded, hpoint⟩)))).trans
      (State.warn_periodic hq hh hcounts s.nextCheckin s.nextCheckin)
    have hseal : State.sealEvent s s.advanceCheckin = t := by
      rw [hadvance]
      exact State.sealEvent_of_adds (b := s) (s := t) (.push (.of_same rfl) rfl) (.push (.of_same rfl) rfl)
    have hnext : s.warnsNext = true := by
      simp only [State.warnsNext, State.expiresNext, hcounts, Bool.true_and, Bool.and_eq_true, decide_eq_true_eq,
        Bool.not_eq_true', decide_eq_false_iff_not]
      exact ⟨⟨hshort, hguarded⟩, hpoint⟩
    exact ⟨congrArg Host.Outcome.next ((deviceEvent_of_guarded hp hnext).trans hseal),
      congrArg Host.Outcome.next ((deviceEvent_of_guarded hp hcounts).trans hseal)⟩

end Sys2Proof.Machine

/-!
PROOFS. RESTART and its effect (R69, R168 to R172; O56).
-/

namespace Sys2Proof.Machine

open Sys2Proof

/-! ## Range 0's binding -/

/-- Binding range 0 leaves every other range, and of range 0 all but the rights and the lane. -/
theorem State.restoreGlobal_ranges (s : State) :
    (∀ r, r ≠ 0 → s.restoreGlobal.range r = s.range r) ∧ (s.restoreGlobal.range 0).stored = (s.range 0).stored ∧
      ((s.range 0).holder = none → (s.restoreGlobal.range 0).holder = none) := by
  have hbind : (∀ r, r ≠ 0 → (s.bind 0).1.range r = s.range r) ∧ ((s.bind 0).1.range 0).stored = (s.range 0).stored ∧
      ((s.bind 0).1.range 0).holder = (s.range 0).holder := by
    unfold State.bind
    split
    · split
      · exact ⟨fun _ _ => rfl, rfl, rfl⟩
      · refine ⟨fun r hr => ?_, ?_, ?_⟩
        · exact State.range_setRange_of_ne _ (Ne.symm hr) _
        · rw [State.range_setRange_self]
        · rw [State.range_setRange_self]
    · split <;> exact ⟨fun _ _ => rfl, rfl, rfl⟩
  obtain ⟨hothers, hstored, hholder⟩ := hbind
  unfold State.restoreGlobal
  dsimp only
  split
  · refine ⟨fun r hr => (State.range_setRange_of_ne _ (Ne.symm hr) _).trans (hothers r hr), ?_, fun _ => ?_⟩
    · rw [State.range_setRange_self]
      exact hstored
    · rw [State.range_setRange_self]
  · exact ⟨hothers, hstored, fun h => hholder.trans h⟩

theorem State.length_restoreGlobal (s : State) : s.restoreGlobal.lane.lanes.length = s.lane.lanes.length := by
  have hbind : (s.bind 0).1.lane.lanes.length = s.lane.lanes.length := by
    unfold State.bind
    split
    · split
      · rfl
      · exact List.length_modify ..
    · split
      · rfl
      · rfl
      · exact List.length_modify ..
      · rfl
      · rfl
      · rfl
  unfold State.restoreGlobal
  dsimp only
  split <;> exact hbind

/-- Range 0 on a CLEARING lane is bound to it again (R52). -/
theorem State.restoreGlobal_of_clearing {s : State} {n : Nat} (h : (s.range 0).lane = some n) {l : LaneRec}
    (hl : s.laneAt n = some l) (hstate : l.state = .clearing) :
    s.restoreGlobal = (s.updLane n fun l => l.bind 0 (s.checkCode 0)).setRange 0
      { s.range 0 with read := true, write := true, holder := none } := by
  have hbind : s.bind 0 = (s.updLane n fun l => l.bind 0 (s.checkCode 0), true) := by
    simp [State.bind, h, hl, hstate]
  rw [State.restoreGlobal, hbind]
  rfl

/-! ## The effect -/

/-- A lane of range 0 that RESTART leaves LOADING in OPEN (log entry 43). -/
def State.keepsLane (s : State) (n : Nat) (l : LaneRec) : Bool :=
  s.custody.state = .opened && (s.range 0).lane = some n && l.state = .loading

/-- The effect of RESTART, range 0's rights in OPEN apart (R69, R169). -/
def State.quieted (s : State) : State :=
  { s with
    restartPending := none
    startCause := .restart
    drive := s.drive.withoutNotices
    platform := s.platform.withoutNotices
    ranges := mapVec RangeEntry.locked s.ranges
    mode := .ofCustody s.custody.state
    epoch := s.epoch + 1
    scrub := { s.scrub with job := s.scrub.job.map Job.forgetOrders }
    lane := { s.lane with
      lanes := s.lane.lanes.mapIdx fun n l => if s.keepsLane n l then l else l.release
      link := if s.lane.link = .held then .up else s.lane.link
      sent := s.lane.sent.map Sent.withoutKey } }

theorem State.restarted_eq (s : State) :
    s.restarted = if s.custody.state = .opened then s.quieted.restoreGlobal else s.quieted := by
  have hkeeps (n : Nat) (l : LaneRec) : (s.lockAll.custody.state = .opened && (s.lockAll.range 0).lane = some n &&
      l.state = .loading) = s.keepsLane n l := by
    rw [State.range_lockAll]
    rfl
  unfold State.restarted State.releaseForRestart
  simp only [hkeeps]
  rfl

theorem State.range_quieted (s : State) (r : RangeId) : s.quieted.range r = (s.range r).locked := getElem_mapVec ..

theorem State.laneAt_quieted (s : State) (n : Nat) :
    s.quieted.laneAt n = (s.laneAt n).map fun l => if s.keepsLane n l then l else l.release := List.getElem?_mapIdx

theorem State.length_quieted (s : State) : s.quieted.lane.lanes.length = s.lane.lanes.length := List.length_mapIdx

/-- Outside OPEN every lane is released. -/
theorem State.lanes_quieted_of_guarded {s : State} (h : s.custody.state ≠ .opened) :
    s.quieted.lane.lanes = s.lane.lanes.map LaneRec.release := by
  have hkeeps (n : Nat) (l : LaneRec) : s.keepsLane n l = false := by simp [State.keepsLane, h]
  refine List.ext_getElem? fun n => ?_
  rw [List.getElem?_map]
  exact (s.laneAt_quieted n).trans (by simp only [hkeeps, Bool.false_eq_true, if_false]; rfl)

/-- In OPEN, a lane other than range 0's is released. -/
theorem State.laneAt_quieted_of_ne {s : State} {n m : Nat} (h : (s.range 0).lane = some n) (hm : m ≠ n) :
    s.quieted.laneAt m = (s.laneAt m).map LaneRec.release := by
  have hkeeps (l : LaneRec) : s.keepsLane m l = false := by simp [State.keepsLane, h, Ne.symm hm]
  rw [State.laneAt_quieted]
  simp only [hkeeps, Bool.false_eq_true, if_false]

/-- In OPEN range 0's lane is LOADING after RESTART: left as it is where it was, and bound anew otherwise (log entry 43). -/
theorem State.restoreGlobal_quieted {s : State} (ho : s.custody.state = .opened) {n : Nat} {l : LaneRec}
    (h : (s.range 0).lane = some n) (hl : s.laneAt n = some l)
    (hstate : l.state = .loaded ∨ l.state = .loading ∨ l.state = .clearing) :
    (s.quieted.restoreGlobal.range 0).read = true ∧ (s.quieted.restoreGlobal.range 0).write = true ∧
      (s.quieted.restoreGlobal.range 0).lane = some n ∧
      s.quieted.restoreGlobal.laneAt n = some (if l.state = .loading then l else l.bind 0 (s.checkCode 0)) ∧
      ∀ m, m ≠ n → s.quieted.restoreGlobal.laneAt m = (s.laneAt m).map LaneRec.release := by
  have hlane : (s.quieted.range 0).lane = some n := (congrArg RangeEntry.lane (s.range_quieted 0)).trans h
  have hat : s.quieted.laneAt n = some (if l.state = .loading then l else l.release) := by
    rw [State.laneAt_quieted, hl]
    simp [State.keepsLane, ho, h]
  by_cases hloading : l.state = .loading
  · rw [if_pos hloading] at hat ⊢
    rw [State.restoreGlobal_of_live hlane hat (.inl hloading), State.range_setRange_self]
    exact ⟨rfl, rfl, hlane, hat, fun m hm => State.laneAt_quieted_of_ne h hm⟩
  · rw [if_neg hloading] at hat ⊢
    have hclearing : l.release.state = .clearing ∧ l.release.bind 0 (s.checkCode 0) = l.bind 0 (s.checkCode 0) := by
      rcases hstate with hs | hs | hs
      · simp [LaneRec.release, hs, LaneRec.bind]
      · exact absurd hs hloading
      · simp [LaneRec.release, hs, LaneRec.bind]
    rw [State.restoreGlobal_of_clearing hlane hat hclearing.1, State.range_setRange_self]
    refine ⟨rfl, rfl, hlane, ?_, fun m hm => ?_⟩
    · change (s.quieted.updLane n _).laneAt n = _
      rw [State.laneAt_updLane, if_pos rfl, hat]
      exact congrArg some hclearing.2
    · change (s.quieted.updLane n _).laneAt m = _
      rw [State.laneAt_updLane, if_neg (Ne.symm hm)]
      exact State.laneAt_quieted_of_ne h hm

/-- What RESTART's effect leaves of the ranges and of the lanes, in every custody state. -/
theorem State.restarted_ranges (s : State) :
    (∀ r, (s.restarted.range r).stored = (s.range r).stored ∧ (s.restarted.range r).holder = none ∧
      (r ≠ 0 ∨ s.custody.state ≠ .opened →
        (s.restarted.range r).hasRight = false ∧ (s.restarted.range r).lane = (s.range r).lane)) ∧
      s.restarted.lane.lanes.length = s.lane.lanes.length := by
  have hquiet (r : RangeId) : (s.quieted.range r).stored = (s.range r).stored ∧ (s.quieted.range r).holder = none ∧
      (s.quieted.range r).hasRight = false ∧ (s.quieted.range r).lane = (s.range r).lane := by
    rw [State.range_quieted]
    exact ⟨rfl, rfl, rfl, rfl⟩
  rw [State.restarted_eq]
  split
  · rename_i ho
    obtain ⟨hothers, hstored, hholder⟩ := s.quieted.restoreGlobal_ranges
    refine ⟨fun r => ?_, s.quieted.length_restoreGlobal.trans s.length_quieted⟩
    by_cases hr : r = 0
    · subst hr
      obtain ⟨hq, hh, -, -⟩ := hquiet 0
      exact ⟨hstored.trans hq, hholder hh, fun h => (h.elim (absurd rfl) (absurd ho))⟩
    · obtain ⟨hq, hh, hright, hlane⟩ := hquiet r
      rw [hothers r hr]
      exact ⟨hq, hh, fun _ => ⟨hright, hlane⟩⟩
  · exact ⟨fun r => ⟨(hquiet r).1, (hquiet r).2.1, fun _ => (hquiet r).2.2⟩, s.length_quieted⟩

/-- What RESTART's effect leaves apart from the ranges and the lane records. -/
theorem State.restarted_rest (s : State) : ∃ v l, s.restarted =
    { s.quieted with ranges := v, lane := { s.quieted.lane with lanes := l } } := by
  rw [State.restarted_eq]
  split
  · obtain ⟨l, v, h⟩ := s.quieted.restoreGlobal_frame
    exact ⟨v, l, h⟩
  · exact ⟨_, _, rfl⟩

/-- A read's transaction is that of the state in which the RESTART has taken effect. -/
theorem exec_readTransaction_settle {s : State} (hp : s.powered = true) {t : State} (ht : s.restartTakesEffect = t)
    (hpt : t.powered = true) (hnone : t.restartPending = none) (n : Nat) :
    exec (.readTransaction .drive n) s = exec (.readTransaction .drive n) t := by
  have hsettled : t.settle .drive = t := State.settle_of_none hnone
  have hsettle : s.settle .drive = t := ht
  refine congrArg Host.Outcome.next ?_
  rw [hsettled, hsettle, if_pos hp, if_pos hpt]

section
variable {s t : State} (hp : s.powered = true) (ht : s.restartTakesEffect = t) (hslot : t.drive.replySlot.isSome = true)
include hp ht hslot

/-- A request that meets a RESTART's reply is discarded (R172, R173). -/
theorem takeRequest_of_restarted (k : ReqKind) (tag : Byte) (pl : List Byte) (owner : State → State) :
    takeRequest k .drive tag pl owner s = t.endTransaction .drive := by
  have hsettle : s.settle .drive = t := ht
  simp only [takeRequest, hp, hsettle, State.port_drive, hslot, if_true, Bool.not_true, Bool.false_eq_true, if_false]

theorem takeFrame_of_restarted (answer : State → State) : takeFrame .drive answer s = t.endTransaction .drive := by
  have hsettle : s.settle .drive = t := ht
  simp only [takeFrame, hp, hsettle, State.port_drive, hslot, if_true, Bool.not_true, Bool.false_eq_true, if_false]

end

/-- Settles O56: RESTART taken, its effect, and the transactions that meet it. -/
theorem restartWithdrawsTheRights : Obligations.RestartWithdrawsTheRights := by
  unfold Obligations.RestartWithdrawsTheRights
  intro s tag
  refine ⟨fun hs => ?taken, fun h => ?nothing, fun reply hp hreply => ?effect⟩
  case taken =>
    have hport := frameRefusal_of_ready (k := .restart) (pl := []) hs.2 rfl rfl
    refine congrArg Host.Outcome.next (takeRequest_of_quiet (owner := restartOwner tag) hs.1 hport tag rfl fun p => ?_)
    cases p <;> exact Nat.le_refl _
  case nothing =>
    refine congrArg Host.Outcome.next ?_
    split
    · rename_i hp
      have hnone := h.resolve_right (by simp [hp])
      simp only [State.restartTakesEffect, hnone]
    · rfl
  case effect =>
    intro quiet
    obtain ⟨t, ht⟩ : ∃ t, t = { s.restarted with drive := { s.restarted.drive with replySlot := some reply } } := ⟨_, rfl⟩
    have heffect : s.restartTakesEffect = t := by
      simp only [State.restartTakesEffect, hreply]
      exact ht.symm
    obtain ⟨v, l, hrest⟩ := s.restarted_rest
    obtain ⟨hranges, hlength⟩ := s.restarted_ranges
    have hsettle : s.settle .drive = t := heffect
    have hslot : t.drive.replySlot = some reply := by rw [ht]
    have hfields : t = { s.quieted with
        ranges := v, lane := { s.quieted.lane with lanes := l }, drive := { s.quieted.drive with replySlot := some reply } } := by
      rw [ht, hrest]
    have hlane : t.lane = s.restarted.lane := by rw [ht]
    have hrange (r : RangeId) : t.range r = s.restarted.range r := by
      rw [ht]
      rfl
    have hsome : t.drive.replySlot.isSome = true := by rw [hslot]; rfl
    refine ⟨t, congrArg Host.Outcome.next ((if_pos hp).trans heffect), ?mode, ?epoch, ?cause, ?pending, fun r => ?range,
      fun hguarded => ?released, fun n l ho hl hat hstate => ?bound, ?length, ?silence, ?position, ?link, fun k hk => ?key,
      ?sent, ?onDrive, ?onPlatform, ?scrub, ?custody, ?challenge, ?policy, ?pairing, ?backoff, ?tries, ?authorities, ?keys,
      ?rootKey, ?geometry, ?store, ?queue, ?held, ?transactions⟩
    case range =>
      rw [hrange]
      exact hranges r
    case released =>
      rw [hlane, State.restarted_eq, if_neg hguarded]
      exact State.lanes_quieted_of_guarded hguarded
    case bound =>
      have hopen : s.restarted = s.quieted.restoreGlobal := s.restarted_eq.trans (if_pos ho)
      have hrange0 : t.range 0 = s.quieted.restoreGlobal.range 0 := hopen ▸ hrange 0
      have hlanes (m : Nat) : t.laneAt m = s.quieted.restoreGlobal.laneAt m := by
        rw [State.laneAt, hlane, hopen]
        rfl
      obtain ⟨hread, hwrite, hbound, hat', hothers⟩ := State.restoreGlobal_quieted ho hl hat hstate
      rw [hrange0]
      exact ⟨hread, hwrite, hbound, (hlanes n).trans hat', fun m hm => (hlanes m).trans (hothers m hm)⟩
    case length =>
      rw [hlane]
      exact hlength
    case key =>
      rw [hfields] at hk
      obtain ⟨x, -, hx⟩ := Option.map_eq_some_iff.1 hk
      cases x <;> cases hx
      rfl
    case sent =>
      rw [hfields]
      exact Option.isSome_map
    case transactions =>
      intro discarded
      refine ⟨exec_readTransaction_settle hp heffect (by rw [hfields]; exact hp) (by rw [hfields]; rfl), fun k g pl => ?_,
        fun k g pl => congrArg Host.Outcome.next (takeFrame_of_restarted hp heffect hsome _),
        fun bytes => ⟨congrArg Host.Outcome.next (takeFrame_of_restarted hp heffect hsome _), ?_, ?_⟩⟩
      · obtain ⟨owner, howner⟩ := exec_requestCommand k .drive g pl
        exact (howner s).trans (congrArg Host.Outcome.next (takeRequest_of_restarted hp heffect hsome k g pl owner))
      all_goals exact congrArg Host.Outcome.next ((if_pos hp).trans (congrArg (State.endTransaction · .drive) hsettle))
    all_goals
      rw [hfields]
      rfl

end Sys2Proof.Machine

/-!
PROOFS. A Policy record's completion and the causes that its values leave (R72, R111, R117 to R121; O40).
-/

namespace Sys2Proof.Machine

open Sys2Proof

/-! ## Custody goes forward -/

/-- An operation that keeps the policy and the tries and moves custody forward or not at all. -/
structure State.Deepens (a b : State) : Prop where
  policy : b.policy = a.policy
  tries : b.tries = a.tries
  strength : a.custody.state.strength ≤ b.custody.state.strength
  opened : a.custody.state ≠ .opened → b.custody.state ≠ .opened

theorem State.Deepens.refl (s : State) : s.Deepens s := ⟨rfl, rfl, Nat.le_refl _, id⟩

theorem State.Deepens.trans {a b c : State} (h : a.Deepens b) (h' : b.Deepens c) : a.Deepens c :=
  ⟨h'.policy.trans h.policy, h'.tries.trans h.tries, h.strength.trans h'.strength, fun ha => h'.opened (h.opened ha)⟩

theorem State.Deepens.of_if {c : Prop} [Decidable c] {a b : State} (h : a.Deepens b) : a.Deepens (if c then b else a) := by
  split
  · exact h
  · exact .refl a

theorem Level.target_ne_opened (l : Level) : l.target ≠ .opened := by cases l <;> decide

theorem State.deepens_respond (s : State) (l : Level) (acts : List Act) : s.Deepens (s.respond l acts) := by
  obtain ⟨d, f, v, la, m, e, c, sc, n, q, h, hframe⟩ := s.respond_frame l acts
  by_cases hopen : s.custody.state = .opened
  · rw [State.respond_of_no_effect (by simp [State.responds, hopen])]
    exact .refl s
  · have hstate := (State.responded_of_respond hopen l acts).state
    refine ⟨by rw [hframe], by rw [hframe], ?_, fun _ => ?_⟩
    · rw [hstate]
      split
      · exact Nat.le_of_lt ‹_›
      · exact Nat.le_refl _
    · rw [hstate]
      split
      · exact l.target_ne_opened
      · exact hopen

/-- Outside OPEN a response leaves custody at its target or beyond (R122). -/
theorem State.target_le_respond {s : State} (hopen : s.custody.state ≠ .opened) (l : Level) (acts : List Act) :
    l.target.strength ≤ (s.respond l acts).custody.state.strength := by
  rw [(State.responded_of_respond hopen l acts).state]
  split
  · exact Nat.le_refl _
  · exact Nat.not_lt.1 ‹_›

theorem State.warn_fields (s : State) : s.warn.policy = s.policy ∧ s.warn.tries = s.tries ∧
    s.warn.custody = { s.custody with state := .warned } := by
  obtain ⟨q, h, hframe⟩ :=
    (({ s with custody := { s.custody with state := .warned } } : State).notifyBoth .checkinDue).storeCustody_frame false false []
  rw [State.warn, hframe]
  exact ⟨rfl, rfl, rfl⟩

theorem State.deepens_warn {s : State} (h : s.custody.state = .guarded) : s.Deepens s.warn := by
  obtain ⟨hpolicy, htries, hcustody⟩ := s.warn_fields
  refine ⟨hpolicy, htries, ?_, fun _ => ?_⟩
  · rw [hcustody, h]
    exact Nat.le_refl 0
  · rw [hcustody]
    exact nofun

/-! ## The stages of a Policy completion -/

/-- The state behind the clock's lowering and the device count's (R72, R111): the clock's value given. -/
def State.policyMet (s : State) (p : PolicyRec) (n : Nat) (q h : List Entry) : State :=
  { s with
    store := { s.store with policy := p }
    policy := p
    custody := { s.custody with checkin := n }
    tries := { s.tries with device := min s.tries.device p.deviceTryLimit }
    queue := q
    held := h }

/-- The check-in clock counts under a new policy (R118). -/
def State.countsUnder (s : State) (p : PolicyRec) : Bool :=
  s.custody.state.inUse && p.checkinPeriod != 0 && s.pairing.isSome

/-- The two causes of the check-in clock, met by a state (R111, R118). -/
def State.meetClock (s : State) (counting : Bool) : State :=
  if counting && s.policy.expiryPoint ≤ s.custody.checkin then s.take .checkinExpired
  else if counting && s.custody.state = .guarded && s.policy.warningPoint ≤ s.custody.checkin then s.warn
  else s

/-- A Policy completion in its stages (log entry 25). -/
theorem State.policyStored_of {y a b : State} (ha : ({ y with policy := y.store.policy } : State).lowerCheckin = a)
    (hb : a.limitDeviceCount = b) (hcustody : b.custody = a.custody) (hpolicy : b.policy = a.policy) :
    y.policyStored =
      if a.reachesLimit && a.custody.state.inUse then (b.foreignTest.meetClock a.checkinCounting).take .tryExhaustion
      else b.foreignTest.meetClock a.checkinCounting := by
  have hforeign : b.foreignTest = if a.custody.state.inUse && a.policy.foreignLimit ≤ a.custody.foreignCount then
      b.take .foreignStart else b := by
    rw [State.foreignTest, hcustody, hpolicy]
  rw [hforeign]
  subst ha hb
  rfl

theorem State.deepens_foreignTest (s : State) : s.Deepens s.foreignTest := (s.deepens_respond _ _).of_if

theorem State.deepens_meetClock (s : State) (b : Bool) : s.Deepens (s.meetClock b) := by
  unfold State.meetClock
  split
  · exact s.deepens_respond ..
  · split
    · rename_i h
      simp only [Bool.and_eq_true, decide_eq_true_eq] at h
      exact State.deepens_warn h.1.2
    · exact .refl s

section
variable {s : State} {k : ReqKind} {tag : Byte} {p : PolicyRec}

/-- The clock's lowering with nothing queued (R111). -/
theorem State.lowerCheckin_of_empty {y : State} (hq : y.queue = []) :
    y.lowerCheckin = { y with custody := { y.custody with
      checkin := if y.checkinCounting && y.policy.expiryPoint < y.custody.checkin then y.policy.expiryPoint
        else y.custody.checkin } } := by
  unfold State.lowerCheckin
  split
  · simp only [State.updateFinalClocks, hq]
    rfl
  · rfl

/-- The clock's value behind the lowering: at the expiry point where it stood at it or past it, and as it was otherwise. -/
def State.loweredCheckin (s : State) (p : PolicyRec) : Nat :=
  if s.countsUnder p && p.expiryPoint < s.custody.checkin then p.expiryPoint else s.custody.checkin

/-- What a Policy completion runs, its reply apart. -/
theorem policyStored_stages (h : s.AtCommit .drive k tag ⟨.single .policy, [.policy p], [.policyStored, .answer .drive .ok]⟩) :
    ∃ q hd, (s.tries.device < p.deviceTryLimit → q = [] ∧ hd = []) ∧
      exec .commitComplete s = .next (State.sealEvent s (State.answer
        (if decide (p.deviceTryLimit ≤ s.tries.device) && s.custody.state.inUse then
          ((s.policyMet p (s.loweredCheckin p) q hd).foreignTest.meetClock (s.countsUnder p)).take .tryExhaustion
        else (s.policyMet p (s.loweredCheckin p) q hd).foreignTest.meetClock (s.countsUnder p)) .drive (.code .ok))) := by
  obtain ⟨hs, hflight, hq, hh⟩ := h
  have hlower : ({ s.written [.policy p] with policy := p } : State).lowerCheckin = { s.written [.policy p] with
      policy := p, custody := { s.custody with checkin := s.loweredCheckin p } } :=
    State.lowerCheckin_of_empty (y := { s.written [.policy p] with policy := p }) rfl
  obtain ⟨a, ha⟩ : ∃ a, a = { s.written [.policy p] with
      policy := p, custody := { s.custody with checkin := s.loweredCheckin p } } := ⟨_, rfl⟩
  have hmet : ∃ q hd, (s.tries.device < p.deviceTryLimit → q = [] ∧ hd = []) ∧
      a.limitDeviceCount = s.policyMet p (s.loweredCheckin p) q hd := by
    by_cases hlt : s.tries.device < p.deviceTryLimit
    · refine ⟨[], s.held, fun _ => ⟨rfl, hh⟩, ?_⟩
      rw [State.limitDeviceCount_of_lt (by rw [ha]; exact hlt), ha, State.policyMet, Nat.min_eq_left hlt.le]
      rfl
    · obtain ⟨q, hd, hframe⟩ := a.limitDeviceCount_frame
      exact ⟨q, hd, fun hc => absurd hc hlt, hframe.trans (by rw [ha]; rfl)⟩
  obtain ⟨q, hd, hquiet, hb⟩ := hmet
  refine ⟨q, hd, hquiet, (exec_commitComplete_of_one hs.1 hq hh).trans ?_⟩
  have hstages := State.policyStored_of (y := s.written [.policy p]) (hlower.trans ha.symm) hb (by rw [ha]; rfl) (by rw [ha]; rfl)
  refine congrArg (fun x => Host.Outcome.next (State.sealEvent s (State.answer x .drive (.code .ok)))) ?_
  refine hstages.trans ?_
  rw [ha]
  rfl

end

/-! ## O40 -/

theorem State.countsUnder_iff {s : State} {p : PolicyRec} : s.countsUnder p = true ↔
    (s.custody.state = .guarded ∨ s.custody.state = .warned) ∧ p.checkinPeriod ≠ 0 ∧ s.pairing.isSome = true := by
  simp only [State.countsUnder, Bool.and_eq_true, Custody.inUse_iff, bne_iff_ne, and_assoc]

/-- Lowering does not take the clock below the expiry point where it stood there (R111). -/
theorem State.expiryPoint_le_lowered {s : State} {p : PolicyRec} :
    p.expiryPoint ≤ s.loweredCheckin p ↔ p.expiryPoint ≤ s.custody.checkin := by
  unfold State.loweredCheckin
  split
  · rename_i h
    simp only [Bool.and_eq_true, decide_eq_true_eq] at h
    exact ⟨fun _ => h.2.le, fun _ => Nat.le_refl _⟩
  · rfl

theorem State.loweredCheckin_of_short {s : State} {p : PolicyRec}
    (h : ¬(s.countsUnder p = true ∧ p.expiryPoint ≤ s.custody.checkin)) : s.loweredCheckin p = s.custody.checkin := by
  refine if_neg fun hlow => h ?_
  simp only [Bool.and_eq_true, decide_eq_true_eq] at hlow
  exact ⟨hlow.1, hlow.2.le⟩

/-- The clock's value is no custody cause's business but the clock's own. -/
theorem State.checkin_foreignTest (s : State) :
    s.foreignTest.custody.checkin = s.custody.checkin ∧ s.foreignTest.policy = s.policy := by
  refine ⟨?_, s.deepens_foreignTest.policy⟩
  unfold State.foreignTest
  split
  · rename_i h
    simp only [Bool.and_eq_true] at h
    have hcustody := State.custody_respond (State.responds_of_inUse h.1 s.policy.foreignStart) []
    rw [if_pos h.1] at hcustody
    exact (congrArg CustodyCtl.checkin hcustody).trans rfl
  · rfl

theorem State.meetClock_of_expired {w : State} (h : w.policy.expiryPoint ≤ w.custody.checkin) :
    w.meetClock true = w.respond w.policy.checkinExpired [] :=
  if_pos (by simp [h])

theorem State.meetClock_of_warned {w : State} (hshort : ¬w.policy.expiryPoint ≤ w.custody.checkin)
    (hstate : w.custody.state = .guarded) (h : w.policy.warningPoint ≤ w.custody.checkin) : w.meetClock true = w.warn :=
  (if_neg (by simpa using hshort)).trans (if_pos (by simp [hstate, h]))

theorem State.meetClock_of_quiet {w : State} {b : Bool} (hshort : ¬(b = true ∧ w.policy.expiryPoint ≤ w.custody.checkin))
    (hquiet : ¬(b = true ∧ w.custody.state = .guarded ∧ w.policy.warningPoint ≤ w.custody.checkin)) : w.meetClock b = w :=
  (if_neg (by simpa using hshort)).trans (if_neg (by simpa [and_assoc] using hquiet))

/-- An answer and the seal leave the policy, the tries, the custody state and the epoch. -/
theorem State.sealed_answer_fields (b x : State) (p : Port) (r : ReplyBody) :
    (State.sealEvent b (x.answer p r)).policy = x.policy ∧ (State.sealEvent b (x.answer p r)).tries = x.tries ∧
      (State.sealEvent b (x.answer p r)).custody = x.custody ∧ (State.sealEvent b (x.answer p r)).epoch = x.epoch := by
  refine ⟨?_, ?_, ?_, ?_⟩
  · exact State.answer_policy ..
  · exact State.answer_tries ..
  · exact State.answer_custody ..
  · exact State.answer_epoch ..

/-- An answer queues no notice. -/
theorem State.notices_answer (x : State) (p : Port) (r : ReplyBody) :
    (x.answer p r).drive.notices = x.drive.notices ∧ (x.answer p r).platform.notices = x.platform.notices := by
  obtain ⟨y, i, d, h⟩ := x.answer_frame p r
  rw [h]
  cases p <;> exact ⟨rfl, rfl⟩

/-- In an event that met an empty queue every notice carries the custody state that the event leaves (R180). -/
theorem notices_stampNotices_of_empty {old : Nat} (h : old = 0) (c : Custody) (q : PortState) :
    (stampNotices old c q).notices = q.notices.map fun n => { n with custody := c } := by
  subst h
  rfl

/-- Settles O40: the three stages, each of which moves custody forward or not at all. -/
theorem policyTakesEffect : Obligations.PolicyTakesEffect := by
  unfold Obligations.PolicyTakesEffect
  intro s k tag p h inUse counting margin foreign expired warned tries
  obtain ⟨q, hd, hquiet, hrun⟩ := policyStored_stages h
  obtain ⟨z, hz⟩ : ∃ z, z = s.policyMet p (s.loweredCheckin p) q hd := ⟨_, rfl⟩
  rw [← hz] at hrun
  have hzcustody : z.custody = { s.custody with checkin := s.loweredCheckin p } := by rw [hz]; rfl
  have hzpolicy : z.policy = p := by rw [hz]; rfl
  have hzstate : z.custody.state = s.custody.state := by rw [hzcustody]
  have hcounts : s.countsUnder p = true ↔ counting := State.countsUnder_iff
  have hopened (hin : inUse) : z.custody.state ≠ .opened := by
    rw [hzstate]
    rcases hin with hin | hin <;> rw [hin] <;> decide
  have hdue (hforeign : foreign) : z.foreignTest = z.respond p.foreignStart [] := by
    rw [← hzpolicy]
    refine State.foreignTest_of_due ?_ ?_
    · rw [hzstate]
      exact Custody.inUse_iff.2 hforeign.1
    · rw [hzpolicy, hzcustody]
      exact hforeign.2
  have hundue (hforeign : ¬foreign) : z.foreignTest = z := by
    refine State.foreignTest_of_short fun hc => hforeign ?_
    rw [hzstate, hzpolicy, hzcustody] at hc
    exact ⟨Custody.inUse_iff.1 hc.1, hc.2⟩
  have hpoint : p.expiryPoint ≤ z.foreignTest.custody.checkin ↔ p.expiryPoint ≤ s.custody.checkin := by
    rw [z.checkin_foreignTest.1, hzcustody]
    exact State.expiryPoint_le_lowered
  have hwpolicy : z.foreignTest.policy = p := z.checkin_foreignTest.2.trans hzpolicy
  refine ⟨fun hforeign hexpired hwarned htries => ?quiet, ?causes, fun hforeign htries hexpired hfirst hsecond hd hp => ?both⟩
  case quiet =>
    obtain ⟨rfl, rfl⟩ := hquiet (Nat.not_le.1 htries)
    obtain ⟨hs, hflight, -, hh⟩ := h
    have hlow := State.loweredCheckin_of_short (s := s) (p := p) fun hc => hexpired ⟨hcounts.1 hc.1, hc.2⟩
    have hclock : z.foreignTest.meetClock (s.countsUnder p) = z := by
      rw [hundue hforeign] at hpoint ⊢
      refine State.meetClock_of_quiet (fun hc => ?_) fun hc => ?_
      · rw [hzpolicy] at hc
        exact hexpired ⟨hcounts.1 hc.1, hpoint.1 hc.2⟩
      · rw [hzstate, hzpolicy, hzcustody, hlow] at hc
        exact hwarned ⟨hcounts.1 hc.1, hc.2⟩
    have hlimit : ¬(decide (p.deviceTryLimit ≤ s.tries.device) && s.custody.state.inUse) = true := by
      rw [decide_eq_false htries]
      exact Bool.false_ne_true
    rw [hclock, if_neg hlimit, hz, hlow, State.policyMet, Nat.min_eq_left (Nat.not_le.1 htries).le] at hrun
    refine hrun.trans (congrArg Host.Outcome.next ((State.sealEvent_answer
      (x := { s with store := { s.store with policy := p }, policy := p, queue := [], held := [] }) (p := .drive) hflight hs.2.1
      (Nat.le_refl _) (Nat.le_refl _) _).trans ?_))
    exact congrArg (fun l => { s with
      store := { s.store with policy := p }
      policy := p
      queue := []
      held := l
      drive := s.drive.finished k tag (.code .ok) }) hh.symm
  case causes =>
    obtain ⟨w, hw⟩ : ∃ w, w = z.foreignTest := ⟨_, rfl⟩
    obtain ⟨c, hc⟩ : ∃ c, c = w.meetClock (s.countsUnder p) := ⟨_, rfl⟩
    obtain ⟨f, hf⟩ : ∃ f, f = if decide (p.deviceTryLimit ≤ s.tries.device) && s.custody.state.inUse then c.take .tryExhaustion
      else c := ⟨_, rfl⟩
    rw [← hw] at hdue hundue hpoint hwpolicy
    rw [← hw, ← hc, ← hf] at hrun
    have hzw : z.Deepens w := hw ▸ z.deepens_foreignTest
    have hwc : w.Deepens c := hc ▸ w.deepens_meetClock _
    have hcf : c.Deepens f := by
      rw [hf]
      exact (c.deepens_respond _ _).of_if
    have hzf := hzw.trans (hwc.trans hcf)
    have hcpolicy : c.policy = p := hwc.policy.trans hwpolicy
    obtain ⟨hpolicy, htriesRec, hcustody, -⟩ := State.sealed_answer_fields s f .drive (.code .ok)
    refine ⟨_, hrun, hpolicy.trans (hzf.policy.trans hzpolicy), ?_, fun hforeign => ?_, fun hexpired => ?_, fun hin htries => ?_,
      fun hwarned hforeign hexpired htries => ?_⟩
    · rw [htriesRec, hzf.tries, hz]
      rfl
    all_goals rw [hcustody]
    · have htarget := State.target_le_respond (hopened hforeign.1) p.foreignStart []
      rw [← hdue hforeign] at htarget
      exact htarget.trans (hwc.trans hcf).strength
    · have hexpires : c = w.respond p.checkinExpired [] := by
        rw [hc, hcounts.2 hexpired.1, State.meetClock_of_expired (hwpolicy ▸ hpoint.2 hexpired.2), hwpolicy]
      have htarget := State.target_le_respond (hzw.opened (hopened hexpired.1.1)) p.checkinExpired []
      rw [← hexpires] at htarget
      exact htarget.trans hcf.strength
    · have hlimit : (decide (p.deviceTryLimit ≤ s.tries.device) && s.custody.state.inUse) = true := by
        rw [decide_eq_true htries, Custody.inUse_iff.2 hin]
        rfl
      have htarget := State.target_le_respond ((hzw.trans hwc).opened (hopened hin)) p.tryExhaustion []
      have hresponse : f = c.respond p.tryExhaustion [] := by
        rw [hf, if_pos hlimit, ← hcpolicy]
        rfl
      rw [hresponse]
      exact htarget
    · have hlow := State.loweredCheckin_of_short (s := s) (p := p) fun hs => hexpired ⟨hcounts.1 hs.1, hs.2⟩
      have hlimit : ¬(decide (p.deviceTryLimit ≤ s.tries.device) && s.custody.state.inUse) = true := by
        rw [decide_eq_false htries]
        exact Bool.false_ne_true
      have hwarn : c = z.warn := by
        rw [hc, hundue hforeign, hcounts.2 hwarned.1]
        refine State.meetClock_of_warned (fun hpt => hexpired ⟨hwarned.1, ?_⟩) (hzstate.trans hwarned.2.1) ?_
        · rw [hzpolicy, hzcustody] at hpt
          exact State.expiryPoint_le_lowered.1 hpt
        · rw [hzpolicy, hzcustody, hlow]
          exact hwarned.2.2
      rw [hf, if_neg hlimit, hwarn, z.warn_fields.2.2]
  case both =>
    obtain ⟨hin, hlimit⟩ := hforeign
    have huse : z.custody.state.inUse = true := by
      rw [hzstate]
      exact Custody.inUse_iff.2 hin
    obtain ⟨w, hw⟩ : ∃ w, w = z.foreignTest := ⟨_, rfl⟩
    rw [← hw] at hrun hdue hpoint hwpolicy
    have hwhidden : w = z.respond .conceal [] := hfirst ▸ hdue ⟨hin, hlimit⟩
    have hid := State.hidden_of_respond huse .conceal []
    rw [← hwhidden] at hid
    have hwstate : w.custody.state = .concealed := congrArg CustodyCtl.state hid.custody
    have hclock : w.meetClock (s.countsUnder p) = w := by
      refine State.meetClock_of_quiet (fun hc => ?_) fun hc => ?_
      · rw [hwpolicy] at hc
        exact hexpired ⟨hcounts.1 hc.1, hpoint.1 hc.2⟩
      · rw [hwstate] at hc
        exact nomatch hc.2.1
    have hboth : (decide (p.deviceTryLimit ≤ s.tries.device) && s.custody.state.inUse) = true := by
      rw [decide_eq_true htries, Custody.inUse_iff.2 hin]
      rfl
    have htake : w.take .tryExhaustion = w.respond p.tryExhaustion [] := by rw [← hwpolicy]; rfl
    rw [hclock, if_pos hboth, htake] at hrun
    have hdeeper : w.custody.state.strength < p.tryExhaustion.target.strength := by
      rw [hwstate]
      cases hl : p.tryExhaustion
      · exact absurd hl hsecond
      · decide
      · decide
    have hresponds : w.responds p.tryExhaustion = true := State.responds_iff.2 ⟨by rw [hwstate]; decide, hdeeper⟩
    obtain ⟨sc, n, q', h', hframe⟩ := (w.deepened p.tryExhaustion).storeResponse_frame w.custody.state []
    rw [State.respond_of_hidden (by rw [hwstate]; rfl) hresponds, hframe] at hrun
    obtain ⟨f, hf⟩ : ∃ f, f = { w.deepened p.tryExhaustion with scrub := sc, draws := n, queue := q', held := h' } := ⟨_, rfl⟩
    rw [← hf] at hrun
    have hplatform : f.platform.notices = [z.responseNote .conceal, w.responseNote p.tryExhaustion] := by
      have hfirst := PortState.notices_push_of_room (q := z.platform) (ns := []) (by rw [hz]; exact hp) (by decide)
        (z.responseNote .conceal)
      rw [hf]
      exact PortState.notices_push_of_room (q := w.platform) ((congrArg PortState.notices hid.platform).trans hfirst)
        (by simp) _
    have hdrive : f.drive.notices = (z.responseNote .conceal :: ((if z.lane.link = .held then [z.holdNote .conceal] else []) ++
        [changed (z.epoch + 1) Level.conceal.target])) ++ [w.responseNote p.tryExhaustion] := by
      have hfirst := State.notices_hidden (s := z) (ns := []) (by rw [hz]; exact hd) (by decide) .conceal
      rw [hf]
      refine PortState.notices_push_of_room (q := w.drive) ((congrArg PortState.notices hid.drive).trans hfirst) ?_ _
      split <;> simp
    obtain ⟨-, -, hcustody, hepoch⟩ := State.sealed_answer_fields s f .drive (.code .ok)
    obtain ⟨hdn, hpn⟩ := f.notices_answer .drive (.code .ok)
    have hwepoch : w.epoch = s.epoch + 1 := by rw [hid.epoch, hz]; rfl
    have hfstate : f.custody.state = p.tryExhaustion.target := by rw [hf]; rfl
    refine ⟨_, hrun, ?_⟩
    intro c moves
    refine ⟨?_, ?_, ?_, ?_⟩
    · rw [hcustody, hfstate]
    · rw [hepoch, ← hwepoch, hf]
      rfl
    · refine (notices_stampNotices_of_empty (by rw [hp]; rfl) _ _).trans ?_
      rw [hpn, hplatform, State.answer_custody, hfstate]
      simp only [List.map_cons, List.map_nil, State.responseNote, hwepoch]
      rw [show z.epoch = s.epoch by rw [hz]; rfl]
    · refine (notices_stampNotices_of_empty (by rw [hd]; rfl) _ _).trans ?_
      have hlink : z.lane = s.lane := by rw [hz]; rfl
      have hze : z.epoch = s.epoch := by rw [hz]; rfl
      rw [hdn, hdrive, State.answer_custody, hfstate]
      simp only [State.responseNote, State.holdNote, hwepoch, hlink, hze]
      split <;> rfl

end Sys2Proof.Machine

/-!
PROOFS. REVERT (R128): its refusals, and each commit's completion that enters the next.
-/

namespace Sys2Proof.Machine

open Sys2Proof

/-! ## REVERT is taken -/

theorem Custody.reverts_iff {c : Custody} : c.reverts = true ↔ c = .erased ∨ c = .spent := by
  simp [Custody.reverts]

section
variable {s : State} (tag : Byte)

theorem revertOwner_of_refused (h : s.custody.state.reverts = false) :
    revertOwner tag s = s.replyTo .revert .drive tag (.code .state) := by
  simp only [revertOwner, h]
  rfl

theorem revertOwner_of_warning (h : s.custody.state.reverts = true) (hw : s.supplyWarning = true) :
    revertOwner tag s = s.replyTo .revert .drive tag (.code .deferred) := by
  simp only [revertOwner, h, hw]
  rfl

theorem revertOwner_of_full (h : s.custody.state.reverts = true) (hw : s.supplyWarning = false) (hf : s.freeEntries = 0) :
    revertOwner tag s = s.replyTo .revert .drive tag (.code .busy) := by
  simp only [revertOwner, h, hw, hf]
  rfl

theorem revertOwner_of_free (h : s.custody.state.reverts = true) (hw : s.supplyWarning = false) (hf : s.freeEntries ≠ 0) :
    revertOwner tag s =
      (s.enter [] (policyEntry .default [.reverted .policy])).startWork .revert .drive tag .committing := by
  simp only [revertOwner, h, hw, if_neg hf]
  rfl

theorem State.freeEntries_eq_zero : s.freeEntries = 0 ↔ 4 ≤ nonFinal s.queue ∨ s.held ≠ [] := by
  rw [State.freeEntries, show Config.queueCapacity = 4 from rfl]
  by_cases hh : s.held = []
  · simp [hh]
    omega
  · simp [hh]

end

/-! ## A commit of REVERT completes -/

/-- The state in which a completed commit of REVERT goes on (R72; log entry 18). -/
def State.revertLimited (s : State) (step : RevertStep) : State := if step = .policy then s.limitDeviceCount else s

section
variable {s : State} {step : RevertStep}

theorem State.reverted_of_stopped (h : (s.revertLimited step).custody.state.reverts = false) :
    s.reverted step = (s.revertLimited step).revertStop step .state :=
  if_pos (by rw [show (if step = .policy then s.limitDeviceCount else s) = s.revertLimited step from rfl, h]; rfl)

theorem State.reverted_of_reverts (h : (s.revertLimited step).custody.state.reverts = true) :
    s.reverted step =
      match (s.revertLimited step).revertNext step with
      | none => (s.revertLimited step).revertFinish
      | some next =>
        if (s.revertLimited step).supplyWarning then (s.revertLimited step).revertStop step .deferred
        else (s.revertLimited step).revertEnter next :=
  if_neg (by rw [show (if step = .policy then s.limitDeviceCount else s) = s.revertLimited step from rfl, h]; decide)

theorem State.reverted_of_next (h : (s.revertLimited step).custody.state.reverts = true) {next : RevertStep}
    (hn : (s.revertLimited step).revertNext step = some next) (hw : (s.revertLimited step).supplyWarning = false) :
    s.reverted step = (s.revertLimited step).revertEnter next := by
  rw [State.reverted_of_reverts h]
  simp only [hn, hw]
  rfl

theorem State.reverted_of_deferred (h : (s.revertLimited step).custody.state.reverts = true) (hstep : step ≠ .custody)
    (hw : (s.revertLimited step).supplyWarning = true) :
    s.reverted step = (s.revertLimited step).revertStop step .deferred := by
  rw [State.reverted_of_reverts h]
  cases step
  case custody => exact absurd rfl hstep
  all_goals simp only [State.revertNext, hw, if_true]

theorem State.reverted_of_last (h : s.custody.state.reverts = true) : s.reverted .custody = s.revertFinish :=
  State.reverted_of_reverts (step := .custody) h

end

/-! ## The device failure count at the first commit -/

/-- The live tries behind a commit of REVERT (R72; log entry 18). -/
def State.revertTries (s : State) (step : RevertStep) : TriesRec :=
  if step = .policy ∧ s.store.policy.deviceTryLimit ≤ s.tries.device then
    { s.tries with device := s.store.policy.deviceTryLimit }
  else s.tries

/-- The Tries write of the first commit of REVERT. -/
def State.revertLowered (s : State) (step : RevertStep) : List Entry :=
  if step = .policy ∧ s.store.policy.deviceTryLimit ≤ s.tries.device then [triesEntry (s.revertTries step) []] else []

theorem State.revertLimited_of_empty {y : State} (hq : y.queue = []) (hh : y.held = []) (step : RevertStep) :
    y.revertLimited step = { y with tries := y.revertTries step, queue := y.revertLowered step } := by
  by_cases hlow : step = .policy ∧ y.store.policy.deviceTryLimit ≤ y.tries.device
  · obtain ⟨rfl, hle⟩ := hlow
    have htries : y.revertTries .policy = { y.tries with device := y.store.policy.deviceTryLimit } := if_pos ⟨rfl, hle⟩
    have hlowered : y.revertLowered .policy = [triesEntry (y.revertTries .policy) []] := if_pos ⟨rfl, hle⟩
    rw [hlowered, htries]
    refine (if_pos (decide_eq_true hle)).trans ?_
    exact State.enter_of_empty (s := { y with tries := { y.tries with device := y.store.policy.deviceTryLimit } }) hq hh [] _
  · have htries : y.revertTries step = y.tries := if_neg hlow
    have hlowered : y.revertLowered step = [] := if_neg hlow
    rw [htries, hlowered, ← hq]
    unfold State.revertLimited
    split
    · rename_i hstep
      exact State.limitDeviceCount_of_lt (Nat.not_le.1 fun hle => hlow ⟨hstep, hle⟩)
    · rfl

/-- A commit of REVERT behind the Tries write, where there is one. -/
theorem State.enter_revertLowered {y z : State} {step : RevertStep} (hq : z.queue = y.revertLowered step) (hh : z.held = [])
    (w : Entry) : z.enter [] w = { z with queue := y.revertLowered step ++ [w] } := by
  by_cases hlow : step = .policy ∧ y.store.policy.deviceTryLimit ≤ y.tries.device
  · have hlowered : y.revertLowered step = [triesEntry (y.revertTries step) []] := if_pos hlow
    rw [hlowered] at hq ⊢
    exact State.enter_of_one hq hh [] w
  · have hlowered : y.revertLowered step = [] := if_neg hlow
    rw [hlowered] at hq ⊢
    exact State.enter_of_empty hq hh [] w

/-! ## The next commit -/

/-- The explicit ranges behind a commit of REVERT. -/
def RevertStep.behind (step : RevertStep) (q : RangeId) : Prop :=
  match step with
  | .pairing => q ≠ 0
  | .absent p => q ≠ 0 ∧ p < q
  | _ => False

/-- The ranges from which a commit of REVERT picks the next. -/
def RevertStep.rest : RevertStep → List RangeId
  | .absent p => explicitRanges.filter fun q => decide (p < q)
  | _ => explicitRanges

theorem explicitRanges_pairwise : explicitRanges.Pairwise (· < ·) := by decide

section
variable {s : State} {step : RevertStep} (hstep : step = .pairing ∨ ∃ p, step = .absent p)
include hstep

theorem RevertStep.mem_rest {q : RangeId} : q ∈ step.rest ↔ step.behind q := by
  rcases hstep with rfl | ⟨p, rfl⟩
  · exact mem_explicitRanges
  · simp [RevertStep.rest, RevertStep.behind, mem_explicitRanges]

theorem RevertStep.rest_pairwise : step.rest.Pairwise (· < ·) := by
  rcases hstep with rfl | ⟨p, rfl⟩
  · exact explicitRanges_pairwise
  · exact List.Pairwise.filter (fun q => decide (p < q)) explicitRanges_pairwise

theorem State.revertNext_of_rest : s.revertNext step = some (s.absentStep step.rest) := by
  rcases hstep with rfl | ⟨p, rfl⟩ <;> rfl

/-- The first present explicit range behind a commit is the next to go (R128). -/
theorem State.revertNext_of_least {r : RangeId} (hb : step.behind r) (hr : (s.range r).stored.isSome = true)
    (hleast : ∀ q, step.behind q → q < r → (s.range q).stored = none) : s.revertNext step = some (.absent r) := by
  have hfind : (step.rest.find? fun r => (s.range r).stored.isSome) = some r := by
    refine find?_of_least (RevertStep.rest_pairwise hstep) ((RevertStep.mem_rest hstep).2 hb) hr fun q hq hqr => ?_
    rw [hleast q ((RevertStep.mem_rest hstep).1 hq) hqr]
    rfl
  rw [State.revertNext_of_rest hstep, State.absentStep, hfind]

theorem State.revertNext_of_none (hnone : ∀ q, step.behind q → (s.range q).stored = none) :
    s.revertNext step = some .key := by
  have hfind : (step.rest.find? fun r => (s.range r).stored.isSome) = none := by
    refine List.find?_eq_none.2 fun q hq => ?_
    rw [hnone q ((RevertStep.mem_rest hstep).1 hq)]
    decide
  rw [State.revertNext_of_rest hstep, State.absentStep, hfind]

end

/-! ## The completion's event -/

/-- The state in which a completed commit of REVERT goes on, of the state that met it. -/
def State.revertMet (s : State) (step : RevertStep) (ws : List RecordWrite) : State :=
  { s.written ws with tries := (s.written ws).revertTries step, queue := (s.written ws).revertLowered step }

section
variable {s : State} {tag : Byte} {key : EntryKey} {ws : List RecordWrite} {step : RevertStep}
  (h : s.AtCommit .drive .revert tag ⟨key, ws, [.reverted step]⟩)
include h

theorem exec_reverted : exec .commitComplete s = .next (State.sealEvent s ((s.written ws).reverted step)) :=
  exec_commitComplete_of_one h.1.1 h.2.2.1 h.2.2.2

theorem State.revertLimited_written : (s.written ws).revertLimited step = s.revertMet step ws :=
  State.revertLimited_of_empty (y := s.written ws) rfl h.2.2.2 step

/-- A commit of REVERT in ERASED or SPENT without Supply Warning: the next one is entered. -/
theorem exec_reverted_of_next (hspent : s.custody.state.reverts = true) (hwarn : s.supplyWarning = false)
    {next : RevertStep} (hn : (s.revertMet step ws).revertNext step = some next) {n : Nat} {w : Entry}
    (hw : (s.revertMet step ws).revertEnter next = ({ s.revertMet step ws with draws := n } : State).enter [] w) :
    exec .commitComplete s = .next { s with
      store := s.store.commit ws
      tries := (s.written ws).revertTries step
      draws := n
      queue := (s.written ws).revertLowered step ++ [w] } := by
  have hlimited := State.revertLimited_written h
  refine (exec_reverted h).trans (congrArg Host.Outcome.next ?_)
  rw [State.reverted_of_next (by rw [hlimited]; exact hspent) (by rw [hlimited]; exact hn) (by rw [hlimited]; exact hwarn),
    hlimited, hw, State.enter_revertLowered (y := s.written ws) (z := { s.revertMet step ws with draws := n }) (step := step) rfl h.2.2.2 w]
  exact State.sealEvent_of_quiet (Nat.le_refl _) (Nat.le_refl _)

end

end Sys2Proof.Machine

/-!
PROOFS. A REVERT that stops, and a REVERT that ends (R128).
-/

namespace Sys2Proof.Machine

open Sys2Proof

/-! ## Ranges made absent -/

theorem State.range_makeAbsent (x : State) (r q : RangeId) :
    (x.makeAbsent r).range q = if r = q then .absent else x.range q := by
  rw [State.makeAbsent, State.range_setRange, State.range_unbindRange]
  split
  · rfl
  · rfl

theorem State.makeAbsent_frame (x : State) (r : RangeId) :
    ∃ la v, x.makeAbsent r = { x with lane := { x.lane with lanes := la }, ranges := v } := by
  obtain ⟨la, v, h⟩ := x.unbindRange_frame r
  exact ⟨la, _, (congrArg (State.setRange · r .absent) h).trans rfl⟩

/-- A list of ranges made absent: those alone, and the lane records' names of them. -/
theorem State.foldl_makeAbsent (l : List RangeId) (x : State) :
    ∃ la v, l.foldl State.makeAbsent x = { x with lane := { x.lane with lanes := la }, ranges := v } ∧
      ∀ q : RangeId, v[q.val] = if q ∈ l then .absent else x.range q := by
  induction l generalizing x with
  | nil => exact ⟨x.lane.lanes, x.ranges, rfl, fun q => rfl⟩
  | cons r l ih =>
    obtain ⟨la, v, h, hv⟩ := ih (x.makeAbsent r)
    obtain ⟨la', v', h'⟩ := x.makeAbsent_frame r
    refine ⟨la, v, ?_, fun q => ?_⟩
    · rw [List.foldl_cons, h, h']
    · rw [hv q, State.range_makeAbsent]
      by_cases hq : r = q
      · simp [hq]
      · simp [hq, Ne.symm hq]

/-- A range without a lane goes absent with the lane records as they were. -/
theorem State.makeAbsent_of_unbound {x : State} {r : RangeId} (h : (x.range r).lane = none) :
    x.makeAbsent r = x.setRange r .absent := by
  rw [State.makeAbsent, State.unbindRange]
  simp only [h]

theorem State.lane_foldl_makeAbsent {l : List RangeId} {x : State} (h : ∀ r, (x.range r).lane = none) :
    (l.foldl State.makeAbsent x).lane = x.lane := by
  induction l generalizing x with
  | nil => rfl
  | cons r l ih =>
    rw [List.foldl_cons, ih fun q => ?_, State.makeAbsent_of_unbound (h r)]
    · rfl
    · rw [State.range_makeAbsent]
      split
      · rfl
      · exact h q

/-! ## A stop -/

/-- The live state of a stopped REVERT before its ranges go. -/
def State.revertLive (z : State) (last : RevertStep) : State :=
  if last = .policy then { z with policy := z.store.policy } else ({ z with policy := z.store.policy } : State).unpaired

/-- The live state of a stopped REVERT, its ranges gone. -/
def State.revertGone (z : State) (last : RevertStep) : State :=
  State.raiseIf (!(z.revertLive last).committedAbsent.isEmpty)
    ((z.revertLive last).committedAbsent.foldl State.makeAbsent (z.revertLive last))

/-- The same with range 0's drawn key written away again. -/
def State.revertErased (z : State) (last : RevertStep) : State :=
  (z.revertGone last).setKey 0 z.store.keys[0].erased

/-- A step of REVERT behind which range 0's key is drawn. -/
def RevertStep.keyed (step : RevertStep) : Prop := step = .key ∨ step = .range ∨ step = .custody

theorem State.revertStop_of_unkeyed {z : State} {last : RevertStep} (h : ¬last.keyed) (r : Result) :
    z.revertStop last r = (z.revertGone last).answer .drive (.code r) := by
  cases last
  case key => exact absurd (.inl rfl) h
  case range => exact absurd (.inr (.inl rfl)) h
  case custody => exact absurd (.inr (.inr rfl)) h
  all_goals rfl

theorem State.revertStop_of_key {z : State} (r : Result) :
    z.revertStop .key r = ((z.revertErased .key).enterAll [keyEraseEntry 0 []]).answer .drive (.code r) := rfl

theorem State.revertStop_of_late {z : State} {last : RevertStep} (h : last = .range ∨ last = .custody) (r : Result) :
    z.revertStop last r =
      ((z.revertErased last).takeGlobal.enterAll
        [keyEraseEntry 0 [], rangeEntry 0 ((z.revertErased last).takeGlobal.range 0).stored []]).answer .drive (.code r) := by
  rcases h with rfl | rfl <;> rfl

theorem State.mem_committedAbsent {x : State} {r : RangeId} :
    r ∈ x.committedAbsent ↔ r ≠ 0 ∧ (x.range r).stored.isSome = true ∧ x.store.ranges[r.val] = none := by
  simp [State.committedAbsent, mem_explicitRanges, State.storedRange]

/-- What a stopped REVERT leaves before range 0 is looked at. -/
theorem State.revertGone_frame (z : State) (last : RevertStep) :
    ∃ la v d e, z.revertGone last = { z.revertLive last with
        lane := { z.lane with lanes := la }, ranges := v, drive := d, epoch := e } ∧
      (∀ q : RangeId, v[q.val] = if q ∈ (z.revertLive last).committedAbsent then .absent else z.range q) ∧
      d.inFlight = z.drive.inFlight ∧ d.replySlot = z.drive.replySlot ∧
      e = if (z.revertLive last).committedAbsent = [] then z.epoch else z.epoch + 1 := by
  have hlive : (z.revertLive last).lane = z.lane ∧ (∀ q, (z.revertLive last).range q = z.range q) ∧
      (z.revertLive last).drive = z.drive ∧ (z.revertLive last).epoch = z.epoch := by
    unfold State.revertLive
    split <;> exact ⟨rfl, fun _ => rfl, rfl, rfl⟩
  obtain ⟨hlane, hrange, hdrive, hepoch⟩ := hlive
  obtain ⟨la, v, h, hv⟩ := State.foldl_makeAbsent (z.revertLive last).committedAbsent (z.revertLive last)
  have hv' (q : RangeId) : v[q.val] = if q ∈ (z.revertLive last).committedAbsent then .absent else z.range q := by
    rw [hv q, hrange]
  unfold State.revertGone
  rw [h]
  cases hgone : (z.revertLive last).committedAbsent with
  | nil =>
    rw [hgone] at hv'
    refine ⟨la, v, z.drive, z.epoch, ?_, hv', rfl, rfl, (if_pos rfl).symm⟩
    rw [← hlane, ← hdrive, ← hepoch]
    rfl
  | cons r l =>
    rw [hgone] at hv'
    refine ⟨la, v, z.drive.push (changed (z.epoch + 1) (z.revertLive last).custody.state), z.epoch + 1, ?_, hv',
      PortState.inFlight_push .., PortState.replySlot_push .., (if_neg (List.cons_ne_nil r l)).symm⟩
    rw [← hlane, ← hdrive, ← hepoch]
    rfl

theorem State.takeGlobal_frame (x : State) :
    ∃ v, x.takeGlobal = { x with ranges := v } ∧ (∀ q : RangeId, q ≠ 0 → v[q.val] = x.range q) ∧
      ∀ old c, (x.range 0).stored = some old → x.store.ranges[0] = some c →
        v[0] = { x.range 0 with stored := some { c with state := old.state } } := by
  cases hc : x.storedRange 0 with
  | none =>
    refine ⟨x.ranges, by simp only [State.takeGlobal, hc], fun q _ => rfl, fun old c _ hs => ?_⟩
    exact absurd (hc.symm.trans hs) (Option.some_ne_none c).symm
  | some c =>
    cases hold : (x.range 0).stored with
    | none =>
      refine ⟨x.ranges, by simp only [State.takeGlobal, hc, State.rangeState, hold, Option.map_none], fun q _ => rfl,
        fun old c' h _ => nomatch h⟩
    | some old =>
      have htake : x.takeGlobal = x.setRange 0 { x.range 0 with stored := some { c with state := old.state } } := by
        simp only [State.takeGlobal, hc, State.rangeState, hold, Option.map_some, State.editRange, RangeEntry.edit]
      refine ⟨_, htake.trans rfl, fun q hq => State.range_setRange_of_ne x (Ne.symm hq) _, fun old' c' h' hs => ?_⟩
      cases h'
      cases hc.symm.trans hs
      exact x.range_setRange_self 0 _

/-- A stop's key, range 0 and commits (R128). -/
theorem State.revertStop_frame {z : State} {last : RevertStep} (hq : last.keyed → z.queue = []) (hh : z.held = [])
    (r : Result) :
    ∃ v k q, z.revertStop last r =
        State.answer { z.revertGone last with ranges := v, keys := k, queue := q } .drive (.code r) ∧
      (∀ q : RangeId, q ≠ 0 → v[q.val] = (z.revertGone last).range q) ∧
      (¬last.keyed → k = (z.revertGone last).keys ∧ v[0] = (z.revertGone last).range 0 ∧ q = (z.revertGone last).queue) ∧
      (last.keyed → k = (z.revertGone last).keys.set 0 z.store.keys[0].erased) ∧
      (last = .key → v[0] = (z.revertGone last).range 0 ∧ q = [keyEraseEntry 0 []]) ∧
      ∀ old c, last = .range ∨ last = .custody → ((z.revertGone last).range 0).stored = some old →
        (z.revertGone last).store.ranges[0] = some c →
        v[0] = { (z.revertGone last).range 0 with stored := some { c with state := old.state } } ∧
          q = [keyEraseEntry 0 [], rangeEntry 0 (some { c with state := old.state }) []] := by
  have hgone : (z.revertGone last).queue = z.queue ∧ (z.revertGone last).held = z.held := by
    obtain ⟨la, v, d, e, h, -⟩ := z.revertGone_frame last
    rw [h]
    unfold State.revertLive
    split <;> exact ⟨rfl, rfl⟩
  obtain ⟨hgq, hgh⟩ := hgone
  by_cases hkeyed : last.keyed
  · have hempty : (z.revertErased last).queue = [] := hgq.trans (hq hkeyed)
    have hheld : (z.revertErased last).held = [] := hgh.trans hh
    by_cases hkey : last = .key
    · subst hkey
      refine ⟨(z.revertGone .key).ranges, (z.revertErased .key).keys, [keyEraseEntry 0 []], ?_, fun _ _ => rfl,
        fun h => absurd hkeyed h, fun _ => rfl, fun _ => ⟨rfl, rfl⟩, fun old c h => h.elim nofun nofun⟩
      rw [State.revertStop_of_key, State.enterAll_one_of_empty hempty hheld]
      rfl
    · have hlate : last = .range ∨ last = .custody := hkeyed.resolve_left hkey
      obtain ⟨v, hv, hothers, hzero⟩ := (z.revertErased last).takeGlobal_frame
      refine ⟨v, (z.revertErased last).keys, [keyEraseEntry 0 [], rangeEntry 0 (v[0] : RangeEntry).stored []], ?_, hothers,
        fun h => absurd hkeyed h, fun _ => rfl, fun h => absurd h hkey, fun old c _ hold hc => ?_⟩
      · rw [State.revertStop_of_late hlate, hv]
        exact congrArg (fun y => State.answer y .drive (.code r))
          (State.enterAll_two_of_empty (s := { z.revertErased last with ranges := v }) hempty hheld _ _)
      · have h0 := hzero old c hold hc
        rw [h0]
        exact ⟨rfl, rfl⟩
  · exact ⟨(z.revertGone last).ranges, (z.revertGone last).keys, (z.revertGone last).queue,
      State.revertStop_of_unkeyed hkeyed r, fun _ _ => rfl, fun _ => ⟨rfl, rfl, rfl⟩, fun h => absurd h hkeyed,
      fun h => absurd (.inl h) hkeyed, fun old c h => absurd (.inr h) hkeyed⟩

end Sys2Proof.Machine

/-!
PROOFS. REVERT's stops and its end put together (R128; O47).
-/

namespace Sys2Proof.Machine

open Sys2Proof

/-! ## The stop's event -/

section
variable {s : State} {tag : Byte} {key : EntryKey} {ws : List RecordWrite} {step : RevertStep}
  (h : s.AtCommit .drive .revert tag ⟨key, ws, [.reverted step]⟩)
include h

theorem exec_reverted_of_stop
    (hstop : s.custody.state.reverts = false ∨ s.supplyWarning = true ∧ step ≠ .custody) :
    exec .commitComplete s = .next (State.sealEvent s
      ((s.revertMet step ws).revertStop step (if s.custody.state.reverts then .deferred else .state))) := by
  have hlimited := State.revertLimited_written h
  refine (exec_reverted h).trans (congrArg (fun x => Host.Outcome.next (State.sealEvent s x)) ?_)
  cases hr : s.custody.state.reverts with
  | false =>
    rw [State.reverted_of_stopped (by rw [hlimited]; exact hr), hlimited]
    rfl
  | true =>
    obtain ⟨hw, hstep⟩ := hstop.resolve_left (by simp [hr])
    rw [State.reverted_of_deferred (by rw [hlimited]; exact hr) hstep (by rw [hlimited]; exact hw), hlimited]
    rfl

end

/-! ## The end -/

/-- The delivered state that a REVERT ends in, its notices and range 0's rights apart (R128). -/
def State.reopened (y : State) : State :=
  { y with
    policy := y.store.policy
    pairing := none
    challenge := none
    ranges := (Vector.replicate 16 .absent).set 0 ⟨some .global, false, false, none, none⟩
    keys := y.keys.set 0 y.store.keys[0]
    mode := .normal
    custody := ⟨.opened, 0, 0, 0, 0, 0, .erase, .absent, y.custody.window⟩ }

/-- The delivered state with the event's notices and the new epoch. -/
def State.reopenedNoted (y : State) : State := (y.reopened.notifyBoth .custodyChanged).raiseEpoch

/-- Range 0 at its delivery fields with its stored key, and the delivery custody, in NORMAL (R128). -/
def State.delivered (x : State) (k : KeyRec) : State :=
  let z := (x.setRange 0 ⟨some .global, false, false, none, (x.range 0).lane⟩).setKey 0 k
  { z with
    mode := .normal
    custody :=
      { z.custody with
        state := .opened, foreignCount := 0, checkin := 0, checkinSecs := 0, escalation := 0
        escalationSecs := 0, target := .erase } }

theorem State.revertFinish_delivered (y : State) :
    y.revertFinish =
      (let x := ((((explicitRanges.foldl State.makeAbsent ({ y with policy := y.store.policy } : State).unpaired).delivered
        y.store.keys[0]).notifyBoth .custodyChanged).raiseEpoch).restoreGlobal
      x.answer .drive (.epoch .ok x.epoch)) := by
  unfold State.revertFinish State.delivered
  rfl

theorem State.revertFinish_eq {y : State} (h : ∀ r, (y.range r).lane = none) :
    y.revertFinish = y.reopenedNoted.restoreGlobal.answer .drive (.epoch .ok (y.epoch + 1)) := by
  obtain ⟨x, hx⟩ : ∃ x, x = ({ y with policy := y.store.policy } : State).unpaired := ⟨_, rfl⟩
  obtain ⟨la, v, hv, hrange⟩ := State.foldl_makeAbsent explicitRanges x
  have hlane : (explicitRanges.foldl State.makeAbsent x).lane = x.lane :=
    State.lane_foldl_makeAbsent fun r => by
      rw [hx]
      exact h r
  have hzero : (v[0] : RangeEntry).lane = none := by
    have h0 : v[(0 : RangeId).val] = x.range 0 := (hrange 0).trans (if_neg (by decide))
    refine (congrArg RangeEntry.lane h0).trans ?_
    rw [hx]
    exact h 0
  have hranges : v.set 0 ⟨some .global, false, false, none, none⟩ = y.reopened.ranges := by
    refine Vector.ext fun i hi => ?_
    rw [State.reopened, Vector.getElem_set, Vector.getElem_set]
    split
    · rfl
    · rename_i hne
      have hmem : (⟨i, hi⟩ : RangeId) ∈ explicitRanges := mem_explicitRanges.2 fun he => hne (congrArg Fin.val he).symm
      exact ((hrange ⟨i, hi⟩).trans (if_pos hmem)).trans (Vector.getElem_replicate hi).symm
  have hback : explicitRanges.foldl State.makeAbsent x = { x with ranges := v } := by
    rw [hv] at hlane ⊢
    exact congrArg (fun l => { x with lane := l, ranges := v }) hlane
  have hreopened : (explicitRanges.foldl State.makeAbsent x).delivered y.store.keys[0] = y.reopened := by
    rw [hback, State.delivered, show ({ x with ranges := v } : State).range 0 = v[0] from rfl, hzero]
    refine (congrArg (fun r : Vector RangeEntry 16 => ({ x with
      ranges := r
      keys := x.keys.set 0 y.store.keys[0]
      mode := .normal
      custody := { x.custody with
        state := .opened, foreignCount := 0, checkin := 0, checkinSecs := 0, escalation := 0
        escalationSecs := 0, target := .erase } } : State)) hranges).trans ?_
    rw [hx]
    rfl
  obtain ⟨la, w, he⟩ := y.reopenedNoted.restoreGlobal_frame
  have hepoch : y.reopenedNoted.restoreGlobal.epoch = y.epoch + 1 := by
    rw [he]
    rfl
  rw [State.revertFinish_delivered, ← hx, hreopened]
  exact congrArg (fun e => y.reopenedNoted.restoreGlobal.answer .drive (.epoch .ok e)) hepoch

/-- The last commit's event, range 0's lane looked at apart (R128). -/
theorem exec_reverted_last {s : State} {tag : Byte} {key : EntryKey} {ws : List RecordWrite}
    (h : s.AtCommit .drive .revert tag ⟨key, ws, [.reverted .custody]⟩) (hspent : s.custody.state.reverts = true)
    (hlanes : ∀ r, (s.range r).lane = none) :
    exec .commitComplete s = .next { (s.written ws).reopenedNoted.restoreGlobal with
      drive := (s.written ws).reopenedNoted.drive.finished .revert tag (.epoch .ok (s.epoch + 1)) } := by
  obtain ⟨la, v, he⟩ := (s.written ws).reopenedNoted.restoreGlobal_frame
  refine (exec_reverted h).trans (congrArg Host.Outcome.next ?_)
  rw [State.reverted_of_last (s := s.written ws) hspent, State.revertFinish_eq (y := s.written ws) hlanes, he]
  refine State.sealEvent_answer_of_adds (w := .committing) ?_ ?_ ?_ ?_ (.epoch .ok (s.epoch + 1))
  · exact (PortState.inFlight_push ..).trans ((PortState.inFlight_push ..).trans h.2.1)
  · exact (PortState.replySlot_push ..).trans ((PortState.replySlot_push ..).trans h.1.2.1)
  · exact PortState.Adds.push (n := changed (s.epoch + 1) .opened)
      (.push (n := ⟨.custodyChanged, none, none, s.epoch, .opened⟩) (.of_same rfl) rfl) rfl
  · exact PortState.Adds.push (n := ⟨.custodyChanged, none, none, s.epoch, .opened⟩) (.of_same rfl) rfl

theorem State.range_reopened (y : State) :
    y.reopened.range 0 = ⟨some .global, false, false, none, none⟩ ∧ ∀ r, r ≠ 0 → y.reopened.range r = .absent := by
  refine ⟨Vector.getElem_set_self (by decide), fun r hr => ?_⟩
  exact (Vector.getElem_set_ne (by decide) r.isLt fun he => hr (Fin.ext he.symm)).trans (Vector.getElem_replicate r.isLt)

theorem State.finished_reopenedNoted (y : State) (tag : Byte) (b : ReplyBody) :
    y.reopenedNoted.drive.finished .revert tag b =
      ((y.drive.finished .revert tag b).push ⟨.custodyChanged, none, none, y.epoch, .opened⟩).push
        (changed (y.epoch + 1) .opened) :=
  (PortState.finished_push _ (changed (y.epoch + 1) .opened) .revert tag b).trans
    (congrArg (fun q : PortState => q.push (changed (y.epoch + 1) .opened)) (PortState.finished_push ..))

/-- What the delivered state holds, whether or not range 0 has a lane. -/
theorem State.fields_restoreGlobal_reopenedNoted (y : State) :
    let t := y.reopenedNoted.restoreGlobal
    (t.policy = y.store.policy ∧ t.pairing = none ∧ t.challenge = none ∧ t.mode = .normal ∧ t.epoch = y.epoch + 1 ∧
      t.custody = ⟨.opened, 0, 0, 0, 0, 0, .erase, .absent, y.custody.window⟩) ∧
    t.keys = y.keys.set 0 y.store.keys[0] ∧
    t.rootKey = y.rootKey ∧ t.geometry = y.geometry ∧ t.authorities = y.authorities ∧ t.tries = y.tries ∧
    t.platform = y.platform.push ⟨.custodyChanged, none, none, y.epoch, .opened⟩ := by
  obtain ⟨la, v, he⟩ := y.reopenedNoted.restoreGlobal_frame
  rw [he]
  exact ⟨⟨rfl, rfl, rfl, rfl, rfl, rfl⟩, rfl, rfl, rfl, rfl, rfl, rfl⟩

/-- Range 0 of the delivered state takes the lowest FREE lane (R128, R52). -/
theorem State.restoreGlobal_reopenedNoted {y : State} {n : Nat} {l : LaneRec} (hl : y.laneAt n = some l)
    (hfree : l.state = .free) (hfirst : ∀ k < n, ∀ l', y.laneAt k = some l' → l'.state ≠ .free) :
    y.reopenedNoted.restoreGlobal.range 0 = ⟨some .global, true, true, none, some n⟩ ∧
      y.reopenedNoted.restoreGlobal.lane.lanes =
        y.lane.lanes.set n (l.bind 0 (y.store.keys[0].key.map fun k => k.2)) := by
  have hzero : y.reopenedNoted.range 0 = ⟨some .global, false, false, none, none⟩ := y.range_reopened.1
  have hkey : (y.keys.set 0 y.store.keys[0])[0] = y.store.keys[0] := Vector.getElem_set_self (by decide)
  have hcode : y.reopenedNoted.checkCode 0 = y.store.keys[0].key.map fun k => k.2 := by
    rw [← hkey]
    rfl
  obtain ⟨x, hx⟩ : ∃ x, x = y.reopenedNoted := ⟨_, rfl⟩
  have hlane : x.laneAt n = some l := by
    rw [hx]
    exact hl
  have hlanes : x.lane.lanes = y.lane.lanes := by
    rw [hx]
    rfl
  have hlow : x.lowestFree = some n := by
    refine State.lowestFree_eq hlane hfree fun k hk l' hl' => hfirst k hk l' ?_
    rw [hx] at hl'
    exact hl'
  rw [← hx] at hzero hcode ⊢
  rw [State.restoreGlobal_of_free (by rw [hzero]) hlow, hzero, hcode, State.updLane_of_laneAt hlane, ← hlanes]
  exact ⟨State.range_setRange_self .., rfl⟩

theorem State.restoreGlobal_reopenedNoted_of_none {y : State} (hno : ∀ l ∈ y.lane.lanes, l.state ≠ .free) :
    y.reopenedNoted.restoreGlobal.range 0 = ⟨some .global, false, false, none, none⟩ := by
  have hzero : y.reopenedNoted.range 0 = ⟨some .global, false, false, none, none⟩ := y.range_reopened.1
  rw [State.restoreGlobal, State.bind_of_none (s := y.reopenedNoted) (by rw [hzero]) hno]
  exact hzero

/-! ## What a stop leaves -/

/-- What a stopped REVERT leaves live before range 0 is looked at. -/
def State.StoppedAt (z : State) (last : RevertStep) (g : State) : Prop :=
  (g.store = z.store ∧ g.policy = z.store.policy ∧ g.tries = z.tries ∧ g.mode = z.mode ∧ g.rootKey = z.rootKey ∧
    g.keys = z.keys ∧ g.queue = z.queue) ∧
  (last = .policy → g.pairing = z.pairing ∧ g.challenge = z.challenge ∧ g.custody = z.custody) ∧
  (last ≠ .policy → g.pairing = none ∧ g.challenge = none ∧ g.custody = { z.custody with verdict := .absent }) ∧
  (g.drive.inFlight = z.drive.inFlight ∧ g.drive.replySlot = z.drive.replySlot)

theorem State.stoppedAt_revertGone (z : State) (last : RevertStep) : z.StoppedAt last (z.revertGone last) := by
  obtain ⟨la, v, d, e, h, -, hflight, hslot, -⟩ := z.revertGone_frame last
  rw [h]
  unfold State.revertLive
  split
  · rename_i hl
    exact ⟨⟨rfl, rfl, rfl, rfl, rfl, rfl, rfl⟩, fun _ => ⟨rfl, rfl, rfl⟩, fun hne => absurd hl hne, hflight, hslot⟩
  · rename_i hl
    exact ⟨⟨rfl, rfl, rfl, rfl, rfl, rfl, rfl⟩, fun he => absurd he hl, fun _ => ⟨rfl, rfl, rfl⟩, hflight, hslot⟩

/-- An explicit range still present in the live state whose absent record is stored. -/
def State.RangeGone (z : State) (r : RangeId) : Prop :=
  r ≠ 0 ∧ (z.range r).stored.isSome = true ∧ z.store.ranges[r.val] = none

theorem State.mem_committedAbsent_revertLive {z : State} {last : RevertStep} {r : RangeId} :
    r ∈ (z.revertLive last).committedAbsent ↔ z.RangeGone r := by
  rw [State.mem_committedAbsent]
  unfold State.revertLive
  split <;> rfl

theorem State.range_revertGone (z : State) (last : RevertStep) :
    (∀ r, z.RangeGone r → (z.revertGone last).range r = .absent) ∧
      (∀ r, ¬z.RangeGone r → (z.revertGone last).range r = z.range r) ∧
      ((∃ r, z.RangeGone r) → (z.revertGone last).epoch = z.epoch + 1) ∧
      ((∀ r, ¬z.RangeGone r) → (z.revertGone last).epoch = z.epoch) := by
  obtain ⟨la, v, d, e, h, hv, -, -, he⟩ := z.revertGone_frame last
  rw [h]
  refine ⟨fun r hr => ?_, fun r hr => ?_, fun ⟨r, hr⟩ => ?_, fun hnone => ?_⟩
  · exact (hv r).trans (if_pos (State.mem_committedAbsent_revertLive.2 hr))
  · exact (hv r).trans (if_neg fun hm => hr (State.mem_committedAbsent_revertLive.1 hm))
  · exact he.trans (if_neg (List.ne_nil_of_mem (State.mem_committedAbsent_revertLive.2 hr)))
  · exact he.trans (if_pos (List.eq_nil_iff_forall_not_mem.2 fun r hm =>
      hnone r (State.mem_committedAbsent_revertLive.1 hm)))

/-! ## The requirement -/

section
variable {s : State} (hs : s.Ready .drive) (tag : Byte)
include hs

theorem exec_revert_of_reply {r : Result}
    (h : revertOwner tag (s.endTransaction .drive) =
      (s.endTransaction .drive).replyTo .revert .drive tag (.code r)) :
    exec (.revert .drive tag []) s = .next { s with drive := s.drive.answered .revert tag (.code r) } :=
  congrArg Host.Outcome.next (takeRequest_of_reply hs.1 (frameRefusal_of_ready hs.2 rfl rfl) h)

theorem exec_revert_of_free (hspent : s.custody.state.reverts = true) (hwarn : s.supplyWarning = false)
    (hq : s.queue = []) (hh : s.held = []) :
    exec (.revert .drive tag []) s = .next { s with
      queue := [policyEntry .default [.reverted .policy]]
      drive := s.drive.flying .revert tag .committing } := by
  have hfree : (s.endTransaction .drive).freeEntries ≠ 0 := by
    rw [Ne, State.freeEntries_eq_zero]
    rintro (h | h)
    · rw [show (s.endTransaction .drive).queue = [] from hq] at h
      exact absurd h (by decide)
    · exact h hh
  refine congrArg Host.Outcome.next (takeRequest_of_started
    (x := { s.endTransaction .drive with queue := [policyEntry .default [.reverted .policy]] })
    hs.1 (frameRefusal_of_ready hs.2 rfl rfl) ?_ rfl rfl)
  rw [revertOwner_of_free (s := s.endTransaction .drive) tag hspent hwarn hfree, State.enter_of_empty (s := s.endTransaction .drive) hq hh]

end

end Sys2Proof.Machine

/-!
PROOFS. REVERT returns a drive to OPEN: the statement (R128; O47).
-/

namespace Sys2Proof.Machine

open Sys2Proof

/-- The Tries write stands behind the first commit alone (R72; log entry 18). -/
theorem State.queue_revertMet_of_keyed (s : State) (ws : List RecordWrite) {step : RevertStep} (h : step.keyed) :
    (s.revertMet step ws).queue = [] := by
  refine if_neg fun hp => ?_
  obtain rfl := hp.1
  rcases h with h | h | h <;> cases h

/-- Settles O47: the requirement's refusals, each commit's completion, the stops and the end, one lemma each. -/
theorem revertReturnsToOpen : Obligations.RevertReturnsToOpen := by
  intro s tag spent answer
  have hspent : spent ↔ s.custody.state.reverts = true := Custody.reverts_iff.symm
  have hnot : ¬spent ↔ s.custody.state.reverts = false := by rw [hspent, Bool.not_eq_true]
  refine ⟨fun hs => ⟨fun hns => ?_, fun hsp hw => ?_, fun hsp hw => ⟨fun hfull => ?_, fun hq hh => ?_⟩⟩,
    fun step key ws h => ?_, fun h hsp hlanes => ?_⟩
  · exact exec_revert_of_reply hs tag (revertOwner_of_refused (s := s.endTransaction .drive) tag (hnot.1 hns))
  · exact exec_revert_of_reply hs tag (revertOwner_of_warning (s := s.endTransaction .drive) tag (hspent.1 hsp) hw)
  · exact exec_revert_of_reply hs tag (revertOwner_of_full (s := s.endTransaction .drive) tag (hspent.1 hsp) hw
      (State.freeEntries_eq_zero.2 hfull))
  · exact exec_revert_of_free hs tag (hspent.1 hsp) hw hq hh
  · intro st global limit lowers tries lowered enters
    refine ⟨fun hsp hw => ?_, fun hstop => ?_⟩
    · have hnext := fun next hn n w hw' => exec_reverted_of_next h (hspent.1 hsp) hw (next := next) hn (n := n) (w := w) hw'
      intro k fresh behind
      refine ⟨fun hp => ?_, fun hp => ⟨fun r hb hr hleast => ?_, fun hnone => ?_⟩, fun hp => ?_, fun hp => ?_⟩
      · subst hp
        exact hnext .pairing rfl s.draws _ rfl
      · exact hnext (.absent r) (State.revertNext_of_least hp hb hr hleast) s.draws _ rfl
      · exact hnext .key (State.revertNext_of_none hp hnone) (s.draws + 1) _ rfl
      · subst hp
        exact hnext .range rfl s.draws _ rfl
      · subst hp
        exact hnext .custody rfl s.draws _ rfl
    · intro erased gone keyed
      obtain ⟨v, k, q, hframe, hothers, hunkeyed, hkeyed, hkey, hlate⟩ :=
        State.revertStop_frame (z := s.revertMet step ws) (last := step) (State.queue_revertMet_of_keyed s ws) h.2.2.2
          (if s.custody.state.reverts then Result.deferred else .state)
      have hexec := exec_reverted_of_stop h (hstop.imp_left hnot.1)
      obtain ⟨⟨hstore, hpolicy, htries, hmode, hroot, hkeys, hqueue⟩, hfirst, hlater, hflight, hslot⟩ :=
        (s.revertMet step ws).stoppedAt_revertGone step
      obtain ⟨hgone, hstay, hraised, hsame⟩ := (s.revertMet step ws).range_revertGone step
      have hzero : ((s.revertMet step ws).revertGone step).range 0 = s.range 0 := hstay 0 fun h0 => h0.1 rfl
      have hresult : (if s.custody.state.reverts then Result.deferred else Result.state) =
          if spent then Result.deferred else Result.state := if_congr hspent.symm rfl rfl
      rw [hframe, hresult] at hexec
      generalize (s.revertMet step ws).revertGone step = g at *
      rw [State.answer_of_empty (s := { g with ranges := v, keys := k, queue := q }) (p := .drive)
        (hflight.trans h.2.1) (hslot.trans h.1.2.1)] at hexec
      refine ⟨_, hexec, hstore, hpolicy, htries, ?_, rfl, hmode, hroot, hfirst, hlater, fun r hr => ?_, fun r h0 hr => ?_,
        hraised, hsame, fun hn => ?_, fun hk => ?_, fun hk => ?_, fun old c hl hold hc => ?_⟩
      · rfl
      · exact (hothers r hr.1).trans (hgone r hr)
      · exact (hothers r h0).trans (hstay r hr)
      · obtain ⟨h1, h2, h3⟩ := hunkeyed hn
        exact ⟨h1.trans hkeys, h2.trans hzero, h3.trans hqueue⟩
      · exact (hkeyed hk).trans (congrArg (fun k : Vector KeyRec 16 => k.set 0 st.keys[0].erased) hkeys)
      · obtain ⟨h1, h2⟩ := hkey hk
        exact ⟨h1.trans hzero, h2⟩
      · have h0 := hlate old c hl ((congrArg RangeEntry.stored hzero).trans hold)
          ((congrArg (fun y : Records => y.ranges[0]) hstore).trans hc)
        rw [hzero] at h0
        exact h0
  · obtain ⟨y, hy⟩ : ∃ y, y = s.written [.custody .delivered] := ⟨_, rfl⟩
    obtain ⟨hzero, habsent⟩ := y.range_reopened
    obtain ⟨hothers, hstored, -⟩ := y.reopenedNoted.restoreGlobal_ranges
    obtain ⟨⟨hpolicy, hpairing, hchallenge, hmode, hepoch, hcustody⟩, hkeys, hroot, hgeometry, hauth, htries, hplatform⟩ :=
      y.fields_restoreGlobal_reopenedNoted
    have hfree := fun n l => State.restoreGlobal_reopenedNoted (y := y) (n := n) (l := l)
    have hunfree := State.restoreGlobal_reopenedNoted_of_none (y := y)
    have hdrive := y.finished_reopenedNoted tag (.epoch .ok (s.epoch + 1))
    have hexec := exec_reverted_last (ws := [.custody .delivered]) h (hspent.1 hsp) hlanes
    rw [← hy] at hexec
    generalize y.reopenedNoted.restoreGlobal = x at *
    subst hy
    refine ⟨_, hexec, hpolicy, hpairing, hchallenge, hmode, hepoch, hcustody,
      fun r hr => (hothers r hr).trans (habsent r hr), hstored.trans (congrArg RangeEntry.stored hzero), hkeys,
      fun n l hl hstate hfirst => ?_, fun hno => ?_, hroot, hgeometry, hauth, htries, hplatform, hdrive⟩
    · obtain ⟨hrange, hlanes'⟩ := hfree n l hl hstate hfirst
      exact ⟨congrArg RangeEntry.read hrange, congrArg RangeEntry.write hrange, congrArg RangeEntry.holder hrange,
        congrArg RangeEntry.lane hrange, hlanes'⟩
    · exact ⟨congrArg RangeEntry.hasRight (hunfree hno), congrArg RangeEntry.lane (hunfree hno)⟩

end Sys2Proof.Machine

/-!
PROOFS. Writes entered with nothing under way but themselves: the commit queue takes the first four, the rest are held (R153).
-/

namespace Sys2Proof.Machine

open Sys2Proof

/-- The state with the entries `l` in their order: the first four queued, the others held. -/
def State.lay (x : State) (l : List Entry) : State := { x with queue := l.take 4, held := l.drop 4 }

theorem State.lay_of {x : State} {q hd l : List Entry} (hq : q = l.take 4) (hh : hd = l.drop 4) :
    ({ x with queue := q, held := hd } : State) = x.lay l := by
  subst hq hh
  rfl

theorem nonFinal_of_plain {l : List Entry} (h : ∀ e ∈ l, e.key ≠ .final) : nonFinal l = l.length :=
  congrArg List.length (List.filter_eq_self.2 fun e he => by simpa using h e he)

/-- A write of no record that the entries hold takes the place behind them. -/
theorem State.enter_lay {x : State} {l : List Entry} (hplain : ∀ e ∈ l, e.key ≠ .final) {w : Entry}
    (hno : ∀ e ∈ l, e.holds w.key = false) (earlier : List EntryKey) : (x.lay l).enter earlier w = x.lay (l ++ [w]) := by
  have htail : ∀ e ∈ (x.lay l).queue.tail, e.holds w.key = false := fun e he => hno e (List.mem_of_mem_take (List.mem_of_mem_tail he))
  have hcount : nonFinal (x.lay l).queue = min 4 l.length :=
    (nonFinal_of_plain fun e he => hplain e (List.mem_of_mem_take he)).trans List.length_take
  by_cases hlen : l.length < 4
  · have hdrop : (x.lay l).held = [] := List.drop_eq_nil_of_le hlen.le
    rw [State.enter_of_free hdrop htail (by omega)]
    have htake : l.take 4 ++ [w] = (l ++ [w]).take 4 := by
      rw [List.take_of_length_le hlen.le, List.take_of_length_le (by simp; omega)]
    have hrest : l.drop 4 = (l ++ [w]).drop 4 := by
      rw [List.drop_eq_nil_of_le hlen.le, List.drop_eq_nil_of_le (by simp; omega)]
    simp only [State.lay, htake, hrest]
  · rw [State.enter_of_full (fun e he => hno e (List.mem_of_mem_drop he)) htail (.inr (by omega))]
    have htake : l.take 4 = (l ++ [w]).take 4 := (List.take_append_of_le_length (by omega)).symm
    have hrest : l.drop 4 ++ [w] = (l ++ [w]).drop 4 := (List.drop_append_of_le_length (by omega)).symm
    simp only [State.lay, htake, hrest]

/-- The sequence of an operation's writes from one of them on, the keys of the ones before it given. -/
def State.enterFrom (x : State) (earlier : List EntryKey) (ws : List Entry) : State :=
  (ws.foldl (fun (acc : List EntryKey × State) w => (w.key :: acc.1, acc.2.enter acc.1 w)) (earlier, x)).2

theorem State.enterFrom_cons (x : State) (earlier : List EntryKey) (w : Entry) (ws : List Entry) :
    x.enterFrom earlier (w :: ws) = (x.enter earlier w).enterFrom (w.key :: earlier) ws := rfl

theorem State.enterAll_eq (x : State) (ws : List Entry) : x.enterAll ws = x.enterFrom [] ws := rfl

/-- Entries of which none holds the key of a later one. -/
def Apart (l : List Entry) : Prop := l.Pairwise fun e w => e.holds w.key = false

theorem State.enterFrom_lay {x : State} {ws l : List Entry} (hplain : ∀ e ∈ l ++ ws, e.key ≠ .final) (hno : Apart (l ++ ws))
    (earlier : List EntryKey) : (x.lay l).enterFrom earlier ws = x.lay (l ++ ws) := by
  induction ws generalizing l earlier with
  | nil => rw [List.append_nil]; rfl
  | cons w ws ih =>
    have happend : l ++ w :: ws = l ++ [w] ++ ws := by simp
    have hw : ∀ e ∈ l, e.holds w.key = false := fun e he => (List.pairwise_append.1 hno).2.2 e he w (List.mem_cons_self ..)
    rw [State.enterFrom_cons, State.enter_lay (fun e he => hplain e (List.mem_append_left _ he)) hw,
      happend, ih (happend ▸ hplain) (happend ▸ hno)]

theorem State.enter_of_held_followed {s : State} {earlier : List EntryKey} {b a : List Entry} {e w : Entry}
    (hs : s.held = b ++ e :: a) (he : e.holds w.key = true) (ha : ∀ y ∈ a, y.holds w.key = false)
    (hfollows : ∃ y ∈ a, ∃ k ∈ earlier, y.holds k = true) :
    s.enter earlier w = { s with held := b ++ a ++ [e.merge w] } := by
  have hyes : (a.any fun y => earlier.any y.holds) = true := by
    simp only [List.any_eq_true]
    exact hfollows
  simp only [State.enter, hs, splitLast_append he ha, hyes, if_true]

/-- The same where the entry left the queue to others that are held: the oldest of them takes the freed place. -/
theorem State.enter_of_waiting_followed {s : State} {earlier : List EntryKey} {h : Entry} {b a rest : List Entry}
    {e w y : Entry} (hq : s.queue = h :: (b ++ e :: a)) (hh : s.held = y :: rest) (he : e.holds w.key = true)
    (ha : ∀ z ∈ a, z.holds w.key = false) (hheld : ∀ z ∈ s.held, z.holds w.key = false)
    (hfollows : ∃ z ∈ a ++ s.held, ∃ k ∈ earlier, z.holds k = true) (hroom : nonFinal (h :: (b ++ a)) = 3)
    (hy : y.key ≠ .final) (hno : ∀ z ∈ b ++ a, z.holds y.key = false) :
    s.enter earlier w = { s with queue := h :: (b ++ a ++ [y]), held := rest ++ [e.merge w] } := by
  have hyes : ((a ++ s.held).any fun z => earlier.any z.holds) = true := by
    simp only [List.any_eq_true]
    exact hfollows
  have hsome : s.held.isEmpty = false := by rw [hh]; rfl
  have hfull : ¬nonFinal (h :: (b ++ a) ++ [y]) < Config.queueCapacity := by
    rw [nonFinal_append, hroom, nonFinal_cons, if_neg hy]
    decide
  have henter : s.enter earlier w = State.promoteHeld (s.held.length + 1)
      { s with queue := h :: (b ++ a), held := s.held ++ [e.merge w] } := by
    simp only [State.enter, splitLast_none hheld, hq, List.tail_cons, splitLast_append he ha, hyes, hsome, if_true,
      Bool.false_eq_true, if_false]
    rfl
  have hstep (n : Nat) (x : State) (hxq : x.queue = h :: (b ++ a)) (hxh : x.held = y :: (rest ++ [e.merge w])) :
      State.promoteHeld (n + 1) x =
        State.promoteHeld n { x with queue := h :: (b ++ a) ++ [y], held := rest ++ [e.merge w] } := by
    simp only [State.promoteHeld, hxh, hxq, List.tail_cons, splitLast_none hno,
      if_pos (show nonFinal (h :: (b ++ a)) < Config.queueCapacity by rw [hroom]; decide)]
  have hstop (n : Nat) (x : State) (hxq : x.queue = h :: (b ++ a) ++ [y]) : State.promoteHeld n x = x := by
    cases n with
    | zero => rfl
    | succ n =>
      unfold State.promoteHeld
      split
      · rfl
      · rw [hxq, if_neg hfull]
  rw [henter, hstep _ _ rfl (by rw [hh]; rfl), hstop _ _ rfl]
  simp only [List.cons_append]

/-- A write of a record that an entry behind the head holds, an earlier write of its sequence behind that entry: it
merges at the tail (R152). -/
theorem State.enter_lay_of_followed {x : State} {h : Entry} {b a : List Entry} {e w : Entry} {earlier : List EntryKey}
    (hplain : ∀ y ∈ h :: (b ++ e :: a), y.key ≠ .final) (hapart : Apart (b ++ a)) (he : e.holds w.key = true)
    (ha : ∀ y ∈ a, y.holds w.key = false) (hfollows : ∃ y ∈ a, ∃ k ∈ earlier, y.holds k = true) :
    (x.lay (h :: (b ++ e :: a))).enter earlier w = x.lay (h :: (b ++ a ++ [e.merge w])) := by
  by_cases hlen : b.length < 3
  · obtain ⟨n, hn⟩ : ∃ n, 3 = b.length + (n + 1) := ⟨2 - b.length, by omega⟩
    have hqueue : (x.lay (h :: (b ++ e :: a))).queue = h :: (b ++ e :: a.take n) := by
      simp only [State.lay, List.take_succ_cons, hn, List.take_length_add_append]
    have hheld : (x.lay (h :: (b ++ e :: a))).held = a.drop n := by
      simp only [State.lay, List.drop_succ_cons, hn, List.drop_length_add_append]
    have hsplit : a.take n ++ a.drop n = a := List.take_append_drop n a
    cases hrest : a.drop n with
    | nil =>
      rw [hrest, List.append_nil] at hsplit
      have hshort : (h :: (b ++ a ++ [e.merge w])).length ≤ 4 := by
        have := List.drop_eq_nil_iff.1 hrest
        simp
        omega
      rw [State.enter_of_followed (hqueue.trans (by rw [hsplit])) he ha (hheld.trans hrest) hfollows]
      exact State.lay_of (List.take_of_length_le hshort).symm
        ((hheld.trans hrest).trans (List.drop_eq_nil_of_le hshort).symm)
    | cons y rest =>
      rw [hrest] at hsplit hheld
      have htaken : (a.take n).length = n := by
        rw [List.length_take, Nat.min_eq_left (Nat.le_of_lt (by
          by_contra hge
          rw [List.drop_eq_nil_of_le (Nat.not_lt.1 hge)] at hrest
          cases hrest))]
      generalize a.take n = a1 at *
      subst hsplit
      have hcount : nonFinal (h :: (b ++ a1)) = 3 := by
        rw [nonFinal_of_plain fun z hz => hplain z ?_]
        · simp
          omega
        · simp only [List.mem_cons, List.mem_append] at hz ⊢
          tauto
      have hlast : ∀ z ∈ b ++ a1, z.holds y.key = false := fun z hz => by
        have hpair := hapart
        rw [← List.append_assoc] at hpair
        exact (List.pairwise_append.1 hpair).2.2 z hz y (List.mem_cons_self ..)
      rw [State.enter_of_waiting_followed hqueue hheld he (fun z hz => ha z (List.mem_append_left _ hz))
        (fun z hz => ha z (List.mem_append_right _ (hheld ▸ hz))) (by rw [hheld]; exact hfollows) hcount
        (hplain y (by simp)) hlast]
      have hfour : (h :: (b ++ a1 ++ [y])).length = 4 := by
        simp
        omega
      have hall : h :: (b ++ (a1 ++ y :: rest) ++ [e.merge w]) = h :: (b ++ a1 ++ [y]) ++ (rest ++ [e.merge w]) := by simp
      rw [hall]
      exact State.lay_of (List.take_left' hfour).symm (List.drop_left' hfour).symm
  · have hfour : (h :: b.take 3).length = 4 := by
      simp
      omega
    have hall (c : List Entry) : h :: (b ++ c) = (h :: b.take 3) ++ (b.drop 3 ++ c) := by
      rw [List.cons_append, ← List.append_assoc, List.take_append_drop]
    have hheld : (x.lay (h :: (b ++ e :: a))).held = b.drop 3 ++ e :: a := by
      rw [hall]
      exact List.drop_left' hfour
    rw [State.enter_of_held_followed hheld he ha hfollows, List.append_assoc b, hall, hall (a ++ [e.merge w]),
      ← List.append_assoc (b.drop 3)]
    exact State.lay_of ((List.take_left' hfour).trans (List.take_left' hfour).symm) (List.drop_left' hfour).symm

end Sys2Proof.Machine

/-!
PROOFS. The corrections of a start (R23, R143, R147, R160 step 2), as functions of the records: the entries they make in
their order, and the live state they leave.
-/

namespace Sys2Proof.Machine

open Sys2Proof

/-! ## Entries of one record each -/

/-- A write of one record on which nothing waits. -/
def Entry.One (e : Entry) : Prop := ∃ r w, e = ⟨.single r, [w], []⟩ ∧ w.record = some r

theorem Entry.One.key_ne {e : Entry} (h : e.One) : e.key ≠ .final := by
  obtain ⟨r, w, rfl, -⟩ := h
  exact nofun

theorem Entry.One.holds {e : Entry} (h : e.One) (r : RecordId) : e.holds (.single r) = decide (e.key = .single r) := by
  obtain ⟨q, w, rfl, hw⟩ := h
  simp [Entry.holds, Entry.contains, hw]

/-- Entries of one record each, no record twice. -/
def Proper (l : List Entry) : Prop := (∀ e ∈ l, e.One) ∧ (l.map fun e => e.key).Nodup

theorem Proper.append {a b : List Entry} (ha : Proper a) (hb : Proper b) (h : ∀ e ∈ a, ∀ e' ∈ b, e.key ≠ e'.key) :
    Proper (a ++ b) := by
  refine ⟨fun e he => (List.mem_append.1 he).elim (ha.1 e) (hb.1 e), ?_⟩
  rw [List.map_append]
  refine List.nodup_append.2 ⟨ha.2, hb.2, fun k hk k' hk' => ?_⟩
  obtain ⟨e, he, rfl⟩ := List.mem_map.1 hk
  obtain ⟨e', he', rfl⟩ := List.mem_map.1 hk'
  exact h e he e' he'

theorem Proper.of_append_left {a b : List Entry} (h : Proper (a ++ b)) : Proper a :=
  ⟨fun e he => h.1 e (List.mem_append_left _ he), by
    have := h.2
    rw [List.map_append] at this
    exact (List.nodup_append.1 this).1⟩

theorem Proper.plain {l : List Entry} (h : Proper l) : ∀ e ∈ l, e.key ≠ .final := fun e he => (h.1 e he).key_ne

theorem Proper.holds_of_append {l : List Entry} {w : Entry} (h : Proper (l ++ [w])) : ∀ e ∈ l, e.holds w.key = false := by
  intro e he
  obtain ⟨r, x, rfl, hx⟩ := h.1 w (by simp)
  rw [(h.1 e (List.mem_append_left _ he)).holds]
  refine decide_eq_false fun hkey => ?_
  have hnodup := h.2
  rw [List.map_append] at hnodup
  exact (List.nodup_append.1 hnodup).2.2 _ (List.mem_map_of_mem he) _ (List.mem_map_of_mem (List.mem_singleton_self _)) hkey

theorem Proper.apart {l : List Entry} (h : Proper l) : Apart l := by
  induction l using List.reverseRecOn with
  | nil => exact List.Pairwise.nil
  | append_singleton l w ih =>
    refine List.pairwise_append.2 ⟨ih h.of_append_left, List.pairwise_singleton .., fun e he y hy => ?_⟩
    rw [List.mem_singleton.1 hy]
    exact h.holds_of_append e he

theorem State.enter_lay_of_proper {x : State} {l : List Entry} {w : Entry} (h : Proper (l ++ [w])) (earlier : List EntryKey) :
    (x.lay l).enter earlier w = x.lay (l ++ [w]) :=
  State.enter_lay h.of_append_left.plain h.holds_of_append earlier

theorem State.enterAll_lay {x : State} {l ws : List Entry} (h : Proper (l ++ ws)) :
    (x.lay l).enterAll ws = x.lay (l ++ ws) := State.enterFrom_lay h.plain h.apart []

/-! ## What a start finds in the records -/

/-- The stored state of a range. -/
abbrev Records.found (st : Records) (r : RangeId) : Option RangeState := st.ranges[r.val].map fun x => x.state

/-- A stored key of a range that is not ACTIVE (R23). -/
abbrev Records.orphan (st : Records) (r : RangeId) : Bool :=
  st.keys[r.val].key.isSome && decide (st.found r ≠ some .active)

/-- Range 0 left ACTIVE by a REVERT cut short (R23). -/
abbrev Records.left (st : Records) : Prop := st.found 0 = some .active ∧ 2 ≤ st.custody.state.strength

/-- SCRUBBING with its job's end stored (R147). -/
abbrev Records.ended (st : Records) : Prop := st.custody.state = .scrubbing ∧ st.journal.job = none

/-- A CUSTODY job that the Custody record does not allow (R147; log entry 36). -/
abbrev Records.stale (st : Records) : Prop :=
  st.custody.state ≠ .scrubbing ∧ st.custody.state ≠ .spent ∧ st.journal.job.map (fun x => x.kind) = some .custody

/-- A range's record behind the correction of range 0 (R23). -/
def Records.globalled (st : Records) (r : RangeId) : Option RangeRec :=
  st.ranges[r.val].map fun x =>
    { x with state := if r = 0 ∧ st.left then (if st.custody.state = .spent then .blank else .void) else x.state }

/-- A range's record behind every correction (R23, R143, R147). -/
def Records.corrected (st : Records) (r : RangeId) : Option RangeRec :=
  st.ranges[r.val].map fun x =>
    { x with state :=
      if st.ended ∨ st.custody.state = .spent ∧ (x.state = .void ∨ r = 0 ∧ st.left) then .blank
      else if r = 0 ∧ st.left then .void else x.state }

/-- A range's key behind the corrections (R23). -/
def Records.correctedKey (st : Records) (r : RangeId) : KeyRec :=
  if st.orphan r = true ∨ r = 0 ∧ st.left then ⟨st.keys[r.val].generation, none⟩ else st.keys[r.val]

/-- The commits of the keys of ranges that are not ACTIVE. -/
def Records.keyEntries (st : Records) : List Entry := (allRanges.filter st.orphan).map fun r => keyEraseEntry r []

/-- A range as a start leaves it but for range 0's rights in OPEN. -/
def RangeEntry.started (c : Option RangeRec) : RangeEntry := ⟨c, false, false, none, none⟩

/-! ## Keys of ranges that are not ACTIVE -/

theorem Entry.one_keyErase (r : RangeId) : (keyEraseEntry r []).One := ⟨_, _, rfl, rfl⟩

theorem Entry.one_range (r : RangeId) (c : Option RangeRec) : (rangeEntry r c []).One := ⟨_, _, rfl, rfl⟩

theorem proper_map {f : RangeId → Entry} (hone : ∀ r, (f r).One) (hkey : ∀ r q, (f r).key = (f q).key → r = q)
    {rs : List RangeId} (h : rs.Nodup) : Proper (rs.map f) := by
  refine ⟨fun e he => ?_, ?_⟩
  · obtain ⟨r, -, rfl⟩ := List.mem_map.1 he
    exact hone r
  · rw [List.map_map]
    exact List.Nodup.map (fun r q hrq => hkey r q hrq) h

theorem proper_keyErase {rs : List RangeId} (h : rs.Nodup) : Proper (rs.map fun r => keyEraseEntry r []) :=
  proper_map Entry.one_keyErase (fun r q h => by simpa [keyEraseEntry, singleEntry] using h) h

theorem proper_range (c : RangeId → Option RangeRec) {rs : List RangeId} (h : rs.Nodup) :
    Proper (rs.map fun r => rangeEntry r (c r) []) :=
  proper_map (fun r => Entry.one_range r (c r)) (fun r q h => by simpa [rangeEntry, singleEntry] using h) h

/-- The keys of a list of ranges erased, one commit each. -/
theorem State.foldl_eraseSlot (rs : List RangeId) {l : List Entry} (x : State)
    (h : Proper (l ++ rs.map fun r => keyEraseEntry r [])) :
    ∃ k, rs.foldl (fun x r => (x.eraseSlot r).enter [] (keyEraseEntry r [])) (x.lay l) =
        ({ x with keys := k } : State).lay (l ++ rs.map fun r => keyEraseEntry r []) ∧
      ∀ q : RangeId, k[q.val] = if q ∈ rs then x.keys[q.val].erased else x.keys[q.val] := by
  induction rs generalizing l x with
  | nil => exact ⟨x.keys, by rw [List.map_nil, List.append_nil]; rfl, fun q => rfl⟩
  | cons r rs ih =>
    have happend : l ++ (r :: rs).map (fun r => keyEraseEntry r []) =
        l ++ [keyEraseEntry r []] ++ rs.map fun r => keyEraseEntry r [] := by simp
    rw [happend] at h ⊢
    obtain ⟨k, hfold, hk⟩ := ih (x.eraseSlot r) h
    refine ⟨k, ?_, fun q => ?_⟩
    · rw [List.foldl_cons, show (x.lay l).eraseSlot r = (x.eraseSlot r).lay l from rfl,
        State.enter_lay_of_proper h.of_append_left, hfold]
      rfl
    · have hset : (x.eraseSlot r).keys[q.val] = if r = q then x.keys[r.val].erased else x.keys[q.val] :=
        (Vector.getElem_set r.isLt q.isLt).trans (if_congr Fin.ext_iff.symm rfl rfl)
      rw [hk q, hset]
      by_cases hrq : r = q
      · subst hrq
        simp [KeyRec.erased]
      · simp [hrq, Ne.symm hrq]

/-- Ranges set BLANK, one commit each (R147). -/
theorem State.foldl_blank (rs : List RangeId) {l : List Entry} (x : State) {c : RangeId → Option RangeRec}
    (hc : ∀ r ∈ rs, c r = (x.range r).stored.map fun c => { c with state := .blank }) (hnodup : rs.Nodup)
    (h : Proper (l ++ rs.map fun r => rangeEntry r (c r) [])) :
    ∃ v, rs.foldl (fun x r => let y := x.setRangeState r .blank; y.enter [] (rangeEntry r (y.range r).stored [])) (x.lay l) =
        ({ x with ranges := v } : State).lay (l ++ rs.map fun r => rangeEntry r (c r) []) ∧
      ∀ q : RangeId, v[q.val] = if q ∈ rs then { x.range q with stored := c q } else x.range q := by
  induction rs generalizing l x with
  | nil => exact ⟨x.ranges, by rw [List.map_nil, List.append_nil]; rfl, fun q => rfl⟩
  | cons r rs ih =>
    obtain ⟨hr, hnodup'⟩ := List.nodup_cons.1 hnodup
    have happend : l ++ (r :: rs).map (fun r => rangeEntry r (c r) []) =
        l ++ [rangeEntry r (c r) []] ++ rs.map fun r => rangeEntry r (c r) [] := by simp
    rw [happend] at h ⊢
    have hset (q : RangeId) : (x.setRangeState r .blank).range q =
        if r = q then { x.range r with stored := c r } else x.range q := by
      rw [hc r (List.mem_cons_self ..)]
      exact x.range_setRange ..
    obtain ⟨v, hfold, hv⟩ := ih (x.setRangeState r .blank) (fun q hq => by
      have hne : r ≠ q := by
        rintro rfl
        exact hr hq
      rw [hc q (List.mem_cons_of_mem _ hq), hset, if_neg hne]) hnodup' h
    have hstored : ((x.setRangeState r .blank).range r).stored = c r := by rw [hset, if_pos rfl]
    refine ⟨v, ?_, fun q => ?_⟩
    · rw [List.foldl_cons]
      dsimp only
      rw [show (x.lay l).setRangeState r .blank = (x.setRangeState r .blank).lay l from rfl,
        show ((x.setRangeState r .blank).lay l).range r = (x.setRangeState r .blank).range r from rfl, hstored,
        State.enter_lay_of_proper h.of_append_left, hfold]
      rfl
    · rw [hv q, hset]
      by_cases hrq : r = q
      · subst hrq
        simp [hr]
      · simp [hrq, Ne.symm hrq]

end Sys2Proof.Machine

/-!
PROOFS. The corrections of a start, one by one (R23, R143, R147; log entries 36, 40, 48).
-/

namespace Sys2Proof.Machine

open Sys2Proof

/-- The commits of range 0's correction. -/
def Records.globalEntries (st : Records) : List Entry :=
  if st.left then [keyEraseEntry 0 [], rangeEntry 0 (st.globalled 0) []] else []

/-- The Range records of the ranges that `f` picks, as the corrections leave them. -/
def Records.pickedEntries (st : Records) (f : RangeId → Bool) : List Entry :=
  (allRanges.filter f).map fun r => rangeEntry r (st.corrected r) []

/-- The commits of the journal's correction, the Custody record of a job's end given (R143, R147). -/
def Records.journalEntries (st : Records) (c : CustodyRec) : List Entry :=
  if st.ended then
    journalEntry ⟨none, st.journal.waiting⟩ .plain [] :: custodyEntry c [] ::
      st.pickedEntries fun r => st.ranges[r.val].isSome
  else if st.custody.state = .spent then st.pickedEntries fun r => decide (st.found r = some .void)
  else if st.stale then [journalEntry ⟨none, st.journal.waiting⟩ .plain []] else []

/-- The corrections' commits in their order (log entry 40). -/
def Records.corrections (st : Records) (c : CustodyRec) : List Entry :=
  st.keyEntries ++ (if st.left then keyEraseEntry 0 [] :: (if st.ended then [] else [rangeEntry 0 (st.globalled 0) []]) else []) ++
    st.journalEntries c

theorem Records.globalled_zero {st : Records} (h : st.left) :
    st.globalled 0 = st.ranges[0].map fun c =>
      { c with state := if st.custody.state = .spent then .blank else .void } := by
  refine Option.map_congr fun c _ => ?_
  rw [if_pos ⟨rfl, h⟩]

theorem Records.globalled_of_not {st : Records} {r : RangeId} (h : ¬(r = 0 ∧ st.left)) : st.globalled r = st.ranges[r.val] := by
  simp only [Records.globalled, if_neg h]
  cases st.ranges[r.val] <;> rfl

theorem Records.correctedKey_of_not {st : Records} {r : RangeId} (h : ¬(r = 0 ∧ st.left)) :
    st.correctedKey r = if st.orphan r then ⟨st.keys[r.val].generation, none⟩ else st.keys[r.val] :=
  if_congr (or_iff_left h) rfl rfl

/-! ## The entries are of one record each, no record twice -/

theorem Records.key_of_mem_keyEntries {st : Records} {e : Entry} (h : e ∈ st.keyEntries) :
    ∃ r, st.orphan r = true ∧ e.key = .single (.key r) := by
  obtain ⟨r, hr, rfl⟩ := List.mem_map.1 h
  exact ⟨r, (List.mem_filter.1 hr).2, rfl⟩

theorem Records.key_of_mem_pickedEntries {st : Records} {f : RangeId → Bool} {e : Entry} (h : e ∈ st.pickedEntries f) :
    ∃ r, f r = true ∧ e.key = .single (.range r) := by
  obtain ⟨r, hr, rfl⟩ := List.mem_map.1 h
  exact ⟨r, (List.mem_filter.1 hr).2, rfl⟩

theorem Records.orphan_zero_of_left {st : Records} (h : st.left) : st.orphan 0 = false := by
  simp [Records.orphan, h.1]

theorem Records.proper_keyEntries (st : Records) : Proper st.keyEntries :=
  proper_keyErase (allRanges_nodup.filter _)

theorem Records.proper_pickedEntries (st : Records) (f : RangeId → Bool) : Proper (st.pickedEntries f) :=
  proper_range st.corrected (allRanges_nodup.filter _)

theorem Records.proper_keys_zero {st : Records} (h : st.left) : Proper (st.keyEntries ++ [keyEraseEntry 0 []]) := by
  refine st.proper_keyEntries.append ⟨fun e he => ?_, List.nodup_singleton _⟩ fun e he e' he' hkey => ?_
  · rw [List.mem_singleton.1 he]
    exact Entry.one_keyErase 0
  · obtain ⟨r, hr, hk⟩ := Records.key_of_mem_keyEntries he
    rw [List.mem_singleton.1 he', hk] at hkey
    cases hkey
    rw [Records.orphan_zero_of_left h] at hr
    cases hr

theorem Records.key_of_mem_keys_zero {st : Records} {e : Entry} (h : e ∈ st.keyEntries ++ [keyEraseEntry 0 []]) :
    ∃ r, e.key = .single (.key r) := by
  rcases List.mem_append.1 h with h | h
  · obtain ⟨r, -, hk⟩ := Records.key_of_mem_keyEntries h
    exact ⟨r, hk⟩
  · exact ⟨0, by rw [List.mem_singleton.1 h]; rfl⟩

/-- Entries behind key erasures alone. -/
theorem proper_behind_keys {l ws : List Entry} (hl : Proper l) (hkeys : ∀ e ∈ l, ∃ r, e.key = .single (.key r))
    (hws : Proper ws) (hno : ∀ e ∈ ws, ∀ r, e.key ≠ .single (.key r)) : Proper (l ++ ws) := by
  refine hl.append hws fun e he e' he' hkey => ?_
  obtain ⟨r, hr⟩ := hkeys e he
  exact hno e' he' r (hkey.symm.trans hr)

theorem Records.proper_global (st : Records) : Proper (st.keyEntries ++ st.globalEntries) := by
  unfold Records.globalEntries
  split
  · rename_i h
    have hassoc : st.keyEntries ++ [keyEraseEntry 0 [], rangeEntry 0 (st.globalled 0) []] =
        st.keyEntries ++ [keyEraseEntry 0 []] ++ [rangeEntry 0 (st.globalled 0) []] := by simp
    rw [hassoc]
    refine proper_behind_keys (Records.proper_keys_zero h) (fun e => Records.key_of_mem_keys_zero)
      ⟨fun e he => ?_, List.nodup_singleton _⟩ fun e he r => ?_
    · rw [List.mem_singleton.1 he]
      exact Entry.one_range ..
    · rw [List.mem_singleton.1 he]
      exact nofun
  · rw [List.append_nil]
    exact st.proper_keyEntries

/-! ## The state that the corrections meet -/

/-- A state at the load of the records, as far as the corrections look. -/
structure State.Loads (x : State) (st : Records) : Prop where
  range : ∀ r, x.range r = .started st.ranges[r.val]
  key : ∀ r : RangeId, x.keys[r.val] = st.keys[r.val]
  custody : x.custody.state = st.custody.state
  job : x.scrub.job.map (fun j => j.journal) = st.journal.job
  waiting : x.scrub.waiting = st.journal.waiting

section
variable {st : Records} {x : State} (h : x.Loads st)
include h

theorem State.Loads.correctKeys : ∃ k, (x.lay []).correctKeys = ({ x with keys := k } : State).lay st.keyEntries ∧
    ∀ q : RangeId, k[q.val] = if st.orphan q then ⟨st.keys[q.val].generation, none⟩ else st.keys[q.val] := by
  have horphan : (x.lay []).orphanKey = st.orphan := by
    funext r
    have hstate : (x.lay []).rangeState r = st.found r := congrArg (fun e : RangeEntry => e.stored.map RangeRec.state) (h.range r)
    have hkey : (x.lay []).keys[r.val] = st.keys[r.val] := h.key r
    rw [State.orphanKey, hstate, hkey, Records.orphan]
    congr 1
    exact Bool.eq_iff_iff.2 (by simp)
  obtain ⟨k, hfold, hk⟩ := State.foldl_eraseSlot (allRanges.filter st.orphan) (l := []) x st.proper_keyEntries
  refine ⟨k, ?_, fun q => ?_⟩
  · rw [State.correctKeys, horphan]
    exact hfold
  · rw [hk q, h.key q]
    simp [mem_allRanges, KeyRec.erased]

theorem State.Loads.correctGlobal {y : State} {k : Vector KeyRec 16} (hy : y = { x with keys := k })
    (hk : ∀ q : RangeId, k[q.val] = if st.orphan q then ⟨st.keys[q.val].generation, none⟩ else st.keys[q.val]) :
    ∃ v k, (y.lay st.keyEntries).correctGlobal =
        ({ x with ranges := v, keys := k } : State).lay (st.keyEntries ++ st.globalEntries) ∧
      (∀ q : RangeId, v[q.val] = .started (st.globalled q)) ∧ ∀ q : RangeId, k[q.val] = st.correctedKey q := by
  subst hy
  have hstate : (({ x with keys := k } : State).lay st.keyEntries).rangeState 0 = st.found 0 :=
    congrArg (fun e : RangeEntry => e.stored.map RangeRec.state) (h.range 0)
  have hcustody : (({ x with keys := k } : State).lay st.keyEntries).custody.state = st.custody.state := h.custody
  have hcond : (decide (st.found 0 = some .active) && st.custody.state.erasedOrBeyond) = true ↔ st.left := by
    simp [Records.left, Custody.erasedOrBeyond]
  unfold State.correctGlobal
  rw [hstate, hcustody]
  by_cases hleft : st.left
  · rw [if_pos (hcond.2 hleft)]
    obtain ⟨c, hcdef⟩ : ∃ c, c = if st.custody.state = .spent then RangeState.blank else .void := ⟨_, rfl⟩
    rw [← hcdef]
    obtain ⟨z, hz⟩ : ∃ z, z = (({ x with keys := k } : State).setRangeState 0 c).eraseSlot 0 := ⟨_, rfl⟩
    have hrange (q : RangeId) : z.range q = .started (st.globalled q) := by
      have hx : ({ x with keys := k } : State).range 0 = .started st.ranges[(0 : RangeId).val] := h.range 0
      rw [hz]
      refine (State.range_setRange { x with keys := k } 0 q _).trans ?_
      rw [hx]
      split
      · rename_i hq
        subst hq
        rw [Records.globalled_zero hleft, ← hcdef]
        rfl
      · rename_i hq
        rw [Records.globalled_of_not fun h => hq h.1.symm]
        exact h.range q
    have hkeys (q : RangeId) : z.keys[q.val] = st.correctedKey q := by
      rw [hz]
      refine (Vector.getElem_set (by decide) q.isLt).trans ?_
      split
      · rename_i hq
        obtain rfl : 0 = q := Fin.ext hq
        have h0 := hk 0
        rw [Records.orphan_zero_of_left hleft, if_neg (by decide)] at h0
        rw [Records.correctedKey, if_pos (.inr ⟨rfl, hleft⟩), ← h0]
        rfl
      · rename_i hq
        rw [Records.correctedKey_of_not fun h => hq (congrArg Fin.val h.1.symm)]
        exact hk q
    have hentries : st.globalEntries = [keyEraseEntry 0 [], rangeEntry 0 (z.range 0).stored []] := by
      rw [Records.globalEntries, if_pos hleft, hrange]
      rfl
    have hframe : z = { x with ranges := z.ranges, keys := z.keys } := by
      rw [hz]
      rfl
    refine ⟨z.ranges, z.keys, ?_, hrange, hkeys⟩
    rw [← hframe, hentries]
    have hlay : (((({ x with keys := k } : State).lay st.keyEntries).setRangeState 0 c).eraseSlot 0) =
        z.lay st.keyEntries := by
      rw [hz]
      rfl
    dsimp only
    rw [hlay]
    exact State.enterAll_lay (hentries ▸ st.proper_global)
  · rw [if_neg fun hc => hleft (hcond.1 hc)]
    refine ⟨x.ranges, k, ?_, fun q => ?_, fun q => ?_⟩
    · rw [Records.globalEntries, if_neg hleft, List.append_nil]
    · refine (h.range q).trans ?_
      rw [Records.globalled_of_not fun h => hleft h.2]
    · rw [hk q, Records.correctedKey_of_not fun h => hleft h.2]

end

end Sys2Proof.Machine

/-!
PROOFS. The journal held against the Custody record at a start (R147), and the corrections together.
-/

namespace Sys2Proof.Machine

open Sys2Proof

/-! ## A range's record behind the corrections -/

theorem Records.not_ended_of_spent {st : Records} (h : st.custody.state = .spent) : ¬st.ended := by
  rintro ⟨hs, -⟩
  rw [h] at hs
  cases hs

theorem Records.corrected_of_ended {st : Records} (h : st.ended) (r : RangeId) :
    st.corrected r = (st.globalled r).map fun c => { c with state := .blank } := by
  rw [Records.globalled, Option.map_map]
  refine Option.map_congr fun c _ => ?_
  rw [if_pos (.inl h)]
  rfl

theorem Records.corrected_of_neither {st : Records} (h : ¬st.ended) (hs : st.custody.state ≠ .spent) (r : RangeId) :
    st.corrected r = st.globalled r := by
  refine Option.map_congr fun c _ => ?_
  rw [if_neg (fun hc => hc.elim h fun hc => hs hc.1), if_neg hs]

theorem Records.state_globalled_of_spent {st : Records} (h : st.custody.state = .spent) (r : RangeId) :
    (st.globalled r).map RangeRec.state = some .void ↔ st.found r = some .void := by
  rw [Records.globalled, Option.map_map]
  change _ ↔ st.ranges[r.val].map (fun x => x.state) = some .void
  cases hc : st.ranges[r.val] with
  | none => simp
  | some c =>
    simp only [Option.map_some, Function.comp_apply, if_pos h, Option.some.injEq]
    split
    · rename_i hleft
      obtain ⟨rfl, hfound, -⟩ := hleft
      have hstate : some c.state = some .active := (congrArg (Option.map fun x : RangeRec => x.state) hc).symm.trans hfound
      rw [Option.some.inj hstate]
      simp
    · rfl

theorem Records.corrected_of_void {st : Records} (h : st.custody.state = .spent) {r : RangeId}
    (hv : st.found r = some .void) : st.corrected r = (st.globalled r).map fun c => { c with state := .blank } := by
  rw [Records.globalled, Option.map_map]
  refine Option.map_congr fun c hc => ?_
  have hstate : c.state = .void := Option.some.inj ((congrArg (Option.map fun x : RangeRec => x.state) hc).symm.trans hv)
  rw [if_pos (.inr ⟨h, .inl hstate⟩)]
  rfl

theorem Records.corrected_of_spent {st : Records} (h : st.custody.state = .spent) {r : RangeId}
    (hv : st.found r ≠ some .void) : st.corrected r = st.globalled r := by
  refine Option.map_congr fun c hc => ?_
  have hstate : c.state ≠ .void := fun he => hv ((congrArg (Option.map fun x : RangeRec => x.state) hc).trans (congrArg some he))
  by_cases hleft : r = 0 ∧ st.left
  · rw [if_pos (.inr ⟨h, .inr hleft⟩), if_pos hleft, if_pos h]
  · rw [if_neg (fun hc => hc.elim (Records.not_ended_of_spent h) fun hc => hc.2.elim hstate hleft), if_neg hleft, if_neg hleft]

/-! ## The job's end, where the records hold SCRUBBING without a job -/

theorem Records.key_ne_of_mem_journalEntries {st : Records} {c : CustodyRec} {e : Entry} (he : e ∈ st.journalEntries c)
    (r : RangeId) : e.key ≠ .single (.key r) := by
  intro hkey
  have hpicked {f : RangeId → Bool} (he : e ∈ st.pickedEntries f) : False := by
    obtain ⟨q, -, hk⟩ := Records.key_of_mem_pickedEntries he
    rw [hk] at hkey
    cases hkey
  unfold Records.journalEntries at he
  split at he
  · rcases List.mem_cons.1 he with rfl | he
    · cases hkey
    · rcases List.mem_cons.1 he with rfl | he
      · cases hkey
      · exact hpicked he
  · split at he
    · exact hpicked he
    · split at he
      · rw [List.mem_singleton.1 he] at hkey
        cases hkey
      · cases he

theorem exists_cons_of_append_singleton {α : Type} (l : List α) (a : α) : ∃ b c, l ++ [a] = b :: c := by
  cases l with
  | nil => exact ⟨a, [], rfl⟩
  | cons b l => exact ⟨b, l ++ [a], rfl⟩

theorem proper_journal_custody (j : JournalRec) (c : CustodyRec) :
    Proper [journalEntry j .plain [], custodyEntry c []] := by
  refine ⟨fun e he => ?_, List.nodup_cons.2 ⟨fun hmem => (nomatch List.mem_singleton.1 hmem), List.nodup_singleton _⟩⟩
  rcases List.mem_cons.1 he with rfl | he
  · exact ⟨_, _, rfl, rfl⟩
  · rw [List.mem_singleton.1 he]
    exact ⟨_, _, rfl, rfl⟩

theorem key_of_mem_journal_custody {j : JournalRec} {c : CustodyRec} {e : Entry}
    (he : e ∈ [journalEntry j .plain [], custodyEntry c []]) : e.key = .single .journal ∨ e.key = .single .custody := by
  rcases List.mem_cons.1 he with rfl | he
  · exact .inl rfl
  · rw [List.mem_singleton.1 he]
    exact .inr rfl

theorem Records.key_of_mem_global {st : Records} {e : Entry} (he : e ∈ st.keyEntries ++ st.globalEntries) :
    ¬(e.key = .single .journal ∨ e.key = .single .custody) := by
  have hkey (h : (∃ r, e.key = .single (.key r)) ∨ ∃ r, e.key = .single (.range r)) :
      ¬(e.key = .single .journal ∨ e.key = .single .custody) := by
    rcases h with ⟨r, hr⟩ | ⟨r, hr⟩ <;> rw [hr] <;> simp
  refine hkey ?_
  rcases List.mem_append.1 he with he | he
  · obtain ⟨r, -, hr⟩ := Records.key_of_mem_keyEntries he
    exact .inl ⟨r, hr⟩
  · unfold Records.globalEntries at he
    split at he
    · rcases List.mem_cons.1 he with rfl | he
      · exact .inl ⟨0, rfl⟩
      · rw [List.mem_singleton.1 he]
        exact .inr ⟨0, rfl⟩
    · cases he

theorem Records.proper_journalEntries_of_ended {st : Records} (h : st.ended) (c : CustodyRec) :
    Proper (st.journalEntries c) := by
  rw [Records.journalEntries, if_pos h]
  refine (proper_journal_custody ⟨none, st.journal.waiting⟩ c).append (st.proper_pickedEntries _) fun e he e' he' hkey => ?_
  obtain ⟨r, -, hk⟩ := Records.key_of_mem_pickedEntries he'
  rw [hk] at hkey
  rcases key_of_mem_journal_custody he with h | h <;> exact nomatch hkey.symm.trans h

theorem Records.left_of_mem_global {st : Records} {e : Entry} (he : e ∈ st.keyEntries ++ st.globalEntries) {r : RangeId}
    (hk : e.key = .single (.range r)) : r = 0 ∧ st.left := by
  rcases List.mem_append.1 he with he | he
  · obtain ⟨q, -, hq⟩ := Records.key_of_mem_keyEntries he
    rw [hq] at hk
    cases hk
  · unfold Records.globalEntries at he
    split at he
    · rename_i hleft
      rcases List.mem_cons.1 he with rfl | he
      · cases hk
      · rw [List.mem_singleton.1 he] at hk
        cases hk
        exact ⟨rfl, hleft⟩
    · cases he

/-- The commits of a job's end enter behind the other corrections; range 0's record moves behind the Custody record. -/
theorem State.enterAll_ended {st : Records} (h : st.ended) (c : CustodyRec) (y : State) :
    (y.lay (st.keyEntries ++ st.globalEntries)).enterAll (st.journalEntries c) = y.lay (st.corrections c) := by
  have hproper := Records.proper_journalEntries_of_ended h c
  by_cases hleft : st.left
  · have hpresent : st.ranges[(0 : RangeId).val].isSome = true := by
      have hfound := hleft.1
      cases hc : st.ranges[(0 : RangeId).val] with
      | none => rw [Records.found, hc] at hfound; cases hfound
      | some c => rfl
    obtain ⟨rest, hrest⟩ : ∃ rest, st.journalEntries c = journalEntry ⟨none, st.journal.waiting⟩ .plain [] ::
        custodyEntry c [] :: rangeEntry 0 (st.corrected 0) [] :: rest := by
      refine ⟨(explicitRanges.filter fun r => st.ranges[r.val].isSome).map fun r => rangeEntry r (st.corrected r) [], ?_⟩
      rw [Records.journalEntries, if_pos h, Records.pickedEntries, show allRanges = 0 :: explicitRanges from rfl,
        List.filter_cons_of_pos (p := fun r : RangeId => st.ranges[r.val].isSome) hpresent, List.map_cons]
    obtain ⟨f, b, hfb⟩ := exists_cons_of_append_singleton st.keyEntries (keyEraseEntry 0 [])
    have hglobal : st.keyEntries ++ st.globalEntries = f :: (b ++ [rangeEntry 0 (st.globalled 0) []]) := by
      rw [Records.globalEntries, if_pos hleft, List.append_cons, hfb]
      rfl
    have hcorrections : st.corrections c = f :: (b ++ [journalEntry ⟨none, st.journal.waiting⟩ .plain [], custodyEntry c []] ++
        [rangeEntry 0 (st.corrected 0) []]) ++ rest := by
      rw [Records.corrections, if_pos hleft, if_pos h, hfb, hrest]
      simp
    have hall : Proper (st.corrections c) := by
      rw [Records.corrections, if_pos hleft, if_pos h]
      exact proper_behind_keys (Records.proper_keys_zero hleft) (fun e => Records.key_of_mem_keys_zero) hproper
        fun e he r => Records.key_ne_of_mem_journalEntries he r
    have hbehind : Proper (f :: (b ++ [rangeEntry 0 (st.globalled 0) []]) ++
        [journalEntry ⟨none, st.journal.waiting⟩ .plain [], custodyEntry c []]) := by
      rw [← hglobal]
      exact st.proper_global.append (proper_journal_custody ..) fun e he e' he' hkey =>
        st.key_of_mem_global he (hkey ▸ key_of_mem_journal_custody he')
    have hkeyed : ∀ e ∈ [journalEntry ⟨none, st.journal.waiting⟩ .plain [], custodyEntry c []],
        e.holds (rangeEntry 0 (st.corrected 0) []).key = false := by
      intro e he
      rw [show (rangeEntry 0 (st.corrected 0) []).key = .single (.range 0) from rfl, ((proper_journal_custody ..).1 e he).holds]
      rcases key_of_mem_journal_custody he with hk | hk <;> rw [hk] <;> rfl
    have hmerge : (rangeEntry 0 (st.globalled 0) []).merge (rangeEntry 0 (st.corrected 0) []) =
        rangeEntry 0 (st.corrected 0) [] := Entry.merge_of_plain (w := .range 0 (st.corrected 0)) (fun j => nofun) _ (.range 0) []
    rw [State.enterAll_eq, hglobal, hrest, State.enterFrom_cons, State.enterFrom_cons, State.enterFrom_cons,
      State.enter_lay_of_proper (by rw [List.append_cons] at hbehind; exact hbehind.of_append_left),
      State.enter_lay_of_proper (by simpa using hbehind)]
    have hfollowed := State.enter_lay_of_followed (x := y) (h := f) (b := b)
      (a := [journalEntry ⟨none, st.journal.waiting⟩ .plain [], custodyEntry c []])
      (e := rangeEntry 0 (st.globalled 0) []) (w := rangeEntry 0 (st.corrected 0) [])
      (earlier := [(custodyEntry c []).key, (journalEntry ⟨none, st.journal.waiting⟩ .plain []).key])
      (fun e he => hbehind.plain e (by simpa using he)) (List.Pairwise.sublist (by simp) hbehind.apart) rfl hkeyed ⟨custodyEntry c [], by simp, .single .custody, List.mem_cons_self .., rfl⟩
    rw [hmerge] at hfollowed
    have hlist : f :: (b ++ [rangeEntry 0 (st.globalled 0) []]) ++ [journalEntry ⟨none, st.journal.waiting⟩ .plain []] ++
        [custodyEntry c []] = f :: (b ++ rangeEntry 0 (st.globalled 0) [] ::
          [journalEntry ⟨none, st.journal.waiting⟩ .plain [], custodyEntry c []]) := by simp
    rw [hlist, hfollowed, hcorrections]
    rw [hcorrections] at hall
    exact State.enterFrom_lay hall.plain hall.apart _
  · have hcorrections : st.corrections c = st.keyEntries ++ st.journalEntries c := by
      rw [Records.corrections, if_neg hleft, List.append_nil]
    rw [Records.globalEntries, if_neg hleft, List.append_nil, hcorrections]
    exact State.enterAll_lay (proper_behind_keys st.proper_keyEntries (fun e he => by
      obtain ⟨r, -, hr⟩ := Records.key_of_mem_keyEntries he
      exact ⟨r, hr⟩) hproper fun e he r => Records.key_ne_of_mem_journalEntries he r)

end Sys2Proof.Machine

/-!
PROOFS. The corrections together (R160 step 2), and the state that they leave.
-/

namespace Sys2Proof.Machine

open Sys2Proof

/-- The custody record that a job's end stores at a start (R143). -/
def State.endRecord (x : State) : CustodyRec :=
  ({ x with custody := { x.custody with state := .spent } } : State).custodyRec false false

section
variable {st : Records} {z : State} (hr : ∀ q, z.range q = .started (st.globalled q))
  (hc : z.custody.state = st.custody.state) (hj : z.scrub.job.map (fun j => j.journal) = st.journal.job)
  (hw : z.scrub.waiting = st.journal.waiting)
include hr hc

theorem State.correctJournal_of_ended (hw : z.scrub.waiting = st.journal.waiting) (h : st.ended) (hjob : z.scrub.job = none) :
    ∃ v, (z.lay (st.keyEntries ++ st.globalEntries)).correctJournal =
        ({ z with
          ranges := v
          scrub := { z.scrub with job := none }
          custody := { z.custody with state := .spent } } : State).lay (st.corrections z.endRecord) ∧
      ∀ q : RangeId, v[q.val] = .started (st.corrected q) := by
  obtain ⟨v, hv, hvr⟩ := (z.lay (st.keyEntries ++ st.globalEntries)).markSpent_eq
  have hstored (q : RangeId) : v[q.val] = .started (st.corrected q) := by
    refine (hvr q).trans ?_
    rw [show (z.lay (st.keyEntries ++ st.globalEntries)).range q = z.range q from rfl, hr q, Records.corrected_of_ended h]
    rfl
  obtain ⟨y, hy⟩ : ∃ y : State, y = { z with
    ranges := v
    scrub := { z.scrub with job := none }
    custody := { z.custody with state := .spent } } := ⟨_, rfl⟩
  have hspent : (z.lay (st.keyEntries ++ st.globalEntries)).markSpent = y.lay (st.keyEntries ++ st.globalEntries) := by
    rw [hv, hy]
    rfl
  have hspend : (z.lay (st.keyEntries ++ st.globalEntries)).correctJournal =
      (z.lay (st.keyEntries ++ st.globalEntries)).spendAll := by
    have hstate : (z.lay (st.keyEntries ++ st.globalEntries)).custody.state = .scrubbing := hc.trans h.1
    have hnone : (z.lay (st.keyEntries ++ st.globalEntries)).scrub.job = none := hjob
    simp only [State.correctJournal, hstate, hnone, Option.map_none]
  have hrange (q : RangeId) : ((y.lay (st.keyEntries ++ st.globalEntries)).range q).stored = st.corrected q := by
    rw [hy]
    exact congrArg RangeEntry.stored (hstored q)
  have hpresent : (y.lay (st.keyEntries ++ st.globalEntries)).presentRanges = allRanges.filter fun r => st.ranges[r.val].isSome := by
    refine List.filter_congr fun r _ => ?_
    rw [hrange r, Records.corrected, Option.isSome_map]
  refine ⟨v, ?_, hstored⟩
  rw [hspend, State.spendAll, hspent, ← hy, ← State.enterAll_ended h]
  refine congrArg (State.enterAll · _) ?_
  rw [Records.journalEntries, if_pos h, hpresent, Records.pickedEntries, ← hw]
  subst hy
  refine congrArg₂ (fun a b => a :: custodyEntry z.endRecord [] :: b) rfl ?_
  exact List.map_congr_left fun r _ => congrArg (fun c => rangeEntry r c []) (hrange r)

theorem State.correctJournal_of_spent (h : st.custody.state = .spent) (c : CustodyRec) :
    ∃ v, (z.lay (st.keyEntries ++ st.globalEntries)).correctJournal = ({ z with ranges := v } : State).lay (st.corrections c) ∧
      ∀ q : RangeId, v[q.val] = .started (st.corrected q) := by
  have hvoid : (allRanges.filter fun r => decide ((z.lay (st.keyEntries ++ st.globalEntries)).rangeState r = some .void)) =
      allRanges.filter fun r => decide (st.found r = some .void) := by
    refine List.filter_congr fun r _ => decide_eq_decide.2 ?_
    rw [← Records.state_globalled_of_spent h]
    exact Eq.congr_left (congrArg (fun e : RangeEntry => e.stored.map RangeRec.state) (hr r))
  have hmatch : (z.lay (st.keyEntries ++ st.globalEntries)).correctJournal =
      (allRanges.filter fun r => decide (st.found r = some .void)).foldl
        (fun x r => let y := x.setRangeState r .blank; y.enter [] (rangeEntry r (y.range r).stored []))
        (z.lay (st.keyEntries ++ st.globalEntries)) := by
    have hstate : (z.lay (st.keyEntries ++ st.globalEntries)).custody.state = .spent := hc.trans h
    rw [← hvoid]
    simp only [State.correctJournal, hstate]
  have hcorrections : st.corrections c = st.keyEntries ++ st.globalEntries ++
      st.pickedEntries fun r => decide (st.found r = some .void) := by
    rw [Records.corrections, Records.journalEntries, if_neg (Records.not_ended_of_spent h), if_neg (Records.not_ended_of_spent h),
      if_pos h]
    rfl
  have hproper : Proper (st.keyEntries ++ st.globalEntries ++ st.pickedEntries fun r => decide (st.found r = some .void)) := by
    refine st.proper_global.append (st.proper_pickedEntries _) fun e he e' he' hkey => ?_
    obtain ⟨r, hvoid, hk⟩ := Records.key_of_mem_pickedEntries he'
    rw [hk] at hkey
    have hleft := Records.left_of_mem_global he hkey
    obtain ⟨rfl, hleft⟩ := hleft
    have hfound := of_decide_eq_true hvoid
    rw [hleft.1] at hfound
    cases hfound
  obtain ⟨v, hfold, hv⟩ := State.foldl_blank (allRanges.filter fun r => decide (st.found r = some .void)) z (c := st.corrected)
    (fun r hmem => by
      rw [hr r]
      exact Records.corrected_of_void h (of_decide_eq_true (List.mem_filter.1 hmem).2)) (allRanges_nodup.filter _) hproper
  refine ⟨v, ?_, fun q => ?_⟩
  · rw [hmatch, hcorrections]
    exact hfold
  · rw [hv q, hr q]
    split
    · rfl
    · rename_i hno
      rw [Records.corrected_of_spent h fun hvoid => hno (List.mem_filter.2 ⟨mem_allRanges q, decide_eq_true hvoid⟩)]

theorem State.correctJournal_of_neither (hj : z.scrub.job.map (fun j => j.journal) = st.journal.job)
    (hw : z.scrub.waiting = st.journal.waiting) (he : ¬st.ended) (hs : st.custody.state ≠ .spent) (c : CustodyRec) :
    (z.lay (st.keyEntries ++ st.globalEntries)).correctJournal =
        ({ z with scrub := { z.scrub with job := if st.stale then none else z.scrub.job } } : State).lay (st.corrections c) ∧
      ∀ q : RangeId, z.range q = .started (st.corrected q) := by
  refine ⟨?_, fun q => by rw [Records.corrected_of_neither he hs]; exact hr q⟩
  have hcorrections : st.corrections c = st.keyEntries ++ st.globalEntries ++
      if st.stale then [journalEntry ⟨none, st.journal.waiting⟩ .plain []] else [] := by
    rw [Records.corrections, Records.journalEntries, if_neg he, if_neg he, if_neg hs]
    rfl
  have hkind : ((z.lay (st.keyEntries ++ st.globalEntries)).scrub.job.map fun j => j.journal.kind) =
      st.journal.job.map fun x => x.kind := by
    rw [← hj, Option.map_map]
    rfl
  have hstate : (z.lay (st.keyEntries ++ st.globalEntries)).custody.state = st.custody.state := hc
  rw [hcorrections]
  by_cases hstale : st.stale
  · rw [if_pos hstale, if_pos hstale]
    have hproper : Proper (st.keyEntries ++ st.globalEntries ++ [journalEntry ⟨none, st.journal.waiting⟩ .plain []]) := by
      refine st.proper_global.append (proper_journal_custody _ CustodyRec.delivered).of_append_left fun e he e' he' hkey => ?_
      rw [List.mem_singleton.1 he'] at hkey
      exact Records.key_of_mem_global he (.inl hkey)
    have hgo : (z.lay (st.keyEntries ++ st.globalEntries)).correctJournal =
        ((z.setJob none).lay (st.keyEntries ++ st.globalEntries)).enter [] (journalEntry ⟨none, st.journal.waiting⟩ .plain []) := by
      obtain ⟨hscrubbing, hspent, hcustody⟩ := hstale
      rw [← hw]
      unfold State.correctJournal
      rw [hkind, hcustody, hstate]
      generalize st.custody.state = c at hscrubbing hspent
      cases c
      case scrubbing => exact absurd rfl hscrubbing
      case spent => exact absurd rfl hspent
      all_goals rfl
    rw [hgo, State.enter_lay_of_proper hproper]
    rfl
  · rw [if_neg hstale, if_neg hstale, List.append_nil]
    show _ = z.lay (st.keyEntries ++ st.globalEntries)
    unfold State.correctJournal
    rw [hkind, hstate]
    split
    · rename_i hscrubbing hnone
      exact absurd ⟨hscrubbing, Option.map_eq_none_iff.1 hnone⟩ he
    · rename_i hspent
      exact absurd hspent hs
    · rfl
    · rename_i hcustody hspent hscrubbing
      exact absurd ⟨hscrubbing, hspent, hcustody⟩ hstale
    · rfl

end

/-! ## The corrections together -/

/-- The state that the corrections leave, the ranges and keys given (R160 step 2). -/
def State.correctedAs (x : State) (st : Records) (v : Vector RangeEntry 16) (k : Vector KeyRec 16) : State :=
  { x with
    ranges := v
    keys := k
    scrub := { x.scrub with job := if st.stale ∨ st.ended then none else x.scrub.job }
    custody := { x.custody with state := if st.ended then .spent else st.custody.state } }

theorem State.Loads.corrections {st : Records} {x : State} (h : x.Loads st) :
    ∃ v k, (x.lay []).correctKeys.correctGlobal.correctJournal = (x.correctedAs st v k).lay (st.corrections x.endRecord) ∧
      (∀ q : RangeId, v[q.val] = .started (st.corrected q)) ∧ ∀ q : RangeId, k[q.val] = st.correctedKey q := by
  obtain ⟨k1, hkeys, hk1⟩ := h.correctKeys
  obtain ⟨v, k, hglobal, hv, hk⟩ := h.correctGlobal rfl hk1
  have hcustody : x.custody = { x.custody with state := st.custody.state } := by rw [← h.custody]
  rw [hkeys, hglobal]
  by_cases hended : st.ended
  · have hjob : x.scrub.job = none := Option.map_eq_none_iff.1 (h.job.trans hended.2)
    obtain ⟨v', hjournal, hv'⟩ := State.correctJournal_of_ended (z := { x with ranges := v, keys := k }) hv h.custody h.waiting
      hended hjob
    refine ⟨v', k, hjournal.trans ?_, hv', hk⟩
    rw [State.correctedAs, if_pos (show st.stale ∨ st.ended from .inr hended), if_pos hended]
    rfl
  · by_cases hspent : st.custody.state = .spent
    · obtain ⟨v', hjournal, hv'⟩ := State.correctJournal_of_spent (z := { x with ranges := v, keys := k }) hv h.custody hspent
        x.endRecord
      refine ⟨v', k, hjournal.trans ?_, hv', hk⟩
      rw [State.correctedAs, if_neg (show ¬(st.stale ∨ st.ended) from fun hc => hc.elim (fun hs => hs.2.1 hspent) hended), if_neg hended, ← hcustody]
    · obtain ⟨hjournal, hv'⟩ := State.correctJournal_of_neither (z := { x with ranges := v, keys := k }) hv h.custody h.job
        h.waiting hended hspent x.endRecord
      refine ⟨v, k, hjournal.trans ?_, hv', hk⟩
      rw [State.correctedAs, if_neg hended, ← hcustody, if_congr (or_iff_left hended) rfl rfl]

end Sys2Proof.Machine

/-!
PROOFS. What a start leaves of the state whatever triggers it takes (chapter 9): a predicate on the states of the start
instant that the triggers keep.
-/

namespace Sys2Proof.Machine

open Sys2Proof

/-- The fields of a state of the start instant, of the records that it meets. -/
structure State.Begun (st : Records) (cause : StartCause) (x : State) : Prop where
  boot : x.powered = true ∧ x.startMarker = true ∧ x.startCause = cause
  port : ∀ p, (x.port p).rxBuffer = [] ∧ (x.port p).replySlot = none ∧ (x.port p).inFlight = none ∧
    (x.port p).deferred = none
  records : x.challenge = none ∧ x.geometry = st.identity.geometry ∧ x.rootKey = st.identity.rootKey ∧
    x.authorities = st.authorities ∧ x.policy = st.policy ∧ x.pairing = st.pairing ∧ x.store = st
  tries : x.tries = cappedTries st ∧ x.backoff = startBackoff (cappedTries st)
  custody : x.custody.verdict = (if st.pairing.isSome then .pending else .absent) ∧ x.custody.window = 0 ∧
    x.custody.checkin = (restoredCustody st).checkin ∧ x.custody.checkinSecs = 0 ∧ x.custody.escalationSecs = 0 ∧
    x.custody.foreignCount = st.custody.foreignCount
  lane : x.lane.lanes.length = 4 ∧ x.lane.link = .down ∧ x.lane.silence = 0 ∧ x.lane.position = .lane 0 ∧
    x.lane.sent = none
  scrub : x.scrub.nextId = 1 ∧ (st.stale ∨ st.ended → x.scrub.job = none)
  mode : x.mode = .ofCustody x.custody.state
  stored : ∀ r, (x.range r).stored = st.corrected r
  key : ∀ r : RangeId, x.keys[r.val] = st.correctedKey r
  rights : ∀ r, (x.range r).holder = none ∧
    (r ≠ 0 ∨ st.custody.state ≠ .opened → (x.range r).hasRight = false ∧ (x.range r).lane = none)

theorem PortState.push_rest (q : PortState) (n : Notice) :
    (q.push n).rxBuffer = q.rxBuffer ∧ (q.push n).replySlot = q.replySlot ∧ (q.push n).inFlight = q.inFlight ∧
      (q.push n).deferred = q.deferred := by
  unfold PortState.push
  split <;> exact ⟨rfl, rfl, rfl, rfl⟩

/-- A port with nothing in it but notices. -/
def PortState.Idle (q : PortState) : Prop :=
  q.rxBuffer = [] ∧ q.replySlot = none ∧ q.inFlight = none ∧ q.deferred = none

theorem PortState.Idle.push {q : PortState} (h : q.Idle) (n : Notice) : (q.push n).Idle := by
  obtain ⟨hrx, hslot, hflight, hdeferred⟩ := q.push_rest n
  exact ⟨hrx.trans h.1, hslot.trans h.2.1, hflight.trans h.2.2.1, hdeferred.trans h.2.2.2⟩

theorem PortState.Idle.withdrawn {q : PortState} (h : q.Idle) : q.withdrawn = q :=
  PortState.withdrawn_of_no_hold fun b => by simp [h.2.2.1]

theorem State.scrub_storeResponse (y : State) (old : Custody) (acts : List Act) :
    (y.storeResponse old acts).scrub = y.scrub ∨
      (y.storeResponse old acts).scrub = { y.scrub with job := none, waiting := [] } := by
  have hgroup (j : JournalRec) (acts : List Act) :
      (y.discardScrub.enterEraseGroup j acts).scrub = { y.scrub with job := none, waiting := [] } := by
    obtain ⟨q, h, hframe⟩ := State.enter_frame []
      (eraseGroupEntry y.discardScrub.drawSecret.1 (y.discardScrub.custodyRec false true) j acts) y.discardScrub.drawSecret.2
    rw [State.enterEraseGroup, hframe]
    rfl
  unfold State.storeResponse
  split
  · obtain ⟨q, h, hframe⟩ := y.storeCustody_frame false true acts
    rw [hframe]
    exact .inl rfl
  · exact .inr (hgroup ..)
  · split
    · refine .inl ?_
      unfold State.storeScrubbing
      dsimp only
      split
      · rfl
      · obtain ⟨q, h, hframe⟩ := State.enterAll_frame [journalEntry ⟨some y.custodyJob, []⟩ .plain [],
          custodyEntry (y.custodyRec false false) (.custodyJobStored :: acts)] y
        rw [hframe]
    · exact .inr (hgroup ..)
  · exact .inl rfl

theorem Level.mode_target (l : Level) : Mode.ofCustody l.target = .blank := by cases l <;> rfl

section
variable {st : Records} {cause : StartCause} {x : State} (h : x.Begun st cause)
include h

theorem State.Begun.idle (p : Port) : (x.port p).Idle := h.port p

theorem State.Begun.storeResponse (old : Custody) (acts : List Act) : (x.storeResponse old acts).Begun st cause := by
  have hscrub : (x.storeResponse old acts).scrub.nextId = 1 ∧
      (st.stale ∨ st.ended → (x.storeResponse old acts).scrub.job = none) := by
    rcases x.scrub_storeResponse old acts with hs | hs <;> rw [hs]
    · exact h.scrub
    · exact ⟨h.scrub.1, fun _ => rfl⟩
  obtain ⟨sc, n, q, hd, hframe⟩ := x.storeResponse_frame old acts
  rw [hframe] at hscrub ⊢
  exact ⟨h.boot, h.port, h.records, h.tries, h.custody, h.lane, hscrub, h.mode, h.stored, h.key, h.rights⟩

theorem State.Begun.hidden (l : Level) : (x.hidden l).Begun st cause := by
  have hdrive : (x.hidden l).drive.Idle := by
    have hidle : x.drive.Idle := h.idle .drive
    show ((x.hiddenDrive l).push _).Idle
    refine PortState.Idle.push ?_ _
    unfold State.hiddenDrive
    rw [PortState.Idle.withdrawn hidle]
    dsimp only
    split
    · exact (hidle.push _).push _
    · exact hidle.push _
  have hrange (r : RangeId) : (x.hidden l).range r = (x.range r).locked := x.range_lockAll r
  refine ⟨h.boot, fun p => ?_, h.records, h.tries, ?_, ?_, h.scrub, l.mode_target.symm, fun r => ?_, h.key, fun r => ?_⟩
  · cases p with
    | drive => exact hdrive
    | platform => exact (h.idle .platform).push _
  · obtain ⟨hv, hw, hc, hs, -, hf⟩ := h.custody
    exact ⟨hv, hw, hc, hs, rfl, hf⟩
  · obtain ⟨hlen, hlink, hrest⟩ := h.lane
    refine ⟨(List.length_map _).trans hlen, ?_, hrest⟩
    exact (if_neg (by rw [hlink]; exact nofun)).trans hlink
  · rw [hrange]
    exact h.stored r
  · rw [hrange]
    exact ⟨rfl, fun hr => ⟨rfl, ((h.rights r).2 hr).2⟩⟩

theorem State.Begun.notify (k : NoticeKind) : (x.notifyBoth k).Begun st cause := by
  refine ⟨h.boot, fun p => ?_, h.records, h.tries, h.custody, h.lane, h.scrub, h.mode, h.stored, h.key, h.rights⟩
  cases p with
  | drive => exact (h.idle .drive).push _
  | platform => exact (h.idle .platform).push _

theorem State.Begun.deepened (hopen : x.custody.state ≠ .opened) (huse : x.custody.state.inUse = false) (l : Level) :
    (x.deepened l).Begun st cause := by
  refine ⟨h.boot, fun p => ?_, h.records, h.tries, h.custody, h.lane, h.scrub, ?_, h.stored, h.key, h.rights⟩
  · cases p with
    | drive => exact (h.idle .drive).push _
    | platform => exact (h.idle .platform).push _
  · refine h.mode.trans (Eq.trans ?_ l.mode_target.symm)
    generalize x.custody.state = c at hopen huse
    cases c
    case opened => exact absurd rfl hopen
    case guarded => cases huse
    case warned => cases huse
    all_goals rfl

theorem State.Begun.respond (l : Level) (acts : List Act) : (x.respond l acts).Begun st cause := by
  by_cases hl : x.responds l = true
  · rw [State.respond_eq hl]
    refine State.Begun.storeResponse ?_ _ _
    split
    · exact h.hidden l
    · rename_i huse
      exact h.deepened (State.responds_iff.1 hl).1 (Bool.eq_false_iff.2 huse) l
  · rw [State.respond_of_no_effect (Bool.eq_false_iff.2 hl)]
    exact h

theorem State.Begun.warn (hg : x.custody.state = .guarded) : x.warn.Begun st cause := by
  have hwarned : ({ x with custody := { x.custody with state := .warned } } : State).Begun st cause := by
    refine ⟨h.boot, h.port, h.records, h.tries, h.custody, h.lane, h.scrub, h.mode.trans ?_, h.stored, h.key, h.rights⟩
    rw [hg]
    rfl
  have hnoted := hwarned.notify .checkinDue
  obtain ⟨q, hd, hframe⟩ :=
    (({ x with custody := { x.custody with state := .warned } } : State).notifyBoth .checkinDue).storeCustody_frame false false []
  rw [State.warn, hframe]
  exact ⟨hnoted.boot, hnoted.port, hnoted.records, hnoted.tries, hnoted.custody, hnoted.lane, hnoted.scrub, hnoted.mode,
    hnoted.stored, hnoted.key, hnoted.rights⟩

theorem State.Begun.startWarning (b : Bool) : (x.startWarning b).Begun st cause := by
  unfold State.startWarning
  split
  · rename_i hdue
    simp only [Bool.and_eq_true, decide_eq_true_eq] at hdue
    exact h.warn hdue.1.2
  · split
    · exact h.notify .checkinDue
    · exact h

theorem State.Begun.startTriggers : x.startTriggers.Begun st cause := by
  have htake {a : State} (ha : a.Begun st cause) (c : Prop) [Decidable c] (t : Trigger) :
      (if c then a.take t else a).Begun st cause := by
    split
    · exact ha.respond ..
    · exact ha
  have hclock {a : State} (ha : a.Begun st cause) (c : Prop) [Decidable c] (b : Bool) :
      (if c then a.take .checkinExpired else a.startWarning b).Begun st cause := by
    split
    · exact ha.respond ..
    · exact ha.startWarning b
  have hescalate {a : State} (ha : a.Begun st cause) (c : Prop) [Decidable c] :
      (if c then a.respond a.custody.target [] else a).Begun st cause := by
    split
    · exact ha.respond ..
    · exact ha
  unfold State.startTriggers
  exact htake (hescalate (hclock (htake h _ _) _ _) _) _ _

end

end Sys2Proof.Machine

/-!
PROOFS. The start instant up to its triggers (R160): the load, the corrections and the presentation.
-/

namespace Sys2Proof.Machine

open Sys2Proof

theorem State.loads_load (s : State) (p : Bool) (c : StartCause) : (s.load p c).Loads s.store where
  range r := getElem_mapVec ..
  key _ := rfl
  custody := rfl
  job := by
    show (s.store.journal.job.map Job.ofJournal).map (fun j => j.journal) = s.store.journal.job
    rw [Option.map_map]
    exact congrFun Option.map_id _
  waiting := rfl

/-- The load of a start. -/
def State.startLoad (s : State) (kept : Bool) : State :=
  { s with startMarker := true }.load true (if kept && s.startMarker then .supplyDip else .powerOn)

/-- The state of a start before its triggers. -/
def State.startPresented (s : State) (kept : Bool) : State :=
  (s.startLoad kept).correctKeys.correctGlobal.correctJournal.choosePresentation

theorem State.start_eq (s : State) (kept : Bool) :
    s.start kept =
      (let x := (s.startPresented kept).startTriggers
      let y := { x with
        drive := startNotices x.epoch x.custody.state x.drive
        platform := startNotices x.epoch x.custody.state x.platform }
      if s.supplyWarning then y.placeFinal else y) := rfl

section
variable {s : State} {kept : Bool} {v : Vector RangeEntry 16} {k : Vector KeyRec 16} (l : List Entry)
  (hv : ∀ q : RangeId, v[q.val] = .started (s.store.corrected q)) (hk : ∀ q : RangeId, k[q.val] = s.store.correctedKey q)

/-- The corrected state of a start in its mode, range 0's rights apart. -/
def State.startMode (s : State) (kept : Bool) (v : Vector RangeEntry 16) (k : Vector KeyRec 16) (l : List Entry) : State :=
  { (((s.startLoad kept).correctedAs s.store v k).lay l) with
    mode := .ofCustody (if s.store.ended then .spent else s.store.custody.state) }

include hv hk in
theorem State.begun_startMode :
    (s.startMode kept v k l).Begun s.store (if kept && s.startMarker then .supplyDip else .powerOn) where
  boot := ⟨rfl, rfl, rfl⟩
  port p := by cases p <;> exact ⟨rfl, rfl, rfl, rfl⟩
  records := ⟨rfl, rfl, rfl, rfl, rfl, rfl, rfl⟩
  tries := ⟨rfl, rfl⟩
  custody := ⟨rfl, rfl, rfl, rfl, rfl, rfl⟩
  lane := ⟨rfl, rfl, rfl, rfl, rfl⟩
  scrub := ⟨rfl, fun h => if_pos h⟩
  mode := rfl
  stored r := congrArg RangeEntry.stored (hv r)
  key := hk
  rights r := ⟨congrArg RangeEntry.holder (hv r), fun _ =>
    ⟨congrArg RangeEntry.hasRight (hv r), congrArg RangeEntry.lane (hv r)⟩⟩

theorem State.startPresented_eq (s : State) (kept : Bool) :
    ∃ v k, (∀ q : RangeId, v[q.val] = .started (s.store.corrected q)) ∧ (∀ q : RangeId, k[q.val] = s.store.correctedKey q) ∧
      s.startPresented kept =
        let x := s.startMode kept v k (s.store.corrections (s.startLoad kept).endRecord)
        if s.store.custody.state = .opened then x.restoreGlobal else x := by
  obtain ⟨v, k, hcorrected, hv, hk⟩ :=
    (({ s with startMarker := true } : State).loads_load true (if kept && s.startMarker then .supplyDip else .powerOn)).corrections
  refine ⟨v, k, hv, hk, ?_⟩
  have hlay : (s.startLoad kept).lay [] = s.startLoad kept := rfl
  have hopened : (if s.store.ended then Custody.spent else s.store.custody.state) = .opened ↔
      s.store.custody.state = .opened := by
    split
    · rename_i h
      rw [h.1]
      exact ⟨nofun, nofun⟩
    · rfl
  rw [State.startPresented, ← hlay, show ((s.startLoad kept).lay []).correctKeys.correctGlobal.correctJournal = _ from hcorrected]
  exact if_congr hopened rfl rfl

theorem State.startMode_frees (s : State) (kept : Bool) (v : Vector RangeEntry 16) (k : Vector KeyRec 16) (l : List Entry) :
    (s.startMode kept v k l).laneAt 0 = some .initial ∧ (s.startMode kept v k l).lowestFree = some 0 := ⟨rfl, rfl⟩

include hv in
/-- In OPEN range 0 has both rights and lane 0, LOADING (R166). -/
theorem State.restoreGlobal_startMode : ∃ c,
    (s.startMode kept v k l).restoreGlobal =
      ((s.startMode kept v k l).setLanes ((s.startMode kept v k l).lane.lanes.set 0 (LaneRec.initial.bind 0 c))).setRange 0
        ⟨s.store.corrected 0, true, true, none, some 0⟩ := by
  obtain ⟨hlane, hfree⟩ := s.startMode_frees kept v k l
  have hzero : (s.startMode kept v k l).range 0 = .started (s.store.corrected 0) := hv 0
  refine ⟨(s.startMode kept v k l).checkCode 0, ?_⟩
  rw [State.restoreGlobal_of_free (by rw [hzero]; rfl) hfree, State.updLane_of_laneAt hlane, hzero]
  rfl

end

theorem State.begun_startPresented (s : State) (kept : Bool) :
    (s.startPresented kept).Begun s.store (if kept && s.startMarker then .supplyDip else .powerOn) := by
  obtain ⟨v, k, hv, hk, heq⟩ := s.startPresented_eq kept
  have hmode := State.begun_startMode (kept := kept) (s.store.corrections (s.startLoad kept).endRecord) hv hk
  rw [heq]
  dsimp only
  generalize s.store.corrections (s.startLoad kept).endRecord = l at *
  by_cases hopen : s.store.custody.state = .opened
  · rw [if_pos hopen]
    obtain ⟨c, hrestored⟩ := State.restoreGlobal_startMode (k := k) (kept := kept) l hv
    rw [hrestored]
    have hrange (r : RangeId) := State.range_setRange ((s.startMode kept v k l).setLanes
      ((s.startMode kept v k l).lane.lanes.set 0 (LaneRec.initial.bind 0 c))) 0 r
        ⟨s.store.corrected 0, true, true, none, some 0⟩
    refine ⟨hmode.boot, hmode.port, hmode.records, hmode.tries, hmode.custody, ?_, hmode.scrub, hmode.mode, fun r => ?_, hmode.key,
      fun r => ?_⟩
    · exact ⟨(List.length_set ..).trans hmode.lane.1, hmode.lane.2⟩
    · rw [hrange]
      split
      · rename_i hr
        rw [hr]
      · exact hmode.stored r
    · rw [hrange]
      split
      · rename_i hr
        exact ⟨rfl, fun hno => absurd hno (by simp [← hr, hopen])⟩
      · exact hmode.rights r
  · rw [if_neg hopen]
    exact hmode

end Sys2Proof.Machine

/-!
PROOFS. The triggers of a start (R160 step 3, R164), each against the state the one before it left (log entry 20).
-/

namespace Sys2Proof.Machine

open Sys2Proof

/-! ## What the triggers keep -/

/-- An operation that moves custody forward or not at all, and keeps the Scrub Controller below ERASED. -/
structure State.Forward (a b : State) : Prop where
  deepens : a.Deepens b
  scrub : b.custody.state.strength < 2 → b.scrub = a.scrub

theorem State.Forward.refl (s : State) : s.Forward s := ⟨.refl s, fun _ => rfl⟩

theorem State.Forward.trans {a b c : State} (h : a.Forward b) (h' : b.Forward c) : a.Forward c :=
  ⟨h.deepens.trans h'.deepens, fun hc => (h'.scrub hc).trans (h.scrub (Nat.lt_of_le_of_lt h'.deepens.strength hc))⟩

theorem State.Forward.ite {a b b' : State} (h : a.Forward b) (h' : a.Forward b') (c : Prop) [Decidable c] :
    a.Forward (if c then b else b') := by
  split <;> assumption

theorem Level.eq_conceal_of_target {l : Level} (h : l.target.strength < 2) : l = .conceal := by
  cases l with
  | conceal => rfl
  | erase => exact absurd h (by decide)
  | scrub => exact absurd h (by decide)

theorem State.forward_respond (s : State) (l : Level) (acts : List Act) : s.Forward (s.respond l acts) := by
  refine ⟨s.deepens_respond l acts, fun hlt => ?_⟩
  by_cases hr : s.responds l = true
  · have hopen := (State.responds_iff.1 hr).1
    obtain rfl := Level.eq_conceal_of_target (Nat.lt_of_le_of_lt (State.target_le_respond hopen l acts) hlt)
    rw [State.respond_eq hr]
    split
    · exact (State.storeResponse_fields (y := s.hidden .conceal) acts (l := .conceal) rfl).1 rfl
    · exact (State.storeResponse_fields (y := s.deepened .conceal) acts (l := .conceal) rfl).1 rfl
  · rw [State.respond_of_no_effect (Bool.eq_false_iff.2 hr)]

theorem State.forward_startWarning (s : State) (b : Bool) : s.Forward (s.startWarning b) := by
  unfold State.startWarning
  split
  · rename_i hdue
    simp only [Bool.and_eq_true, decide_eq_true_eq] at hdue
    refine ⟨State.deepens_warn hdue.1.2, fun _ => ?_⟩
    obtain ⟨q, hd, hframe⟩ :=
      (({ s with custody := { s.custody with state := .warned } } : State).notifyBoth .checkinDue).storeCustody_frame false false []
    rw [State.warn, hframe]
    rfl
  · split
    · exact ⟨⟨rfl, rfl, Nat.le_refl _, id⟩, fun _ => rfl⟩
    · exact .refl s

/-! ## The triggers in their order -/

/-- TRY_EXHAUSTION at a start. -/
def State.triesDue (x : State) : Bool := x.custody.state.inUse && x.policy.deviceTryLimit ≤ x.tries.device

/-- CHECKIN_EXPIRED at a start. -/
def State.expiredDue (x : State) : Bool := x.checkinCounting && x.policy.expiryPoint ≤ x.custody.checkin

/-- The escalation at a start. -/
def State.escalatesDue (x : State) : Bool := x.escalationCounting && x.policy.escalationLimit ≤ x.custody.escalation

/-- FOREIGN_START at a start. -/
def State.foreignDue (x : State) : Bool := x.custody.state.inUse && x.policy.foreignLimit ≤ x.custody.foreignCount

/-- The state behind TRY_EXHAUSTION. -/
def State.triedStart (x : State) : State := if x.triesDue then x.take .tryExhaustion else x

/-- The state behind the check-in clock's causes. -/
def State.clockedStart (x : State) : State :=
  if x.expiredDue then x.triedStart.take .checkinExpired else x.triedStart.startWarning x.checkinCounting

/-- The state behind the escalation. -/
def State.escalatedStart (x : State) : State :=
  if x.escalatesDue then x.clockedStart.respond x.clockedStart.custody.target [] else x.clockedStart

theorem State.startTriggers_eq (x : State) :
    x.startTriggers = if x.foreignDue then x.escalatedStart.take .foreignStart else x.escalatedStart := rfl

section
variable (x : State)

theorem State.forward_triedStart : x.Forward x.triedStart := (x.forward_respond _ _).ite (.refl x) _

theorem State.forward_clockedStart : x.triedStart.Forward x.clockedStart :=
  (x.triedStart.forward_respond _ _).ite (x.triedStart.forward_startWarning _) _

theorem State.forward_escalatedStart : x.clockedStart.Forward x.escalatedStart :=
  (x.clockedStart.forward_respond _ _).ite (.refl _) _

theorem State.forward_lastTrigger : x.escalatedStart.Forward x.startTriggers :=
  (x.escalatedStart.forward_respond _ _).ite (.refl _) _

theorem State.forward_startTriggers : x.Forward x.startTriggers :=
  (x.forward_triedStart.trans x.forward_clockedStart).trans (x.forward_escalatedStart.trans x.forward_lastTrigger)

end

section
variable {x : State}

theorem State.tries_le_startTriggers (hopen : x.custody.state ≠ .opened) (h : x.triesDue = true) :
    x.policy.tryExhaustion.target.strength ≤ x.startTriggers.custody.state.strength := by
  have htried : x.triedStart = x.respond x.policy.tryExhaustion [] := if_pos h
  have hle : x.policy.tryExhaustion.target.strength ≤ x.triedStart.custody.state.strength :=
    htried ▸ State.target_le_respond hopen _ _
  exact hle.trans (x.forward_clockedStart.trans (x.forward_escalatedStart.trans x.forward_lastTrigger)).deepens.strength

theorem State.expired_le_startTriggers (hopen : x.custody.state ≠ .opened) (h : x.expiredDue = true) :
    x.policy.checkinExpired.target.strength ≤ x.startTriggers.custody.state.strength := by
  have hclocked : x.clockedStart = x.triedStart.respond x.triedStart.policy.checkinExpired [] := if_pos h
  have hle : x.triedStart.policy.checkinExpired.target.strength ≤ x.clockedStart.custody.state.strength :=
    hclocked ▸ State.target_le_respond (x.forward_triedStart.deepens.opened hopen) _ _
  rw [x.forward_triedStart.deepens.policy] at hle
  exact hle.trans (x.forward_escalatedStart.trans x.forward_lastTrigger).deepens.strength

theorem State.foreign_le_startTriggers (hopen : x.custody.state ≠ .opened) (h : x.foreignDue = true) :
    x.policy.foreignStart.target.strength ≤ x.startTriggers.custody.state.strength := by
  have hbefore := x.forward_triedStart.trans (x.forward_clockedStart.trans x.forward_escalatedStart)
  have hlast : x.startTriggers = x.escalatedStart.respond x.escalatedStart.policy.foreignStart [] := if_pos h
  rw [hlast, ← hbefore.deepens.policy]
  exact State.target_le_respond (hbefore.deepens.opened hopen) _ _

theorem State.startTriggers_of_none (ht : x.triesDue = false) (he : x.expiredDue = false) (hx : x.escalatesDue = false)
    (hf : x.foreignDue = false) : x.startTriggers = x.startWarning x.checkinCounting := by
  have htried : x.triedStart = x := if_neg (by simp [ht])
  have hclocked : x.clockedStart = x.triedStart.startWarning x.checkinCounting := if_neg (by simp [he])
  have hescalated : x.escalatedStart = x.clockedStart := if_neg (by simp [hx])
  rw [State.startTriggers_eq, if_neg (by simp [hf]), hescalated, hclocked, htried]

theorem State.startWarning_of_neither {b : Bool}
    (hg : ¬(b = true ∧ x.custody.state = .guarded ∧ x.policy.warningPoint ≤ x.custody.checkin))
    (hw : x.custody.state ≠ .warned) : x.startWarning b = x := by
  unfold State.startWarning
  rw [if_neg (by simpa [and_assoc] using hg), if_neg hw]

/-- Outside GUARDED and WARNED the escalation alone can be due. -/
theorem State.clockedStart_of_idle (huse : x.custody.state.inUse = false) : x.clockedStart = x ∧ x.foreignDue = false := by
  have hcounting : x.checkinCounting = false := by simp [State.checkinCounting, huse]
  have htried : x.triedStart = x := if_neg (by simp [State.triesDue, huse])
  have hclocked : x.clockedStart = x.triedStart.startWarning x.checkinCounting :=
    if_neg (by simp [State.expiredDue, hcounting])
  have hwarned : x.custody.state ≠ .warned := by
    intro h
    rw [h] at huse
    cases huse
  refine ⟨?_, by simp [State.foreignDue, huse]⟩
  rw [hclocked, htried]
  exact State.startWarning_of_neither (by simp [hcounting]) hwarned

theorem State.startTriggers_of_idle (huse : x.custody.state.inUse = false) (hx : x.escalatesDue = false) :
    x.startTriggers = x := by
  obtain ⟨hclocked, hforeign⟩ := State.clockedStart_of_idle huse
  have hescalated : x.escalatedStart = x.clockedStart := if_neg (by simp [hx])
  rw [State.startTriggers_eq, if_neg (by simp [hforeign]), hescalated, hclocked]

theorem State.startTriggers_of_escalation (huse : x.custody.state.inUse = false) (hx : x.escalatesDue = true) :
    x.startTriggers = x.respond x.custody.target [] := by
  obtain ⟨hclocked, hforeign⟩ := State.clockedStart_of_idle huse
  have hescalated : x.escalatedStart = x.clockedStart.respond x.clockedStart.custody.target [] := if_pos hx
  rw [State.startTriggers_eq, if_neg (by simp [hforeign]), hescalated, hclocked]

end

end Sys2Proof.Machine

/-!
PROOFS. A start in terms of the records (R160 to R166): what the triggers meet, the commits and the notices.
-/

namespace Sys2Proof.Machine

open Sys2Proof

/-! ## The state that the triggers meet -/

theorem restoredClock_eq (v limit : Nat) (e : Bool) :
    restoredClock v limit e = if e = true ∨ limit = 0 then v else min (v + 15) limit := by
  simp [restoredClock, Config.checkpointMinutes]

/-- The custody state that the corrections leave. -/
def Records.startCustody (st : Records) : Custody := if st.ended then .spent else st.custody.state

theorem State.startPresented_rest (s : State) (kept : Bool) :
    let x := s.startPresented kept
    let l := s.store.corrections (s.startLoad kept).endRecord
    x.custody = { restoredCustody s.store with state := s.store.startCustody } ∧ x.epoch = 0 ∧
      x.scrub = ⟨if s.store.stale ∨ s.store.ended then none else s.store.journal.job.map Job.ofJournal,
        s.store.journal.waiting, 1⟩ ∧
      x.queue = l.take 4 ∧ x.held = l.drop 4 ∧ x.drive = .empty ∧ x.platform = .empty := by
  obtain ⟨v, k, -, -, heq⟩ := s.startPresented_eq kept
  obtain ⟨la, v', hrestored⟩ := (s.startMode kept v k (s.store.corrections (s.startLoad kept).endRecord)).restoreGlobal_frame
  dsimp only
  rw [heq]
  by_cases hopen : s.store.custody.state = .opened
  · dsimp only
    rw [if_pos hopen, hrestored]
    exact ⟨rfl, rfl, rfl, rfl, rfl, rfl, rfl⟩
  · dsimp only
    rw [if_neg hopen]
    exact ⟨rfl, rfl, rfl, rfl, rfl, rfl, rfl⟩

theorem Records.startCustody_of_inUse {st : Records} (h : st.custody.state = .guarded ∨ st.custody.state = .warned) :
    st.startCustody = st.custody.state := by
  refine if_neg fun hended => ?_
  rcases h with h | h <;> rw [hended.1] at h <;> cases h

theorem Records.inUse_startCustody (st : Records) :
    st.startCustody.inUse = true ↔ st.custody.state = .guarded ∨ st.custody.state = .warned := by
  rw [← Custody.inUse_iff]
  unfold Records.startCustody
  split
  · rename_i h
    rw [h.1]
    decide
  · rfl

theorem Records.startCustody_eq_concealed (st : Records) : st.startCustody = .concealed ↔ st.custody.state = .concealed := by
  unfold Records.startCustody
  split
  · rename_i h
    rw [h.1]
    decide
  · rfl

theorem Records.startCustody_eq_opened (st : Records) : st.startCustody = .opened ↔ st.custody.state = .opened := by
  unfold Records.startCustody
  split
  · rename_i h
    rw [h.1]
    decide
  · rfl

section
variable {st : Records} {cause : StartCause} {x : State} (h : x.Begun st cause) (hstate : x.custody.state = st.startCustody)
include h hstate

theorem State.Begun.triesDue_iff : x.triesDue = true ↔
    (st.custody.state = .guarded ∨ st.custody.state = .warned) ∧ st.policy.deviceTryLimit ≤ st.tries.device := by
  obtain ⟨-, -, -, -, hpolicy, -, -⟩ := h.records
  rw [State.triesDue, Bool.and_eq_true, decide_eq_true_iff, hstate, st.inUse_startCustody, hpolicy, h.tries.1]
  refine and_congr_right fun _ => ?_
  show st.policy.deviceTryLimit ≤ min st.tries.device st.policy.deviceTryLimit ↔ _
  omega

theorem State.Begun.counting_iff : x.checkinCounting = true ↔
    (st.custody.state = .guarded ∨ st.custody.state = .warned) ∧ st.policy.checkinPeriod ≠ 0 ∧ st.pairing.isSome = true := by
  obtain ⟨-, -, -, -, hpolicy, hpairing, -⟩ := h.records
  rw [State.checkinCounting, Bool.and_eq_true, Bool.and_eq_true, hstate, st.inUse_startCustody, hpolicy, hpairing, bne_iff_ne,
    and_assoc]

theorem State.Begun.expiredDue_iff : x.expiredDue = true ↔
    ((st.custody.state = .guarded ∨ st.custody.state = .warned) ∧ st.policy.checkinPeriod ≠ 0 ∧ st.pairing.isSome = true) ∧
      st.policy.checkinPeriod * 60 ≤ (restoredCustody st).checkin := by
  obtain ⟨-, -, -, -, hpolicy, -, -⟩ := h.records
  obtain ⟨-, -, hcheckin, -⟩ := h.custody
  rw [State.expiredDue, Bool.and_eq_true, decide_eq_true_iff, h.counting_iff hstate, hpolicy, hcheckin]
  rfl

theorem State.Begun.foreignDue_iff : x.foreignDue = true ↔
    (st.custody.state = .guarded ∨ st.custody.state = .warned) ∧ st.policy.foreignLimit ≤ st.custody.foreignCount := by
  obtain ⟨-, -, -, -, hpolicy, -, -⟩ := h.records
  obtain ⟨-, -, -, -, -, hforeign⟩ := h.custody
  rw [State.foreignDue, Bool.and_eq_true, decide_eq_true_iff, hstate, st.inUse_startCustody, hpolicy, hforeign]

theorem State.Begun.escalatesDue_iff {e : Nat} (he : x.custody.escalation = e) : x.escalatesDue = true ↔
    st.custody.state = .concealed ∧ st.policy.concealHold ≠ 0 ∧ st.policy.concealHold * 60 ≤ e := by
  obtain ⟨-, -, -, -, hpolicy, -, -⟩ := h.records
  rw [State.escalatesDue, State.escalationCounting, Bool.and_eq_true, Bool.and_eq_true, decide_eq_true_iff, decide_eq_true_iff,
    hstate, st.startCustody_eq_concealed, hpolicy, bne_iff_ne, and_assoc, he]
  rfl

end

/-! ## The corrections' commits -/

theorem Records.one_of_mem_corrections {st : Records} {c : CustodyRec} {e : Entry} (he : e ∈ st.corrections c) : e.One := by
  have hpicked {f : RangeId → Bool} (he : e ∈ st.pickedEntries f) : e.One := (st.proper_pickedEntries f).1 e he
  rcases List.mem_append.1 he with he | he
  · rcases List.mem_append.1 he with he | he
    · exact st.proper_keyEntries.1 e he
    · split at he
      · rcases List.mem_cons.1 he with rfl | he
        · exact Entry.one_keyErase 0
        · split at he
          · cases he
          · rw [List.mem_singleton.1 he]
            exact Entry.one_range ..
      · cases he
  · unfold Records.journalEntries at he
    split at he
    · rcases List.mem_append.1 (show e ∈ [journalEntry ⟨none, st.journal.waiting⟩ .plain [], custodyEntry c []] ++
        st.pickedEntries fun r => st.ranges[r.val].isSome from he) with he | he
      · exact (proper_journal_custody ..).1 e he
      · exact hpicked he
    · split at he
      · exact hpicked he
      · split at he
        · rw [List.mem_singleton.1 he]
          exact ⟨_, _, rfl, rfl⟩
        · cases he

theorem length_flatMap_writes {l : List Entry} (h : ∀ e ∈ l, e.One) : (l.flatMap fun e => e.writes).length = l.length := by
  induction l with
  | nil => rfl
  | cons e l ih =>
    obtain ⟨r, w, rfl, -⟩ := h e (List.mem_cons_self ..)
    rw [List.flatMap_cons, List.length_append, ih fun e he => h e (List.mem_cons_of_mem _ he)]
    exact Nat.add_comm ..

/-- The writes of the corrections in their order. -/
def Records.correctedWrites (st : Records) (c : CustodyRec) : List RecordWrite :=
  ((allRanges.filter st.orphan).map .eraseKey) ++
    (if st.left then .eraseKey 0 :: (if st.ended then [] else [.range 0 (st.corrected 0)]) else []) ++
    (if st.ended then .journal ⟨none, st.journal.waiting⟩ .plain :: .custody c ::
        (allRanges.filter fun r => st.ranges[r.val].isSome).map fun r => .range r (st.corrected r)
      else if st.custody.state = .spent then
        (allRanges.filter fun r => decide (st.found r = some .void)).map fun r => .range r (st.corrected r)
      else if st.stale then [.journal ⟨none, st.journal.waiting⟩ .plain] else [])

theorem flatMap_writes_map {f : RangeId → Entry} {g : RangeId → RecordWrite} (h : ∀ r, (f r).writes = [g r]) (rs : List RangeId) :
    ((rs.map f).flatMap fun e => e.writes) = rs.map g := by
  induction rs with
  | nil => rfl
  | cons r rs ih =>
    rw [List.map_cons, List.flatMap_cons, ih, h r]
    rfl

theorem Records.globalled_zero_eq {st : Records} (hleft : st.left) (hended : ¬st.ended) : st.globalled 0 = st.corrected 0 := by
  by_cases hspent : st.custody.state = .spent
  · refine (Records.corrected_of_spent hspent ?_).symm
    rw [hleft.1]
    exact nofun
  · exact (Records.corrected_of_neither hended hspent 0).symm

theorem Records.writes_corrections (st : Records) (c : CustodyRec) :
    ((st.corrections c).flatMap fun e => e.writes) = st.correctedWrites c := by
  have hpicked (f : RangeId → Bool) : ((st.pickedEntries f).flatMap fun e => e.writes) =
      (allRanges.filter f).map fun r => .range r (st.corrected r) := flatMap_writes_map (fun _ => rfl) _
  have hkeys : (st.keyEntries.flatMap fun e => e.writes) = (allRanges.filter st.orphan).map .eraseKey :=
    flatMap_writes_map (fun _ => rfl) _
  rw [Records.corrections, List.flatMap_append, List.flatMap_append, hkeys, Records.correctedWrites]
  refine congrArg₂ (· ++ ·) (congrArg (_ ++ ·) ?_) ?_
  · split
    · rename_i hleft
      split
      · rfl
      · rename_i hended
        rw [Records.globalled_zero_eq hleft hended]
        rfl
    · rfl
  · unfold Records.journalEntries
    split
    · rw [List.flatMap_cons, List.flatMap_cons, hpicked]
      rfl
    · split
      · exact hpicked _
      · split <;> rfl

/-! ## The escalation of a start -/

/-- A group that enters stands in the queue or is held. -/
theorem State.exists_eraseGroup_enter {y : State} {w : Entry} (hw : w.key = .eraseGroup) :
    ∃ e ∈ (y.enter [] w).queue ++ (y.enter [] w).held, e.key = .eraseGroup := by
  have hfollows (l : List Entry) : (l.any fun e => ([] : List EntryKey).any e.holds) = false := by simp
  have hmerged {x : Entry} (hx : x.holds w.key = true) : (x.merge w).key = .eraseGroup := by
    rw [hw] at hx
    exact (x.merge_key w).trans (Entry.key_of_holds_eraseGroup hx)
  unfold State.enter
  simp only [hfollows, Bool.false_eq_true, if_false]
  split
  · rename_i b x a hsplit
    exact ⟨x.merge w, by simp, hmerged (splitLast_some hsplit).2.1⟩
  · split
    · rename_i b x a hsplit
      exact ⟨x.merge w, by simp, hmerged (splitLast_some hsplit).2.1⟩
    · split
      · exact ⟨w, by simp, hw⟩
      · exact ⟨w, by simp, hw⟩

/-- A response from CONCEALED to ERASED or SCRUBBING enters a Key-erase group. -/
theorem State.exists_eraseGroup_respond {x : State} (hx : x.custody.state = .concealed) {l : Level} (hl : l ≠ .conceal) :
    (∃ e ∈ (x.respond l []).queue ++ (x.respond l []).held, e.key = .eraseGroup) ∧
      (x.respond l []).custody = { x.custody with state := l.target } ∧ (x.respond l []).epoch = x.epoch ∧
      (x.respond l []).scrub.job = none ∧ (x.respond l []).scrub.waiting = [] ∧
      (x.respond l []).drive = x.drive.push (x.responseNote l) ∧
      (x.respond l []).platform = x.platform.push (x.responseNote l) := by
  have huse : x.custody.state.inUse = false := by rw [hx]; rfl
  have hresponds : x.responds l = true := by
    refine State.responds_iff.2 ⟨by rw [hx]; exact nofun, ?_⟩
    rw [hx]
    cases l with
    | conceal => exact absurd rfl hl
    | erase => decide
    | scrub => decide
  have hstored : ∃ j acts, (x.deepened l).storeResponse .concealed [] = (x.deepened l).discardScrub.enterEraseGroup j acts := by
    cases l with
    | conceal => exact absurd rfl hl
    | erase => exact ⟨_, _, State.storeResponse_of_erase rfl _ _⟩
    | scrub => exact ⟨_, _, State.storeResponse_of_scrub (x := x.deepened .scrub) (old := .concealed) rfl (by decide) []⟩
  obtain ⟨hjob, hwaiting, -⟩ := (State.storeResponse_fields (y := x.deepened l) (old := .concealed) [] (l := l) rfl).2 hl nofun
  obtain ⟨sc, n, q, hd, hframe⟩ := (x.deepened l).storeResponse_frame .concealed []
  have hrespond : x.respond l [] = (x.deepened l).storeResponse .concealed [] := by
    rw [State.respond_of_hidden huse hresponds, hx]
  rw [hrespond]
  refine ⟨?_, by rw [hframe]; rfl, by rw [hframe]; rfl, hjob, hwaiting, by rw [hframe]; rfl, by rw [hframe]; rfl⟩
  obtain ⟨j, acts, hgroup⟩ := hstored
  rw [hgroup]
  exact State.exists_eraseGroup_enter rfl

/-! ## The end of the start instant -/

theorem State.start_frame (s : State) (kept : Bool) :
    let x := (s.startPresented kept).startTriggers
    ∃ q, s.start kept =
        { x with
          drive := startNotices x.epoch x.custody.state x.drive
          platform := startNotices x.epoch x.custody.state x.platform
          queue := q } ∧
      (s.supplyWarning = false → q = x.queue) ∧ ∀ e ∈ x.queue, e ∈ q := by
  intro x
  obtain ⟨y, hy⟩ : ∃ y : State, y = { x with
    drive := startNotices x.epoch x.custody.state x.drive
    platform := startNotices x.epoch x.custody.state x.platform } := ⟨_, rfl⟩
  have hstart : s.start kept = if s.supplyWarning then y.placeFinal else y := by
    rw [hy]
    exact s.start_eq kept
  by_cases hw : s.supplyWarning = true
  · rw [hstart, if_pos hw]
    unfold State.placeFinal
    split
    · rw [hy]
      exact ⟨x.queue, rfl, fun _ => rfl, fun e he => he⟩
    · refine ⟨y.queue.take 1 ++ ⟨.final, y.finalWrites, []⟩ :: y.queue.tail, by rw [hy], fun hf => ?_, fun e he => ?_⟩
      · rw [hw] at hf
        cases hf
      · have hqueue : y.queue = x.queue := by rw [hy]
        rw [hqueue]
        rw [← List.take_append_drop 1 x.queue, List.mem_append, List.drop_one] at he
        exact he.elim (List.mem_append_left _) fun he => List.mem_append_right _ (List.mem_cons_of_mem _ he)
  · rw [hstart, if_neg hw, hy]
    exact ⟨x.queue, rfl, fun _ => rfl, fun e he => he⟩

theorem startNotices_rest (e : Epoch) (c : Custody) (q : PortState) :
    (q.Idle → (startNotices e c q).Idle) ∧ ∀ n ∈ (startNotices e c q).notices, n.kind ≠ .presentationChanged := by
  refine ⟨id, fun n hn => ?_⟩
  obtain ⟨m, hm, rfl⟩ := List.mem_map.1 hn
  simpa using (List.mem_filter.1 hm).2

/-- The port of an escalation at a start: its CUSTODY_CHANGED alone. -/
theorem kinds_startNotices_push (e : Epoch) (c : Custody) (n : Notice) (h : n.kind = .custodyChanged) :
    (startNotices e c (PortState.empty.push n)).notices.map (fun n => n.kind) = [.custodyChanged] := by
  have hpush : (PortState.empty.push n).notices = [n] := PortState.notices_push_of_room (q := .empty) rfl (by decide) n
  simp [startNotices, hpush, h]

end Sys2Proof.Machine

/-!
PROOFS. A start's outcomes by the custody state that is stored (R160 to R166).
-/

namespace Sys2Proof.Machine

open Sys2Proof

/-- The failure counts and the backoff timers of a start (R72, R82). -/
theorem failures_cappedTries (st : Records) (a : AuthId) :
    (cappedTries st).failures[a.val] = min st.tries.failures[a.val] st.authorities[a.val].tryLimit ∧
      (startBackoff (cappedTries st))[a.val] = backoffOf (cappedTries st).failures[a.val] :=
  ⟨Vector.getElem_ofFn .., getElem_mapVec ..⟩

section
variable (s : State) (kept : Bool)

theorem State.startPresented_state : (s.startPresented kept).custody.state = s.store.startCustody := by
  obtain ⟨hcustody, -⟩ := s.startPresented_rest kept
  rw [hcustody]

/-- A start whose state holds no cause changes nothing more (R160 step 3). -/
theorem State.startTriggers_startPresented_of_idle (huse : ¬(s.store.custody.state = .guarded ∨ s.store.custody.state = .warned))
    (hesc : ¬(s.store.custody.state = .concealed ∧ s.store.policy.concealHold ≠ 0 ∧
      s.store.policy.concealHold * 60 ≤ (restoredCustody s.store).escalation)) :
    (s.startPresented kept).startTriggers = s.startPresented kept := by
  have hbegun := s.begun_startPresented kept
  have hstate := s.startPresented_state kept
  obtain ⟨hcustody, -⟩ := s.startPresented_rest kept
  refine State.startTriggers_of_idle (Bool.eq_false_iff.2 fun h => huse ?_) (Bool.eq_false_iff.2 fun h => hesc ?_)
  · rw [hstate] at h
    exact (s.store.inUse_startCustody).1 h
  · exact (hbegun.escalatesDue_iff hstate (by rw [hcustody])).1 h

/-- In OPEN range 0 has both rights and lane 0, LOADING (R166). -/
theorem State.startPresented_of_opened (hopen : s.store.custody.state = .opened) :
    ∃ c e, (s.startPresented kept).range 0 = ⟨c, true, true, none, some 0⟩ ∧
      (s.startPresented kept).laneAt 0 = some (LaneRec.initial.bind 0 e) := by
  obtain ⟨v, k, hv, hk, heq⟩ := s.startPresented_eq kept
  obtain ⟨e, hrestored⟩ := State.restoreGlobal_startMode (k := k) (kept := kept) (s.store.corrections (s.startLoad kept).endRecord) hv
  dsimp only at heq
  rw [if_pos hopen, hrestored] at heq
  rw [heq]
  exact ⟨_, e, State.range_setRange_self .., rfl⟩

/-- In GUARDED or WARNED with no cause the drive is WARNED where it was, or where the warning point is met (R119). -/
theorem State.startTriggers_of_quiet (huse : s.store.custody.state = .guarded ∨ s.store.custody.state = .warned)
    (ht : (s.startPresented kept).triesDue = false) (he : (s.startPresented kept).expiredDue = false)
    (hf : (s.startPresented kept).foreignDue = false) :
    (s.startPresented kept).startTriggers.epoch = 0 ∧ (s.startPresented kept).startTriggers.custody.state =
      if s.store.custody.state = .warned ∨ (s.startPresented kept).checkinCounting = true ∧
        s.store.policy.warningPoint ≤ (restoredCustody s.store).checkin then .warned else .guarded := by
  have hbegun := s.begun_startPresented kept
  have hstate := (s.startPresented_state kept).trans (Records.startCustody_of_inUse huse)
  obtain ⟨hcustody, hepoch, -⟩ := s.startPresented_rest kept
  obtain ⟨-, -, -, -, hpolicy, -, -⟩ := hbegun.records
  have hx : (s.startPresented kept).escalatesDue = false := by
    refine Bool.eq_false_iff.2 fun h => ?_
    have hconcealed := ((hbegun.escalatesDue_iff (s.startPresented_state kept) rfl).1 h).1
    rcases huse with h | h <;> rw [h] at hconcealed <;> cases hconcealed
  rw [State.startTriggers_of_none ht he hx hf]
  obtain ⟨x, hxdef⟩ : ∃ x, x = s.startPresented kept := ⟨_, rfl⟩
  have hcheckin : x.custody.checkin = (restoredCustody s.store).checkin := by rw [hxdef, hcustody]
  rw [← hxdef] at hstate hepoch hpolicy ⊢
  rw [← hpolicy, ← hcheckin, ← hstate]
  have hin : x.custody.state = .guarded ∨ x.custody.state = .warned := hstate.symm ▸ huse
  unfold State.startWarning
  split
  · rename_i hdue
    simp only [Bool.and_eq_true, decide_eq_true_eq] at hdue
    obtain ⟨⟨hcounting, -⟩, hpoint⟩ := hdue
    obtain ⟨q, hd, hframe⟩ :=
      (({ x with custody := { x.custody with state := .warned } } : State).notifyBoth .checkinDue).storeCustody_frame false false []
    rw [if_pos (.inr ⟨hcounting, hpoint⟩), State.warn, hframe]
    exact ⟨hepoch, rfl⟩
  · rename_i hdue
    split
    · rename_i hwarned
      exact ⟨hepoch, hwarned.trans (if_pos (.inl hwarned)).symm⟩
    · rename_i hwarned
      have hguarded := hin.resolve_right hwarned
      refine ⟨hepoch, hguarded.trans (if_neg ?_).symm⟩
      rintro (h | ⟨hcounting, hpoint⟩)
      · exact hwarned h
      · exact hdue (by simp [hcounting, hguarded, hpoint])

/-- The commits of a start without a cause and without a new WARNED are those of the corrections (R160 step 2). -/
theorem State.queue_startTriggers_of_quiet (ht : (s.startPresented kept).triesDue = false)
    (he : (s.startPresented kept).expiredDue = false) (hx : (s.startPresented kept).escalatesDue = false)
    (hf : (s.startPresented kept).foreignDue = false)
    (hw : ¬((s.startPresented kept).checkinCounting = true ∧ (s.startPresented kept).custody.state = .guarded ∧
      (s.startPresented kept).policy.warningPoint ≤ (s.startPresented kept).custody.checkin)) :
    (s.startPresented kept).startTriggers.queue = (s.startPresented kept).queue ∧
      (s.startPresented kept).startTriggers.held = (s.startPresented kept).held := by
  rw [State.startTriggers_of_none ht he hx hf]
  generalize s.startPresented kept = x at hw ⊢
  unfold State.startWarning
  rw [if_neg (by simpa [and_assoc] using hw)]
  split <;> exact ⟨rfl, rfl⟩

/-- The job and the list below ERASED, and in SCRUBBING (R159). -/
theorem State.scrub_startTriggers (h : (s.startPresented kept).startTriggers.custody.state.strength < 2 ∨
    s.store.custody.state = .scrubbing) :
    (s.startPresented kept).startTriggers.scrub = (s.startPresented kept).scrub := by
  rcases h with h | h
  · exact (s.startPresented kept).forward_startTriggers.scrub h
  · rw [s.startTriggers_startPresented_of_idle kept (by simp [h]) (by simp [h])]

/-- What a start whose escalation clock stands at its limit leaves (R164). -/
theorem State.startTriggers_of_escalates (hesc : s.store.custody.state = .concealed ∧ s.store.policy.concealHold ≠ 0 ∧
      s.store.policy.concealHold * 60 ≤ (restoredCustody s.store).escalation) (ht : s.store.custody.target ≠ .conceal) :
    let y := (s.startPresented kept).startTriggers
    (∃ e ∈ y.queue ++ y.held, e.key = .eraseGroup) ∧
      y.custody = { restoredCustody s.store with state := s.store.custody.target.target } ∧ y.epoch = 0 ∧
      y.scrub.job = none ∧ y.scrub.waiting = [] ∧
      y.drive = PortState.empty.push ((s.startPresented kept).responseNote s.store.custody.target) ∧
      y.platform = PortState.empty.push ((s.startPresented kept).responseNote s.store.custody.target) := by
  have hbegun := s.begun_startPresented kept
  have hstate := s.startPresented_state kept
  obtain ⟨hcustody, hepoch, -, -, -, hdrive, hplatform⟩ := s.startPresented_rest kept
  have hconcealed : (s.startPresented kept).custody.state = .concealed :=
    hstate.trans ((s.store.startCustody_eq_concealed).2 hesc.1)
  have htarget : (s.startPresented kept).custody.target = s.store.custody.target :=
    (congrArg CustodyCtl.target hcustody).trans rfl
  have hdue : (s.startPresented kept).escalatesDue = true := (hbegun.escalatesDue_iff hstate (by rw [hcustody])).2 hesc
  obtain ⟨hgroup, hcustody', hepoch', hjob, hwaiting, hdrive', hplatform'⟩ :=
    State.exists_eraseGroup_respond hconcealed ht
  intro y
  have hy : y = (s.startPresented kept).respond s.store.custody.target [] := by
    rw [← htarget]
    exact State.startTriggers_of_escalation (by rw [hconcealed]; rfl) hdue
  rw [hy]
  refine ⟨hgroup, ?_, hepoch'.trans hepoch, hjob, hwaiting, ?_, ?_⟩
  · rw [hcustody', hcustody]
  · rw [hdrive', hdrive]
  · rw [hplatform', hplatform]

end

end Sys2Proof.Machine

/-!
PROOFS. The start instant rebuilds the device from its records (R150, R160 to R167; O54).
-/

namespace Sys2Proof.Machine

open Sys2Proof

/-- Settles O54: the fields that no trigger changes, then a case for each custody state stored, for the job, and for the
commits of the corrections; the loss of power last. -/
theorem startRebuildsTheDevice : Obligations.StartRebuildsTheDevice := by
  intro s st inUse restored failures p clock counting margin tries expired foreign c hold escalates warns found orphan left
    ended corrected present stale writes
  refine ⟨fun kept => ?_, fun hp => ?_⟩
  · have hbegun := (s.begun_startPresented kept).startTriggers
    have hframe := s.start_frame kept
    obtain ⟨y, hy⟩ : ∃ y, y = (s.startPresented kept).startTriggers := ⟨_, rfl⟩
    dsimp only at hframe
    rw [← hy] at hframe hbegun
    obtain ⟨q, hstart, hquiet, hkept⟩ := hframe
    have hclock : (restoredCustody st).checkin = clock := restoredClock_eq ..
    have hhold : (restoredCustody st).escalation = hold := restoredClock_eq ..
    have hfirst := s.begun_startPresented kept
    have hstate := s.startPresented_state kept
    obtain ⟨hcustody₀, hepoch₀, hscrub₀, hqueue₀, hheld₀, -⟩ := s.startPresented_rest kept
    have htries : (s.startPresented kept).triesDue = true ↔ tries := hfirst.triesDue_iff hstate
    have hexpired : (s.startPresented kept).expiredDue = true ↔ expired := by
      refine (hfirst.expiredDue_iff hstate).trans ?_
      rw [hclock]
    have hforeigns : (s.startPresented kept).foreignDue = true ↔ foreign := hfirst.foreignDue_iff hstate
    have hescalates : (s.startPresented kept).escalatesDue = true ↔ escalates := by
      refine (hfirst.escalatesDue_iff hstate (e := hold) ?_)
      rw [hcustody₀]
      exact hhold
    have hcounting : (s.startPresented kept).checkinCounting = true ↔ counting := hfirst.counting_iff hstate
    obtain ⟨hpowered, hmarker, hcause⟩ := hbegun.boot
    obtain ⟨hchallenge, hgeometry, hroot, hauth, hpolicy, hpairing, hstore⟩ := hbegun.records
    obtain ⟨hverdict, hwindow, hcheckin, hsecs, hescsecs, hforeign⟩ := hbegun.custody
    obtain ⟨hlen, hlink, hsilence, hposition, hsent⟩ := hbegun.lane
    obtain ⟨hid, hjob⟩ := hbegun.scrub
    have hlockout : y.tries.lockout = st.tries.lockout := by
      rw [hbegun.tries.1]
      rfl
    refine ⟨s.start kept, rfl, ?_⟩
    rw [hstart]
    refine ⟨hpowered, hmarker, hcause.trans (if_congr (by simp) rfl rfl), fun p => ?port, hchallenge, hgeometry, hroot, hauth,
      hpolicy, hpairing, hstore, hlockout, fun a => ?tries, hverdict, hwindow,
      hcheckin.trans hclock, hsecs, hescsecs, hforeign, hlen, hlink, hsilence, hposition, hsent, hid, hbegun.mode,
      hbegun.rights, fun hopen => ?opened, fun huse => ?inUse, fun hhid hno => ?hid, fun hesc htarget => ?escalates,
      fun r => ⟨hbegun.stored r, hbegun.key r⟩, hjob, fun hstale hlow j hj => ?job,
      fun hw ht he hf hx hwarn => ?writes⟩
    case port =>
      cases p with
      | drive =>
        obtain ⟨hrest, hnotices⟩ := startNotices_rest y.epoch y.custody.state y.drive
        obtain ⟨hrx, hslot, hflight, hdeferred⟩ := hrest (hbegun.idle .drive)
        exact ⟨hrx, hslot, hflight, hdeferred, hnotices⟩
      | platform =>
        obtain ⟨hrest, hnotices⟩ := startNotices_rest y.epoch y.custody.state y.platform
        obtain ⟨hrx, hslot, hflight, hdeferred⟩ := hrest (hbegun.idle .platform)
        exact ⟨hrx, hslot, hflight, hdeferred, hnotices⟩
    case tries =>
      obtain ⟨hfailures, hbackoff⟩ := failures_cappedTries st a
      obtain ⟨htried, hwait⟩ := hbegun.tries
      refine ⟨?_, ?_⟩
      · rw [htried]
        exact hfailures
      · rw [hwait]
        refine hbackoff.trans ?_
        rw [hfailures]
        rfl
    case opened =>
      have hidle : y = s.startPresented kept := by
        rw [hy]
        refine s.startTriggers_startPresented_of_idle kept ?_ ?_
        · rw [show s.store.custody.state = .opened from hopen]
          exact nofun
        · rw [show s.store.custody.state = .opened from hopen]
          exact fun h => nomatch h.1
      obtain ⟨x, e, hrange, hlane⟩ := s.startPresented_of_opened kept hopen
      rw [← hidle] at hrange hlane hepoch₀ hstate
      refine ⟨hepoch₀, hstate.trans ((s.store.startCustody_eq_opened).2 hopen), congrArg RangeEntry.read hrange,
        congrArg RangeEntry.write hrange, congrArg RangeEntry.lane hrange, fun l hl => ?_⟩
      obtain rfl : LaneRec.initial.bind 0 e = l := Option.some.inj (hlane.symm.trans hl)
      exact ⟨rfl, rfl, rfl⟩
    case inUse =>
      have hopen : (s.startPresented kept).custody.state ≠ .opened := by
        rw [hstate, Ne, s.store.startCustody_eq_opened]
        rcases huse with h | h <;> rw [h] <;> exact nofun
      have hlevels : (s.startPresented kept).policy = st.policy := hfirst.records.2.2.2.2.1
      refine ⟨fun h => ?_, fun h => ?_, fun h => ?_, fun ht he hf => ?_⟩
      · have hle := State.tries_le_startTriggers hopen (htries.2 h)
        rw [hlevels, ← hy] at hle
        exact hle
      · have hle := State.expired_le_startTriggers hopen (hexpired.2 h)
        rw [hlevels, ← hy] at hle
        exact hle
      · have hle := State.foreign_le_startTriggers hopen (hforeigns.2 h)
        rw [hlevels, ← hy] at hle
        exact hle
      · obtain ⟨hepoch, hquietState⟩ := s.startTriggers_of_quiet kept huse (Bool.eq_false_iff.2 fun h => ht (htries.1 h))
          (Bool.eq_false_iff.2 fun h => he (hexpired.1 h)) (Bool.eq_false_iff.2 fun h => hf (hforeigns.1 h))
        rw [← hy] at hepoch hquietState
        refine ⟨hepoch, hquietState.trans (if_congr (or_congr_right (and_congr hcounting ?_)) rfl rfl)⟩
        rw [hclock]
        rfl
    case hid =>
      have hidle : y = s.startPresented kept := by
        rw [hy]
        refine s.startTriggers_startPresented_of_idle kept ?_ fun h => hno (hescalates.1 ?_)
        · rcases hhid with h | h | h | h <;> rw [show s.store.custody.state = _ from h] <;> simp
        · exact (hfirst.escalatesDue_iff hstate (by rw [hcustody₀])).2 h
      rw [← hidle] at hstate hcustody₀ hepoch₀
      refine ⟨hstate, ?_, hepoch₀⟩
      exact (congrArg CustodyCtl.escalation hcustody₀).trans hhold
    case escalates =>
      obtain ⟨⟨e, he, hkey⟩, hcustody', hepoch', hjob', hwaiting', hdrive', hplatform'⟩ :=
        s.startTriggers_of_escalates kept (hhold.symm ▸ hesc) htarget
      rw [← hy] at he hcustody' hepoch' hjob' hwaiting' hdrive' hplatform'
      refine ⟨congrArg CustodyCtl.state hcustody', (congrArg CustodyCtl.escalation hcustody').trans hhold, hepoch', hjob',
        hwaiting', fun p => ?_, e, ?_, hkey⟩
      · cases p with
        | drive =>
          show (startNotices y.epoch y.custody.state y.drive).notices.map (fun n => n.kind) = _
          rw [hdrive']
          exact kinds_startNotices_push _ _ _ rfl
        | platform =>
          show (startNotices y.epoch y.custody.state y.platform).notices.map (fun n => n.kind) = _
          rw [hplatform']
          exact kinds_startNotices_push _ _ _ rfl
      · exact List.mem_append.2 ((List.mem_append.1 he).imp_left (hkept e))
    case job =>
      have hsame := s.scrub_startTriggers kept (hy ▸ hlow)
      have hno : ¬(s.store.stale ∨ s.store.ended) := by
        rintro (h | ⟨-, h⟩)
        · exact hstale h
        · exact Option.some_ne_none j (hj.symm.trans h)
      rw [← hy, hscrub₀, if_neg hno] at hsame
      refine ⟨(congrArg ScrubCtl.job hsame).trans ?_, congrArg ScrubCtl.waiting hsame⟩
      exact congrArg (Option.map Job.ofJournal) hj
    case writes =>
      have hpoint (h : (s.startPresented kept).checkinCounting = true ∧ (s.startPresented kept).custody.state = .guarded ∧
          (s.startPresented kept).policy.warningPoint ≤ (s.startPresented kept).custody.checkin) : warns := by
        obtain ⟨hcount, hguarded, hpoint⟩ := h
        have hcounts := hcounting.1 hcount
        obtain ⟨-, -, -, -, hlevels, -, -⟩ := hfirst.records
        rw [hlevels, hfirst.custody.2.2.1, hclock] at hpoint
        exact ⟨hcounts, (Records.startCustody_of_inUse hcounts.1).symm.trans (hstate.symm.trans hguarded), hpoint⟩
      obtain ⟨hqueue, hheld⟩ := s.queue_startTriggers_of_quiet kept (Bool.eq_false_iff.2 fun h => ht (htries.1 h))
        (Bool.eq_false_iff.2 fun h => he (hexpired.1 h)) (Bool.eq_false_iff.2 fun h => hx (hescalates.1 h))
        (Bool.eq_false_iff.2 fun h => hf (hforeigns.1 h)) fun h => hwarn (hpoint h)
      rw [← hy, hqueue₀] at hqueue
      rw [← hy, hheld₀] at hheld
      have hend : (s.startLoad kept).endRecord = ⟨.spent, c.foreignCount, clock, true, hold, true, c.target⟩ := by
        rw [← hclock, ← hhold]
        rfl
      have hwrites : (s.store.corrections (s.startLoad kept).endRecord).flatMap (fun e => e.writes) = writes := by
        rw [Records.writes_corrections, hend, Records.correctedWrites, allRanges_eq_finRange]
        rfl
      have hone (e : Entry) (he : e ∈ s.store.corrections (s.startLoad kept).endRecord) : e.One :=
        Records.one_of_mem_corrections he
      rw [hquiet hw]
      refine ⟨?_, ?_⟩
      · rw [← hwrites]
        show (y.queue ++ y.held).flatMap (fun e => e.writes) = _
        rw [hqueue, hheld, List.take_append_drop]
      · rw [← hwrites, length_flatMap_writes hone]
        show nonFinal y.queue = _
        rw [hqueue, nonFinal_of_plain fun e he => (hone e (List.mem_of_mem_take he)).key_ne, List.length_take]
  · refine ⟨s.load false .none, ?_, rfl, rfl, rfl, rfl, rfl, rfl, fun p => by cases p <;> rfl, fun r => ?_⟩
    · exact congrArg Host.Outcome.next (if_pos hp)
    · exact congrArg RangeEntry.hasRight (getElem_mapVec ..)

end Sys2Proof.Machine
